-- ==== Sys2Proof/Word.lean ====
section
/-! DEFINITION. The word types of the part: bytes of its serial lines and its 32-bit wrapping times.
Arithmetic that a rule of the spec fixes (rounding, square root, CRC) stands in Machine/Operands.lean. -/

namespace Sys2Proof

/-- One byte of the control link, of a radio frame or of a note (R182, R39). -/
abbrev Byte := BitVec 8

/-- A time or a count modulo 2^32: local µs time, local ms, valley ms, slot numbers (00 §4.1, R51, R128). -/
abbrev Time := BitVec 32

/-- The interval from `b` to `a`, their difference modulo 2^32 (00 §4.2). -/
def Time.since (a b : Time) : Nat := (a - b).toNat

/-- Time `a` is at or after time `b`: (a − b) mod 2^32 is less than 2^31 (00 §4.2). -/
def Time.atOrAfter (a b : Time) : Bool := decide ((a - b).toNat < 2 ^ 31)

end Sys2Proof
end

