-- ==== Sys2Proof/Config.lean ====
section
/-! DEFINITION. What is fixed for the part (its constants) and the configuration record's type (10 §10.5).
The two free values, the bytes of contents whose layout the spec does not state, stand as opaque constants
Config.readoutBytes and Config.contentBytes in Machine/Transmission.lean, after the types they are bytes of. -/

namespace Sys2Proof

/-- The 43 fields of the configuration record, in field order, each at its coded value (10 §10.5, R191).
The two orientation signs keep their codes 0x01 and 0xFF; field 43 keeps its three enable bits. -/
structure ConfigRecord where
  carId : Nat
  carLength : Nat
  pinionOffset : Nat
  readerOffset : Nat
  lPin : Nat
  lWhl : Nat
  pinSign : Nat
  whlSign : Nat
  pinRate : Nat
  whlRate : Nat
  uMax : Nat
  markerAccuracy : Nat
  agreeTol : Nat
  engageTol : Nat
  window : Nat
  tStill : Nat
  rollaway : Nat
  entranceMoving : Nat
  rSv : Nat
  rEm : Nat
  aFloor : Nat
  tR : Nat
  dG : Nat
  vCar : Nat
  vShunt : Nat
  vRl : Nat
  horizon : Nat
  mS : Nat
  mE : Nat
  mR : Nat
  tCheck : Nat
  kEff : Nat
  holdLevel : Nat
  m : Nat
  wSync : Nat
  tFreeze : Nat
  tLost : Nat
  transit : Nat
  closedTol : Nat
  openCount : Nat
  stallMin : Nat
  warningTime : Nat
  enables : Nat
  deriving DecidableEq, Repr

/-- The power-on values of the configuration record (10 §10.5, last column). -/
def ConfigRecord.powerOn : ConfigRecord where
  carId := 0
  carLength := 40000
  pinionOffset := 0
  readerOffset := 0
  lPin := 500
  lWhl := 500
  pinSign := 1
  whlSign := 1
  pinRate := 2
  whlRate := 10
  uMax := 10000
  markerAccuracy := 200
  agreeTol := 300
  engageTol := 400
  window := 200
  tStill := 1000
  rollaway := 250
  entranceMoving := 100
  rSv := 500
  rEm := 500
  aFloor := 300
  tR := 1200
  dG := 6000
  vCar := 1000
  vShunt := 1500
  vRl := 1500
  horizon := 2000000
  mS := 200
  mE := 500
  mR := 300
  tCheck := 1500
  kEff := 50
  holdLevel := 48
  m := 2
  wSync := 5
  tFreeze := 2000
  tLost := 20000
  transit := 0
  closedTol := 20
  openCount := 4095
  stallMin := 20
  warningTime := 3000
  enables := 7

/-- Gravity g, 9807 mm/s², fixed (00 §4.1). -/
def Config.gravity : Nat := 9807
/-- The greatest speed the part holds, 15,000 mm/s (00 §4.1, R4, R96). -/
def Config.maxSpeed : Nat := 15000
/-- u saturates at 65,535 mm (R10); also the limit of the mm value of movement since standstill (R6). -/
def Config.maxUncertainty : Nat := 65535
/-- The greatest position and distance, 16,777,215 mm (00 §4.1, R8). -/
def Config.maxDistance : Nat := 16777215
/-- Age at which a ring entry is stale, 2,000,000 µs (R3). -/
def Config.staleAge : Nat := 2000000
/-- Reference travel of one agreement span, 10,000,000 µm (R18). -/
def Config.agreementTravel : Nat := 10000000
/-- Entries in an increment ring (R3). -/
def Config.ringSize : Nat := 64
/-- Entries in the marker capture log (R17). -/
def Config.logSize : Nat := 8
/-- Segment places of a bank (R26). -/
def Config.places : Nat := 128
/-- Bits of a radio frame (R39). -/
def Config.frameBits : Nat := 384
/-- A new offset that differs from the held one by more than this many ms is a jump (R52). -/
def Config.timeJump : Nat := 500
/-- Places of the uplink note queue (R57). -/
def Config.noteQueue : Nat := 4
/-- Places of the acknowledgement ring (R58). -/
def Config.ackRing : Nat := 4
/-- Places of the restriction list (R71). -/
def Config.restrictionList : Nat := 16
/-- Entries of the look-ahead list (R94). -/
def Config.lookAhead : Nat := 8
/-- Slots of a brake channel (R128). -/
def Config.slots : Nat := 64
/-- Slots of one write (R132). -/
def Config.writeSlots : Nat := 32
/-- Slots an absolute write lies ahead of the emitting slot (R132). -/
def Config.absoluteLead : Nat := 4
/-- Farthest distance of the write window (R133). -/
def Config.writeWindow : Nat := 48
/-- Places of the receive buffer (R185). -/
def Config.receiveBuffer : Nat := 4
/-- Places of the report queue (R178). -/
def Config.reportQueue : Nat := 24
/-- Largest payload of a control frame (R182). -/
def Config.maxPayload : Nat := 112
/-- The byte timeout, 10 ms in µs (R184). -/
def Config.byteTimeout : Nat := 10000
/-- Time an unlock or a lock test may take, 500,000 µs (R146, R152). -/
def Config.lockTime : Nat := 500000
/-- Rest of a reopening leaf, 1,000,000 µs (R150). -/
def Config.pauseTime : Nat := 1000000
/-- A stall window, 200,000 µs (R149). -/
def Config.stallWindow : Nat := 200000
/-- Counts a leaf reopens at an obstacle (R150). -/
def Config.reopenCounts : Nat := 300
/-- Counts below open_count that count as the open position (R145). -/
def Config.openSlack : Nat := 20
/-- Vendor code (R193). -/
def Config.vendorCode : Nat := 0x0B2E
/-- Part code of the KR-24 (R193). -/
def Config.partCode : Nat := 0x0018
/-- Revision number (R193). -/
def Config.revision : Nat := 1

end Sys2Proof
end

