-- ==== Sys2Proof/Syntax.lean ====
section
/-! DEFINITION. The commands of the part: one constructor of Instr for each row of spec/opcode_table.json.
Every command but POWER_ON carries `t`, the local µs time at which it is taken (assumption 1); every request
carries the TAG of its frame (R182) and its payload fields at their coded widths (10 §10.4, §10.7). -/

namespace Sys2Proof

/-- The two quadrature counters (R1). -/
inductive Counter where
  | pinion
  | wheel
  deriving DecidableEq, Repr

/-- What the phase relation of a quadrature input says of one edge (R1): the raw direction, positive or negative,
before the orientation sign; or no direction, both phases having changed (assumption 7). -/
inductive Edge where
  | forward
  | backward
  | bothPhases
  deriving DecidableEq, Repr

/-- The three brake channels (00 §3, R128). -/
inductive Channel where
  | service
  | band
  | emergency
  deriving DecidableEq, Repr

/-- What an entrance cycle samples at one leaf (R143): the level of the data line just before the burst, the 13 bits
of the burst in the order sent (bit 12 first: 12 data bits, then parity), and the lock-proven input. -/
structure LeafInput where
  idleHigh : Bool
  burst : BitVec 13
  lockProven : Bool
  deriving DecidableEq, Repr

/-- Eight like things, one for each leaf 0 to 7 (08 §8.1). -/
structure Eight (α : Type) where
  e0 : α
  e1 : α
  e2 : α
  e3 : α
  e4 : α
  e5 : α
  e6 : α
  e7 : α
  deriving DecidableEq, Repr

/-- The fifteen fields of LOAD SEGMENT as coded in its payload (10 §10.7). -/
structure SegmentFields where
  index : BitVec 8
  start : BitVec 24
  kind : BitVec 8
  pull : BitVec 16
  limitUp : BitVec 16
  limitDown : BitVec 16
  platformPresent : BitVec 8
  platformSide : BitVec 8
  platformFrom : BitVec 24
  platformTo : BitVec 24
  station : BitVec 8
  markerPresent : BitVec 8
  markerId : BitVec 8
  markerPosition : BitVec 24
  markerWindow : BitVec 16
  deriving DecidableEq, Repr

/-- The commands: one constructor for each row of spec/opcode_table.json. -/
inductive Instr where
  | powerOn (strap1 strap2 : Bool)
  | increment (t : Time) (input : Counter) (edge : Edge)
  | agreementSpanComplete (t : Time)
  | ringEntryStale (t : Time)
  | standstillDeclared (t : Time)
  | markerDetectorEdge (t : Time)
  | matchCompletion (t : Time)
  | supervisionPass (t : Time)
  | effortWindowJudgement (t : Time)
  | slotPeriodStart (t : Time)
  | channelIdle (t : Time) (channel : Channel)
  | patternWrite (t : Time) (channel : Channel)
  | huntFind (t : Time) (bits : List Bool)
  | frameCompletion (t captured : Time) (bits : List Bool)
  | blankSpanEnd (t : Time) (bits : List Bool)
  | localMsAdvance (t : Time)
  | tFreezeExpiry (t : Time)
  | tLostExpiry (t : Time)
  | authorityExpiry (t : Time)
  | restrictionExpiry (t : Time)
  | uplinkFrameBuild (t : Time)
  | entranceCycle (t : Time) (inputs : Eight LeafInput)
  | unlockTimeout (t : Time) (leaf : Fin 8)
  | lockTimeout (t : Time) (leaf : Fin 8)
  | warningTimeElapsed (t : Time) (leaf : Fin 8)
  | reopenPauseElapsed (t : Time) (leaf : Fin 8)
  | stallWindowEnd (t : Time) (leaf : Fin 8)
  | controlByteReceived (t : Time) (byte : Byte) (framingError : Bool)
  | byteTimeout (t : Time)
  | transmissionEnd (t : Time)
  | unknownKind (t : Time) (tag kind : Byte) (payload : List Byte)
  | setModeParked (t : Time) (tag : Byte)
  | setModeShunt (t : Time) (tag : Byte)
  | setModeLine (t : Time) (tag : Byte)
  | driveState (t : Time) (tag selector traction brake : Byte)
  | releaseTrip (t : Time) (tag : Byte)
  | detectorTest (t : Time) (tag : Byte)
  | clearFaultRecord (t : Time) (tag : Byte)
  | readFaultRecord (t : Time) (tag : Byte)
  | readTripRecord (t : Time) (tag : Byte)
  | readLookahead (t : Time) (tag : Byte)
  | setPosition (t : Time) (tag : Byte) (position : BitVec 24) (uncertainty : BitVec 16)
  | readOdometry (t : Time) (tag : Byte)
  | readMarkerLog (t : Time) (tag : Byte)
  | loadHeader (t : Time) (tag : Byte) (lineId : BitVec 16) (count : Byte) (lineEnd : BitVec 24)
  | loadSegment (t : Time) (tag : Byte) (fields : SegmentFields)
  | checkBank (t : Time) (tag : Byte)
  | swapBank (t : Time) (tag : Byte)
  | readSegment (t : Time) (tag bank index : Byte)
  | readBankState (t : Time) (tag : Byte)
  | readAuthority (t : Time) (tag : Byte)
  | readRestrictions (t : Time) (tag first : Byte)
  | readRadio (t : Time) (tag : Byte)
  | clearRadioCounters (t : Time) (tag : Byte)
  | uplinkNote (t : Time) (tag : Byte) (text : List Byte)
  | entranceOpen (t : Time) (tag side : Byte)
  | entranceClose (t : Time) (tag side : Byte)
  | isolateOn (t : Time) (tag leaf : Byte)
  | isolateOff (t : Time) (tag leaf : Byte)
  | takeoverRequest (t : Time) (tag side : Byte)
  | takeoverReturn (t : Time) (tag side : Byte)
  | readEntrances (t : Time) (tag : Byte)
  | readAlerts (t : Time) (tag : Byte)
  | ackAlerts (t : Time) (tag : Byte) (kinds : BitVec 24)
  | readStatus (t : Time) (tag : Byte)
  | configure (t : Time) (tag : Byte) (record : ConfigRecord)
  | readConfiguration (t : Time) (tag : Byte)
  | restart (t : Time) (tag : Byte)
  | identify (t : Time) (tag : Byte)
  | searchPointAdvance (t : Time) (bit : Bool)
  deriving DecidableEq, Repr

end Sys2Proof
end

