-- ==== Sys2Proof/Machine/State.lean ====
section
/-! DEFINITION. The state of the part, block by block, as plain data, and its value after reset.
Each block's structure names the rules its fields come from; INVENTORY.md lists every field with its reset value. -/

namespace Sys2Proof.Machine

/-! ## Local time (00 §4.1, R51) -/

/-- Local µs time, local ms and the whole µs counted since local ms last advanced (R51). -/
structure Clock where
  now : Time
  localMs : Time
  subMs : Nat
  deriving DecidableEq, Repr

/-! ## Odometry Unit (chapter 1) -/

/-- A direction along the line (00 §4.3): up is toward increasing position. -/
inductive Dir where
  | up
  | down
  deriving DecidableEq, Repr

/-- One entry of an increment ring (R3). -/
structure RingEntry where
  time : Time
  dir : Dir
  stale : Bool
  deriving DecidableEq, Repr

/-- Localisation of the position record (R11). -/
inductive Localisation where
  | unlocalised
  | localised
  | degraded
  deriving DecidableEq, Repr

/-- The marker part of a segment record (02 §2.2). -/
structure Marker where
  id : Nat
  position : Nat
  window : Nat
  deriving DecidableEq, Repr

/-- A missed-marker test that waits for a capture: the marker that a reference increment found expected while the capture
pended, and the direction of that increment (R14). -/
structure WaitingTest where
  dir : Dir
  marker : Marker
  deriving DecidableEq, Repr

/-- A pending marker capture (R13), with the interpolated travel and the marker expected at the edge (R15), and the missed
tests that wait for it, the oldest first (R14). -/
structure Capture where
  edgeTime : Time
  count : BitVec 32
  edgeUm : Nat
  uncertainty : Nat
  newest : Option RingEntry
  before : Option RingEntry
  dir : Dir
  travel : Nat
  expected : Option Marker
  waiting : List WaitingTest
  deriving DecidableEq, Repr

/-- One entry of the marker capture log (R17). -/
structure LogEntry where
  edgeTime : Time
  markerId : Nat
  before : Nat
  after : Nat
  accepted : Bool
  deriving DecidableEq, Repr

/-- The three distances of the agreement span, in µm (R18). -/
structure Span where
  pin : Int
  whl : Int
  travel : Nat
  deriving DecidableEq, Repr

/-- The engagement check (R19, R20): `kept` is the UNPROVEN index an ARMED check keeps beside its own. -/
inductive Engagement where
  | idle
  | armed (segment : Nat) (pin whl : Int) (kept : Option Nat)
  | unproven (segment : Nat)
  deriving DecidableEq, Repr

/-- The Odometry Unit's state (chapter 1, R1 to R20). -/
structure Odometry where
  pinCount : BitVec 32
  whlCount : BitVec 32
  pinErrors : Nat
  whlErrors : Nat
  pinRing : List RingEntry
  whlRing : List RingEntry
  speed : Nat
  standstill : Bool
  direction : Dir
  movementUm : Int
  position : Nat
  remainder : Nat
  uncertainty : Nat
  credit : Nat
  localisation : Localisation
  lossFlag : Bool
  lastAccepted : Option Nat
  distance : Nat
  distanceRem : Nat
  missed : Nat
  lastPassed : Option Nat
  lastRefDir : Option Dir
  capture : Option Capture
  log : List LogEntry
  span : Span
  disagree : Bool
  engagement : Engagement
  deriving DecidableEq, Repr

/-! ## Line Store (chapter 2) -/

/-- The kind of a segment (02 §2.2). -/
inductive SegKind where
  | adhesion
  | rack
  | rackEntry
  deriving DecidableEq, Repr

/-- The side of a platform extent (02 §2.2). -/
inductive PlatformSide where
  | left
  | right
  | both
  deriving DecidableEq, Repr

/-- The platform part of a segment record (02 §2.2). -/
structure Platform where
  side : PlatformSide
  fromPos : Nat
  toPos : Nat
  station : Nat
  deriving DecidableEq, Repr

/-- A segment record (02 §2.2); an absent pull is UNSURVEYED. -/
structure Segment where
  start : Nat
  kind : SegKind
  pull : Option Int
  limitUp : Nat
  limitDown : Nat
  platform : Option Platform
  marker : Option Marker
  deriving DecidableEq, Repr

/-- The state of a bank (R24). -/
inductive BankState where
  | empty
  | loading
  | checked
  | active
  deriving DecidableEq, Repr

/-- The reason of a failed check, in the order of the tests (R28). -/
inductive CheckReason where
  | noHeader
  | notLoaded
  | firstStart
  | startOrder
  | startBeyondEnd
  | markerOutside
  | markerIdRepeat
  | platformOrder
  | platformBeyondLine
  deriving DecidableEq, Repr

/-- A bank's check outcome (R29). -/
inductive CheckOutcome where
  | unchecked
  | passed
  | failed (reason : CheckReason) (index : Option Nat)
  deriving DecidableEq, Repr

/-- A bank's header (02 §2.2). -/
structure Header where
  lineId : Nat
  count : Nat
  lineEnd : Nat
  deriving DecidableEq, Repr

/-- One line bank (R24 to R29): the header and each of the 128 places are present when their loaded flag is set. -/
structure Bank where
  state : BankState
  header : Option Header
  places : List (Option Segment)
  outcome : CheckOutcome
  deriving DecidableEq, Repr

/-- The names of the two banks (R24). -/
inductive BankName where
  | a
  | b
  deriving DecidableEq, Repr

/-- The Line Store's state (chapter 2). -/
structure LineStore where
  a : Bank
  b : Bank
  active : Option BankName
  deriving DecidableEq, Repr

/-! ## Radio Framer (chapter 3) -/

/-- The sync state (R41 to R43). -/
inductive Sync where
  | hunt
  | confirm
  | locked
  deriving DecidableEq, Repr

/-- The radio state (R48). -/
inductive RadioState where
  | ok
  | degraded
  | lost
  deriving DecidableEq, Repr

/-- One entry of the acknowledgement ring (R58). -/
structure AckEntry where
  id : Nat
  accepted : Bool
  deriving DecidableEq, Repr

/-- The Radio Framer's state (chapter 3). -/
structure Radio where
  sync : Sync
  searchPoint : Nat
  bits : List Bool
  expected : Option Nat
  confirmCount : Nat
  history : List Bool
  settling : Nat
  settled : Bool
  spanBits : Nat
  spanZeros : Nat
  blankCount : Nat
  captureMs : Time
  goodFrames : Nat
  crcErrors : Nat
  alignErrors : Nat
  huntRestarts : Nat
  state : RadioState
  lastGood : Option Time
  unheard : Bool
  offset : Option Time
  uplinkNumber : Nat
  notes : List (List Byte)
  ring : List AckEntry
  uplinkFrame : List Byte
  deriving DecidableEq, Repr

/-! ## Route Store (chapter 4) -/

/-- The authority record (04 §4.3). -/
structure Authority where
  seq : Byte
  dir : Dir
  endPos : Nat
  release : Option Nat
  expiry : Option Time
  deriving DecidableEq, Repr

/-- One entry of the restriction list (04 §4.4). -/
structure Restriction where
  id : Nat
  fromPos : Nat
  toPos : Nat
  limit : Nat
  expiry : Option Time
  deriving DecidableEq, Repr

/-- The Route Store's state (chapter 4). -/
structure Route where
  authority : Option Authority
  restrictions : List Restriction
  cap : Option Nat
  holds : List Nat
  version : Byte
  deriving DecidableEq, Repr

/-! ## Supervisor (chapters 5 and 6) -/

/-- The mode (R105). -/
inductive Mode where
  | init
  | parked
  | shunt
  | line
  | tripped
  deriving DecidableEq, Repr

/-- The direction selector (R108). -/
inductive Selector where
  | up
  | down
  | neutral
  deriving DecidableEq, Repr

/-- The drive state (R108). -/
structure Drive where
  selector : Selector
  traction : Bool
  brake : Nat
  deriving DecidableEq, Repr

/-- The intervention level (R109). -/
inductive Level where
  | none
  | warning
  | service
  | emergency
  deriving DecidableEq, Repr

/-- The trip causes, in the cause order (R111). -/
inductive Cause where
  | overspeed
  | authorityOverrun
  | entranceOpenMoving
  | rollaway
  | brakeEffort
  | rackEngagement
  | outputFault
  deriving DecidableEq, Repr

/-- The trip record (R115); the cause set is kept in the cause order. -/
structure TripRecord where
  first : Cause
  position : Nat
  speed : Nat
  permitted : Nat
  time : Time
  modeBefore : Mode
  causes : List Cause
  deriving DecidableEq, Repr

/-- The brake effort monitor (R119). -/
inductive Effort where
  | idle
  | running (start : Time) (speed : Nat)
  deriving DecidableEq, Repr

/-- The demand of a single channel (R122, R123). -/
inductive SingleDemand where
  | apply
  | release
  deriving DecidableEq, Repr

/-- The three demands a pass sets (R121 to R123). -/
structure Demands where
  service : Nat
  band : SingleDemand
  emergency : SingleDemand
  deriving DecidableEq, Repr

/-- The writes the latest pass has prepared and not yet delivered (R104 stage 5, R123; assumption 10). -/
structure Prepared where
  service : Option Nat
  band : Option SingleDemand
  emergency : Option SingleDemand
  deriving DecidableEq, Repr

/-- The stop point (R112). -/
structure StopPoint where
  position : Nat
  dir : Dir
  deriving DecidableEq, Repr

/-- The kinds of supervision fault (R98). -/
inductive FaultKind where
  | unsurveyed
  | unbrakeable
  | test
  deriving DecidableEq, Repr

/-- The supervision fault record (R99): its position is that of the pass inputs. -/
structure FaultRecord where
  kind : FaultKind
  segment : Option Nat
  position : Nat
  time : Time
  deriving DecidableEq, Repr

/-- The limiting term of the ceiling: MODE (R81), then the terms of R86 in their order. -/
inductive Term where
  | mode
  | segment
  | engagementCap
  | restriction
  | overflowCap
  | carMaximum
  | shunt
  | radioLost
  | positionDegraded
  | unlocalised
  deriving DecidableEq, Repr

/-- What ended the scan, in the naming order of R89. -/
inductive ScanEnd where
  | authorityEnd
  | frontEstimate
  | lineEnd
  | horizon
  deriving DecidableEq, Repr

/-- The kind of a target (R92), in the kind order of R93. -/
inductive TargetKind where
  | authorityEnd
  | lineEnd
  | restriction
  | segment
  deriving DecidableEq, Repr

/-- A target record of the look-ahead list (R92). -/
structure Target where
  kind : TargetKind
  position : Nat
  distance : Nat
  speed : Nat
  worstPull : Int
  unsurveyed : Bool
  source : Option Nat
  vPerm : Nat
  deriving DecidableEq, Repr

/-- The results of the latest pass (R81, R102); an absent giver of the permitted speed is CEILING (R97). -/
structure PassResults where
  time : Time
  mode : Mode
  dir : Dir
  speed : Nat
  front : Nat
  reaction : Nat
  ceiling : Nat
  term : Term
  termSource : Option Nat
  pull : Int
  pullUnsurveyed : Bool
  netService : Nat
  scanEnd : Option (Nat × ScanEnd)
  merged : Bool
  targets : List Target
  permitted : Nat
  giver : Option Nat
  deriving DecidableEq, Repr

/-- The Supervisor's state (chapters 5 and 6). `inputPosition` is the position of the inputs of the latest pass (R81,
R99), `holdLevel` the hold level that the latest pass applied (R121, R199). -/
structure Supervisor where
  mode : Mode
  modeBefore : Option Mode
  drive : Drive
  level : Level
  stopPoint : Option StopPoint
  trip : Option TripRecord
  effort : Effort
  engagementFailure : Bool
  outputFault : Bool
  demands : Demands
  prepared : Prepared
  testStep : Nat
  pass : PassResults
  inputPosition : Nat
  holdLevel : Nat
  faultRecord : Option FaultRecord
  faultSeen : Bool
  deriving DecidableEq, Repr

/-! ## Brake Output Unit (chapter 7) -/

/-- One slot of a channel (R129): fresh from its placement to the start of its emission. -/
structure Slot where
  energised : Bool
  valid : Bool
  fresh : Bool
  deriving DecidableEq, Repr

/-- A channel's addressing (R132, R133). -/
inductive Addressing where
  | absolute
  | relative (next : BitVec 32)
  deriving DecidableEq, Repr

/-- A channel's last fault (R134, R135). -/
inductive LastFault where
  | none
  | copy
  | starved
  deriving DecidableEq, Repr

/-- The demand a write carries (07 §7.3): a duty for SERVICE, APPLY or RELEASE for a single channel. -/
inductive Demand where
  | duty (d : Nat)
  | single (d : SingleDemand)
  deriving DecidableEq, Repr

/-- One brake channel (chapter 7). -/
structure BrakeChannel where
  slots : List Slot
  addressing : Addressing
  latest : Demand
  writeSlot : BitVec 32
  starved : Bool
  run : Nat
  lastFault : LastFault
  output : Bool
  defaultEmitted : Bool
  deriving DecidableEq, Repr

/-- The Brake Output Unit's state (chapter 7); `started` says that the period of slot number 0 has begun
(assumption 9). -/
structure Brake where
  slotNumber : BitVec 32
  started : Bool
  service : BrakeChannel
  band : BrakeChannel
  emergency : BrakeChannel
  deriving DecidableEq, Repr

/-! ## Entrance Controller (chapter 8) -/

/-- A side of the car, facing uphill (00 §4.3). -/
inductive Side where
  | left
  | right
  deriving DecidableEq, Repr

/-- The state of a leaf (R145). -/
inductive LeafState where
  | closed
  | unlocking
  | opening
  | opened
  | warning
  | closing
  | reopening
  | obstructed
  | fault
  | isolated
  | manual
  deriving DecidableEq, Repr

/-- The phase of a leaf in CLOSING or REOPENING (R145). -/
inductive Phase where
  | driving
  | locking
  | turning
  | pause
  deriving DecidableEq, Repr

/-- The cause of a leaf's FAULT (R154). -/
inductive LeafCause where
  | sensor
  | lockNotProven
  | unlockFailed
  | forced
  deriving DecidableEq, Repr

/-- A leaf's motor output (R145). -/
inductive Motor where
  | off
  | opening
  | closing
  | notDriven
  deriving DecidableEq, Repr

/-- A leaf's lock output (R145). -/
inductive Lock where
  | engaged
  | released
  | notDriven
  deriving DecidableEq, Repr

/-- The leaf record (R145). -/
structure LeafRecord where
  state : LeafState
  phase : Option Phase
  position : Option Nat
  pending : Bool
  failed : Nat
  lockProven : Bool
  attempts : Nat
  cause : Option LeafCause
  returnMark : Bool
  stateTime : Time
  stall : Option (Nat × Time)
  target : Option Nat
  motor : Motor
  lock : Lock
  deriving DecidableEq, Repr

/-- The reason a side's release is WITHHELD, in the order of the tests (R160). -/
inductive WithheldReason where
  | mode
  | moving
  | brake
  | platform
  | hold
  deriving DecidableEq, Repr

/-- A side's release (R160). -/
inductive Release where
  | granted
  | withheld (reason : WithheldReason)
  deriving DecidableEq, Repr

/-- A side's takeover (R162). -/
inductive Takeover where
  | none
  | pending
  | granted
  deriving DecidableEq, Repr

/-- The Entrance Controller's state (chapter 8). `closedTol` is the closed_tol that the latest cycle applied, by which its
reads are judged until the next (R145, R157, R190). -/
structure Entrances where
  leaves : Eight LeafRecord
  releaseLeft : Release
  releaseRight : Release
  takeoverLeft : Takeover
  takeoverRight : Takeover
  allLocked : Bool
  cycleTime : Option Time
  closedTol : Nat
  deriving DecidableEq, Repr

/-! ## Alert Set and report queue (chapter 9) -/

/-- The 21 alert kinds, in the order of their numbers (09 §9.1). -/
inductive AlertKind where
  | radioDegraded
  | radioLost
  | carrierBlank
  | valleyUnheard
  | positionDegraded
  | odometryDisagree
  | overspeedWarning
  | serviceIntervention
  | entranceObstructed
  | entranceFault
  | restrictionCap
  | engagementUnproven
  | trip
  | markerUnexpected
  | markerMissed
  | restrictionRefused
  | authorityExpired
  | valleyTimeJump
  | supervisionFault
  | linkFrameBad
  | outputFault
  deriving DecidableEq, Repr

/-- The class of an alert kind (09 §9.1). -/
inductive AlertClass where
  | condition
  | event
  deriving DecidableEq, Repr

/-- One alert entry (R169). -/
structure AlertEntry where
  active : Bool
  forced : Bool
  latched : Bool
  count : Nat
  deriving DecidableEq, Repr

/-- The cause a MODE CHANGE report carries (R107). -/
inductive ModeCause where
  | request
  | trip
  | release
  deriving DecidableEq, Repr

/-- What a report carries (09 §9.6). An alert set is its 3 bytes, kind n at bit n (10 §10.7). -/
inductive ReportBody where
  | alert (kind : AlertKind) (cls : AlertClass) (forced : Bool) (latched : BitVec 24)
  | modeChange (former new : Mode) (cause : ModeCause)
  | intervention (former new : Level) (speed permitted : Nat)
  | entrance (leaf : Nat) (state : LeafState) (cause : Option LeafCause)
  | release (side : Side) (release : Release)
  | takeover (side : Side) (state : Takeover)
  | marker (id : Nat) (correction : Int)
  | authority (seq : Byte) (endPos : Nat) (taken : Bool)
  | crewNotice (text : List Byte)
  deriving DecidableEq, Repr

/-- A report in the queue or in transmission (R178, R188): its number, its posting time and its gap mark. -/
structure Report where
  number : Byte
  time : Time
  gap : Nat
  body : ReportBody
  deriving DecidableEq, Repr

/-- The Alert Set's and the report queue's state (chapter 9). -/
structure Notice where
  alerts : List AlertEntry
  queue : List Report
  nextNumber : Byte
  drops : Nat
  deriving DecidableEq, Repr

/-! ## Control Link (chapter 10): readouts, replies, frames -/

/-- READ ODOMETRY's readout (R22). -/
structure OdometryReadout where
  pinCount : Int
  whlCount : Int
  pinErrors : Nat
  whlErrors : Nat
  reference : Counter
  speed : Nat
  standstill : Bool
  direction : Dir
  position : Nat
  remainder : Nat
  uncertainty : Nat
  credit : Nat
  localisation : Localisation
  lossFlag : Bool
  segment : Option Nat
  lastAccepted : Option Nat
  distance : Nat
  missed : Nat
  movement : Int
  engagement : Engagement
  disagree : Bool
  expected : Option Nat
  deriving DecidableEq, Repr

/-- A bank's role, as READ BANK STATE shows it (R37). -/
inductive BankRole where
  | active
  | standby
  | neither
  deriving DecidableEq, Repr

/-- READ BANK STATE's readout of one bank (R37). -/
structure BankReadout where
  state : BankState
  role : BankRole
  header : Option Header
  loaded : Nat
  outcome : CheckOutcome
  deriving DecidableEq, Repr

/-- READ AUTHORITY's readout (R78). -/
structure AuthorityReadout where
  record : Option Authority
  timeKnown : Bool
  remaining : Option Nat
  frozen : Bool
  deriving DecidableEq, Repr

/-- READ RESTRICTIONS's readout (R79). -/
structure RestrictionsReadout where
  version : Byte
  count : Nat
  entries : List Restriction
  cap : Option Nat
  holds : List Nat
  frozen : Bool
  deriving DecidableEq, Repr

/-- READ RADIO's readout (R61). -/
structure RadioReadout where
  sync : Sync
  expected : Option Nat
  confirmCount : Option Nat
  settling : Option (Nat × Bool)
  history : List Bool
  wrong : Nat
  blankCount : Nat
  carrierBlank : Bool
  goodFrames : Nat
  crcErrors : Nat
  alignErrors : Nat
  huntRestarts : Nat
  state : RadioState
  age : Option Nat
  unheard : Bool
  valley : Option (Time × Time)
  lineId : Nat
  carId : Nat
  notes : Nat
  ring : List AckEntry
  ringCount : Nat
  deriving DecidableEq, Repr

/-- READ ENTRANCES's readout of one leaf (R166). -/
structure LeafReadout where
  leaf : LeafRecord
  sensedClosed : Bool
  locked : Bool
  deriving DecidableEq, Repr

/-- READ ENTRANCES's readout (R166). -/
structure EntrancesReadout where
  leaves : Eight LeafReadout
  releaseLeft : Release
  releaseRight : Release
  takeoverLeft : Takeover
  takeoverRight : Takeover
  allLocked : Bool
  obstructed : Bool
  fault : Bool
  cycleTime : Option Time
  deriving DecidableEq, Repr

/-- READ ALERTS's readout of one kind (R177). -/
structure AlertReadout where
  entry : AlertEntry
  indicated : Bool
  deriving DecidableEq, Repr

/-- READ ALERTS's readout (R177). -/
structure AlertsReadout where
  kinds : List AlertReadout
  latched : BitVec 24
  attention : Bool
  queued : Nat
  drops : Nat
  gapPending : Bool
  deriving DecidableEq, Repr

/-- What follows DONE in a reply (R188). Readouts whose layout 10 §10.7 or a rule gives are bytes; the others keep
named fields (assumption 24). -/
inductive Readout where
  | nothing
  | step (n : Nat)
  | leaves (n : Nat)
  | verdict (outcome : CheckOutcome)
  | latchedSet (kinds : BitVec 24)
  | odometry (r : OdometryReadout)
  | markerLog (entries : List LogEntry) (count : Nat)
  | faultRecord (record : Option FaultRecord) (seen : Bool) (enables : Nat)
  | tripRecord (mode : Mode) (record : Option TripRecord)
  | lookahead (results : PassResults)
  | bankState (a b : BankReadout)
  | authority (r : AuthorityReadout)
  | restrictions (r : RestrictionsReadout)
  | radio (r : RadioReadout)
  | entrances (r : EntrancesReadout)
  | alerts (r : AlertsReadout)
  | bytes (data : List Byte)
  deriving DecidableEq, Repr

/-- The result of a request (R187). -/
inductive Result where
  | done (readout : Readout)
  | accepted
  | refusedState
  | badField (number : Nat)
  | full
  | unknownKind
  deriving DecidableEq, Repr

/-- A complete request frame in the receive buffer (R183, R185). -/
structure Frame where
  kind : Byte
  tag : Byte
  payload : List Byte
  deriving DecidableEq, Repr

/-- A reply (R188): its KIND byte with the most significant bit set, the request's tag and the result. -/
structure Reply where
  kind : Byte
  tag : Byte
  result : Result
  deriving DecidableEq, Repr

/-- The frame the transmitter sends (R179). -/
inductive TxFrame where
  | reply (r : Reply)
  | report (r : Report)
  deriving DecidableEq, Repr

/-- The line rate (R182). -/
inductive LineRate where
  | r57600
  | r115200
  | r230400
  deriving DecidableEq, Repr

/-- The reception state (R183): the bytes of the frame in progress, sync byte first, and the time of the latest. -/
inductive Reception where
  | awaitSync
  | receiving (bytes : List Byte) (last : Time)
  deriving DecidableEq, Repr

/-- The Control Link's state (chapter 10), but for the configuration record. -/
structure Link where
  rate : LineRate
  reception : Reception
  buffer : List Frame
  waiting : Option Reply
  tx : Option TxFrame
  deriving DecidableEq, Repr

/-! ## The whole part -/

/-- The state of the part: its blocks, the configuration record and configured flag (10 §10.5), and the queue of
commands that wait, first in, first out. -/
structure State where
  clock : Clock
  odo : Odometry
  line : LineStore
  radio : Radio
  route : Route
  sup : Supervisor
  brake : Brake
  ent : Entrances
  notice : Notice
  link : Link
  cfg : ConfigRecord
  configured : Bool
  pending : List Instr
  deriving DecidableEq, Repr

/-- Why the part stops with a fault. The spec gives no fault that stops it: bad frames, failed reads and brake faults
are effects on the state (R184, R143, R134, R135), and every command answers a next state. No command raises this
constructor; it stands so that the type has a member. Safe: it is never answered. -/
inductive Fault where
  | neverRaised
  deriving DecidableEq, Repr

/-- Why a command has no meaning. -/
inductive Refusal where
  /-- A row of the table whose meaning is not written yet; raised by an arm of exec only. Safe: the run stops. -/
  | notModelled (mnemonic : String)
  deriving DecidableEq, Repr

/-! ## Values after power-on -/

/-- The Odometry Unit after power-on (R23; `lastRefDir`: assumption 17). -/
def Odometry.powerOn : Odometry where
  pinCount := 0
  whlCount := 0
  pinErrors := 0
  whlErrors := 0
  pinRing := []
  whlRing := []
  speed := 0
  standstill := true
  direction := .up
  movementUm := 0
  position := 0
  remainder := 0
  uncertainty := 65535
  credit := 0
  localisation := .unlocalised
  lossFlag := false
  lastAccepted := none
  distance := 0
  distanceRem := 0
  missed := 0
  lastPassed := none
  lastRefDir := none
  capture := none
  log := []
  span := ⟨0, 0, 0⟩
  disagree := false
  engagement := .idle

/-- A bank after power-on (R38). -/
def Bank.powerOn : Bank where
  state := .empty
  header := none
  places := List.replicate 128 none
  outcome := .unchecked

/-- The Line Store after power-on (R38). -/
def LineStore.powerOn : LineStore where
  a := Bank.powerOn
  b := Bank.powerOn
  active := none

/-- The Radio Framer after power-on (R62; `captureMs` and `uplinkFrame`: assumption 33). -/
def Radio.powerOn : Radio where
  sync := .hunt
  searchPoint := 0
  bits := []
  expected := none
  confirmCount := 0
  history := []
  settling := 0
  settled := false
  spanBits := 0
  spanZeros := 0
  blankCount := 0
  captureMs := 0
  goodFrames := 0
  crcErrors := 0
  alignErrors := 0
  huntRestarts := 0
  state := .lost
  lastGood := none
  unheard := false
  offset := none
  uplinkNumber := 0
  notes := []
  ring := []
  uplinkFrame := []

/-- The Route Store after power-on (R80). -/
def Route.powerOn : Route where
  authority := none
  restrictions := []
  cap := none
  holds := []
  version := 0

/-- The pass results before the first pass (R102, R103). -/
def PassResults.powerOn : PassResults where
  time := 0
  mode := .init
  dir := .up
  speed := 0
  front := 0
  reaction := 0
  ceiling := 0
  term := .mode
  termSource := none
  pull := 0
  pullUnsurveyed := false
  netService := 0
  scanEnd := none
  merged := false
  targets := []
  permitted := 0
  giver := none

/-- The Supervisor after power-on (R103, R127; `prepared`: assumption 10; `inputPosition`, `holdLevel`: assumption 52). -/
def Supervisor.powerOn : Supervisor where
  mode := .init
  modeBefore := none
  drive := ⟨.neutral, false, 64⟩
  level := .none
  stopPoint := none
  trip := none
  effort := .idle
  engagementFailure := false
  outputFault := false
  demands := ⟨64, .apply, .apply⟩
  prepared := ⟨none, none, none⟩
  testStep := 0
  pass := PassResults.powerOn
  inputPosition := 0
  holdLevel := 48
  faultRecord := none
  faultSeen := false

/-- The SERVICE channel after power-on (R141): all slots de-energised and valid, none fresh. -/
def BrakeChannel.servicePowerOn : BrakeChannel where
  slots := List.replicate 64 ⟨false, true, false⟩
  addressing := .absolute
  latest := .duty 0
  writeSlot := 0
  starved := false
  run := 0
  lastFault := .none
  output := false
  defaultEmitted := false

/-- A single channel after power-on (R141): all slots invalid (`defaultEmitted`: assumption 32). -/
def BrakeChannel.singlePowerOn : BrakeChannel where
  slots := List.replicate 64 ⟨false, false, false⟩
  addressing := .absolute
  latest := .single .apply
  writeSlot := 0
  starved := false
  run := 0
  lastFault := .none
  output := false
  defaultEmitted := true

/-- The Brake Output Unit after power-on (R141). -/
def Brake.powerOn : Brake where
  slotNumber := 0
  started := false
  service := BrakeChannel.servicePowerOn
  band := BrakeChannel.singlePowerOn
  emergency := BrakeChannel.singlePowerOn

/-- A leaf record after power-on (R167, R168). -/
def LeafRecord.powerOn : LeafRecord where
  state := .opened
  phase := none
  position := none
  pending := true
  failed := 0
  lockProven := false
  attempts := 0
  cause := none
  returnMark := false
  stateTime := 0
  stall := none
  target := none
  motor := .off
  lock := .engaged

/-- The Entrance Controller after power-on (R168; `closedTol`: assumption 52). -/
def Entrances.powerOn : Entrances where
  leaves := ⟨.powerOn, .powerOn, .powerOn, .powerOn, .powerOn, .powerOn, .powerOn, .powerOn⟩
  releaseLeft := .withheld .mode
  releaseRight := .withheld .mode
  takeoverLeft := .none
  takeoverRight := .none
  allLocked := false
  cycleTime := none
  closedTol := 20

/-- An alert entry at its clear value (R180). -/
def AlertEntry.clear : AlertEntry := ⟨false, false, false, 0⟩

/-- The Alert Set and the report queue at the values of the tables of R180 and R181, before the owners have
evaluated their conditions. -/
def Notice.powerOn : Notice where
  alerts := List.replicate 21 AlertEntry.clear
  queue := []
  nextNumber := 0
  drops := 0

/-- The Alert Set and the report queue once RADIO_LOST, active from power-on, has latched and its ALERT report has
taken number 0 and gone to the idle transmitter (R62, R176, R179, R180; assumption 3). -/
def Notice.afterPowerOn : Notice where
  alerts := AlertEntry.clear :: ⟨true, false, true, 1⟩ :: List.replicate 19 AlertEntry.clear
  queue := []
  nextNumber := 1
  drops := 0

/-- The ALERT report of RADIO_LOST that follows a power-on (R172, R180). -/
def Report.afterPowerOn : Report where
  number := 0
  time := 0
  gap := 0
  body := .alert .radioLost .condition false 2

/-- The line rate that the two straps select (R182). -/
def LineRate.ofStraps : Bool → Bool → LineRate
  | false, false => .r57600
  | true, false => .r115200
  | false, true => .r230400
  | true, true => .r57600

/-- The Control Link at the values of R197. -/
def Link.powerOn (strap1 strap2 : Bool) : Link where
  rate := LineRate.ofStraps strap1 strap2
  reception := .awaitSync
  buffer := []
  waiting := none
  tx := none

/-- The machine right after reset: every block at its power-on values (R23, R38, R62, R80, R103, R127, R141, R168,
R180, R181, R197), both rate straps low, and RADIO_LOST latched at once with its ALERT report in transmission (R180;
assumption 3); no command waits. -/
def State.reset : State where
  clock := ⟨0, 0, 0⟩
  odo := Odometry.powerOn
  line := LineStore.powerOn
  radio := Radio.powerOn
  route := Route.powerOn
  sup := Supervisor.powerOn
  brake := Brake.powerOn
  ent := Entrances.powerOn
  notice := Notice.afterPowerOn
  link := { Link.powerOn false false with tx := some (.report Report.afterPowerOn) }
  cfg := ConfigRecord.powerOn
  configured := false
  pending := []

end Sys2Proof.Machine
end

