-- ==== Sys2Proof/Machine/Operands.lean ====
section
/-! DEFINITION. Rounding, square root, CRC and the codings of operands: byte orders, bits of the radio line,
the configuration record's fields, alert sets and the note character set (00 §4.4, R40, R182, 10 §10.5, §10.7). -/

namespace Sys2Proof.Machine

/-! ## Rounding (00 §4.4) -/

/-- Division rounded up. -/
def ceilDiv (a b : Nat) : Nat := (a + (b - 1)) / b

/-- The bits of a square root, from bit `b - 1` down, added to `r` while the square stays at most `n`. -/
def isqrtBits : Nat → Nat → Nat → Nat
  | 0, _, r => r
  | b + 1, n, r => isqrtBits b n (if (r + 2 ^ b) * (r + 2 ^ b) ≤ n then r + 2 ^ b else r)

/-- The integer square root rounded down, for the values below 2^28 that the part takes roots of (R85, R96). -/
def isqrt (n : Nat) : Nat := isqrtBits 14 n 0

/-- The next lower magnitude in mm of a signed µm distance, away from zero (R6). -/
def mmAwayFromZero (um : Int) : Int :=
  if um < 0 then -(ceilDiv um.natAbs 1000 : Int) else (ceilDiv um.natAbs 1000 : Int)

/-! ## Bytes -/

/-- The `n` low bytes of `x`, least significant first (R182). -/
def le : Nat → Nat → List Byte
  | 0, _ => []
  | n + 1, x => BitVec.ofNat 8 x :: le n (x / 256)

/-- The `n` low bytes of `x`, most significant first (10 §10.7, radio frames). -/
def be (n x : Nat) : List Byte := (le n x).reverse

/-- The number whose bytes, least significant first, are given. -/
def ofLe : List Byte → Nat
  | [] => 0
  | b :: bs => b.toNat + 256 * ofLe bs

/-- The number whose bytes, most significant first, are given. -/
def ofBe (bs : List Byte) : Nat := ofLe bs.reverse

/-- The `n` bytes from an offset. -/
def slice (bs : List Byte) (offset n : Nat) : List Byte := (bs.drop offset).take n

/-- The byte at an offset, 0 beyond the end. -/
def byteAt (bs : List Byte) (offset : Nat) : Byte := bs.getD offset 0

/-- The least-significant-first number in `n` bytes from an offset. -/
def leAt (bs : List Byte) (offset n : Nat) : Nat := ofLe (slice bs offset n)

/-- The most-significant-first number in `n` bytes from an offset. -/
def beAt (bs : List Byte) (offset n : Nat) : Nat := ofBe (slice bs offset n)

/-- A Bool as a coded value, 0 or 1. -/
def bit (b : Bool) : Nat := if b then 1 else 0

/-- A byte from its bits, most significant first (R39). -/
def byteOfBits (b7 b6 b5 b4 b3 b2 b1 b0 : Bool) : Byte :=
  BitVec.ofNat 8 (128 * bit b7 + 64 * bit b6 + 32 * bit b5 + 16 * bit b4 + 8 * bit b3 + 4 * bit b2 + 2 * bit b1 + bit b0)

/-- The bytes of a run of bits, each byte from its most significant bit (R39). -/
def bytesOfBits : List Bool → List Byte
  | b7 :: b6 :: b5 :: b4 :: b3 :: b2 :: b1 :: b0 :: rest => byteOfBits b7 b6 b5 b4 b3 b2 b1 b0 :: bytesOfBits rest
  | _ => []

/-- The bits of a byte, most significant first. -/
def bitsOfByte (b : Byte) : List Bool :=
  [b.getLsbD 7, b.getLsbD 6, b.getLsbD 5, b.getLsbD 4, b.getLsbD 3, b.getLsbD 2, b.getLsbD 1, b.getLsbD 0]

/-- The bits of a run of bytes in order of transmission on the radio line (R39). -/
def bitsOfBytes (bs : List Byte) : List Bool := bs.flatMap bitsOfByte

/-! ## CRC (R40) -/

/-- One bit of the CRC. -/
def crcBit (r : BitVec 16) (b : Bool) : BitVec 16 :=
  if r.msb != b then (r <<< 1) ^^^ 0x1021#16 else r <<< 1

/-- The CRC over a run of bytes, register set to ones, each byte from its most significant bit (R40). -/
def crc16 (bs : List Byte) : BitVec 16 := (bitsOfBytes bs).foldl crcBit 0xFFFF#16

/-! ## The configuration record (10 §10.5) -/

/-- Width in bytes and inclusive range of each field, in field order (10 §10.5). The ranges of fields 7 and 8 and of
field 43 are judged by `configFieldOk`. -/
def configFields : List (Nat × Nat × Nat) :=
  [(1, 1, 254), (2, 4000, 40000), (2, 0, 40000), (2, 0, 40000), (2, 500, 20000), (2, 500, 20000), (1, 1, 255), (1, 1, 255),
   (1, 1, 50), (1, 1, 50), (2, 1000, 30000), (2, 50, 1000), (2, 50, 2000), (2, 100, 2000), (2, 50, 500), (2, 300, 2000),
   (2, 100, 1000), (2, 50, 500), (2, 500, 20000), (2, 500, 20000), (2, 100, 2000), (2, 200, 3000)] ++
  [(3, 2000, 200000), (2, 1000, 15000), (2, 0, 2500), (2, 0, 5000), (3, 100000, 5000000), (2, 50, 1000), (2, 100, 2000),
   (2, 100, 1000), (2, 500, 5000), (1, 25, 90), (1, 16, 64), (1, 2, 4), (1, 4, 8), (2, 500, 10000), (3, 2000, 120000),
   (1, 0, 200), (1, 1, 200), (2, 500, 4095), (1, 5, 200), (2, 0, 5000), (1, 0, 7)]

/-- The coded values of the fields, in field order. -/
def configValues (c : ConfigRecord) : List Nat :=
  [c.carId, c.carLength, c.pinionOffset, c.readerOffset, c.lPin, c.lWhl, c.pinSign, c.whlSign, c.pinRate, c.whlRate, c.uMax,
   c.markerAccuracy, c.agreeTol, c.engageTol, c.window, c.tStill, c.rollaway, c.entranceMoving, c.rSv, c.rEm, c.aFloor, c.tR] ++
  [c.dG, c.vCar, c.vShunt, c.vRl, c.horizon, c.mS, c.mE, c.mR, c.tCheck, c.kEff, c.holdLevel, c.m, c.wSync, c.tFreeze,
   c.tLost, c.transit, c.closedTol, c.openCount, c.stallMin, c.warningTime, c.enables]

/-- The CONFIGURE payload of a record: its fields in order at their widths, no gaps, 76 bytes (10 §10.5). -/
def configBytes (c : ConfigRecord) : List Byte :=
  (configFields.zip (configValues c)).flatMap fun p => le p.1.1 p.2

/-- The record that a CONFIGURE payload codes: field offsets are the sums of the widths before them (10 §10.5). -/
def configOfBytes (p : List Byte) : ConfigRecord where
  carId := leAt p 0 1
  carLength := leAt p 1 2
  pinionOffset := leAt p 3 2
  readerOffset := leAt p 5 2
  lPin := leAt p 7 2
  lWhl := leAt p 9 2
  pinSign := leAt p 11 1
  whlSign := leAt p 12 1
  pinRate := leAt p 13 1
  whlRate := leAt p 14 1
  uMax := leAt p 15 2
  markerAccuracy := leAt p 17 2
  agreeTol := leAt p 19 2
  engageTol := leAt p 21 2
  window := leAt p 23 2
  tStill := leAt p 25 2
  rollaway := leAt p 27 2
  entranceMoving := leAt p 29 2
  rSv := leAt p 31 2
  rEm := leAt p 33 2
  aFloor := leAt p 35 2
  tR := leAt p 37 2
  dG := leAt p 39 3
  vCar := leAt p 42 2
  vShunt := leAt p 44 2
  vRl := leAt p 46 2
  horizon := leAt p 48 3
  mS := leAt p 51 2
  mE := leAt p 53 2
  mR := leAt p 55 2
  tCheck := leAt p 57 2
  kEff := leAt p 59 1
  holdLevel := leAt p 60 1
  m := leAt p 61 1
  wSync := leAt p 62 1
  tFreeze := leAt p 63 2
  tLost := leAt p 65 3
  transit := leAt p 68 1
  closedTol := leAt p 69 1
  openCount := leAt p 70 2
  stallMin := leAt p 72 1
  warningTime := leAt p 73 2
  enables := leAt p 75 1

/-- Is field `n` (numbered from 1) with value `v` in its range? The orientation signs are 0x01 or 0xFF (R189). -/
def configFieldOk (n v lo hi : Nat) : Bool :=
  if n = 7 || n = 8 then v = 1 || v = 255 else lo ≤ v && v ≤ hi

/-- The number of the first field out of range, counting from `n` (R189). -/
def configFirstBad : Nat → List (Nat × Nat × Nat) → List Nat → Option Nat
  | n, (_, lo, hi) :: fs, v :: vs => if configFieldOk n v lo hi then configFirstBad (n + 1) fs vs else some n
  | _, _, _ => none

/-- The field that the first failing cross check names, in the order of R189. -/
def configCrossBad (c : ConfigRecord) : Option Nat :=
  if !(c.mE > c.mS) then some 29
  else if !(c.rEm ≥ c.rSv) then some 20
  else if !(c.tLost > c.tFreeze) then some 37
  else if !(c.pinionOffset ≤ c.carLength) then some 3
  else if !(c.readerOffset ≤ c.carLength) then some 4
  else if !(c.m < c.wSync) then some 34
  else if !(c.horizon ≥ ceilDiv (c.vCar * c.tR) 1000 + ceilDiv (c.vCar * c.vCar) (2 * c.aFloor)) then some 27
  else none

/-- The field a CONFIGURE is refused for: the first out of range, else the first failing cross check (R189). -/
def configBad (c : ConfigRecord) : Option Nat :=
  match configFirstBad 1 configFields (configValues c) with
  | some n => some n
  | none => configCrossBad c

/-- The orientation sign of a counter is −1 when its code is 0xFF (10 §10.5 fields 7, 8). -/
def signNegative (code : Nat) : Bool := code == 255

/-- The increment length of a counter (00 §5.2). -/
def incrementOf (c : ConfigRecord) : Counter → Nat
  | .pinion => c.lPin
  | .wheel => c.lWhl

/-- The orientation sign code of a counter. -/
def signOf (c : ConfigRecord) : Counter → Nat
  | .pinion => c.pinSign
  | .wheel => c.whlSign

/-- The uncertainty rate of a counter in ‰ (R10). -/
def rateOf (c : ConfigRecord) : Counter → Nat
  | .pinion => c.pinRate
  | .wheel => c.whlRate

/-! ## Bytes of LOAD SEGMENT (10 §10.7) -/

/-- The 27 payload bytes of LOAD SEGMENT. -/
def segmentFieldBytes (f : SegmentFields) : List Byte :=
  le 1 f.index.toNat ++ le 3 f.start.toNat ++ le 1 f.kind.toNat ++ le 2 f.pull.toNat ++ le 2 f.limitUp.toNat ++
  le 2 f.limitDown.toNat ++ le 1 f.platformPresent.toNat ++ le 1 f.platformSide.toNat ++ le 3 f.platformFrom.toNat ++
  le 3 f.platformTo.toNat ++ le 1 f.station.toNat ++ le 1 f.markerPresent.toNat ++ le 1 f.markerId.toNat ++
  le 3 f.markerPosition.toNat ++ le 2 f.markerWindow.toNat

/-- The fields that 27 payload bytes of LOAD SEGMENT code, at the offsets of 10 §10.7. -/
def segmentFieldsOf (p : List Byte) : SegmentFields where
  index := BitVec.ofNat 8 (leAt p 0 1)
  start := BitVec.ofNat 24 (leAt p 1 3)
  kind := BitVec.ofNat 8 (leAt p 4 1)
  pull := BitVec.ofNat 16 (leAt p 5 2)
  limitUp := BitVec.ofNat 16 (leAt p 7 2)
  limitDown := BitVec.ofNat 16 (leAt p 9 2)
  platformPresent := BitVec.ofNat 8 (leAt p 11 1)
  platformSide := BitVec.ofNat 8 (leAt p 12 1)
  platformFrom := BitVec.ofNat 24 (leAt p 13 3)
  platformTo := BitVec.ofNat 24 (leAt p 16 3)
  station := BitVec.ofNat 8 (leAt p 19 1)
  markerPresent := BitVec.ofNat 8 (leAt p 20 1)
  markerId := BitVec.ofNat 8 (leAt p 21 1)
  markerPosition := BitVec.ofNat 24 (leAt p 22 3)
  markerWindow := BitVec.ofNat 16 (leAt p 25 2)

/-- The kind a code names (10 §10.7). -/
def segKindOf : Nat → Option SegKind
  | 0 => some .adhesion
  | 1 => some .rack
  | 2 => some .rackEntry
  | _ => none

/-- The code of a segment kind (10 §10.7). -/
def SegKind.code : SegKind → Nat
  | .adhesion => 0
  | .rack => 1
  | .rackEntry => 2

/-- The platform side a code names (10 §10.7). -/
def platformSideOf : Nat → Option PlatformSide
  | 0 => some .left
  | 1 => some .right
  | 2 => some .both
  | _ => none

/-- The code of a platform side (10 §10.7). -/
def PlatformSide.code : PlatformSide → Nat
  | .left => 0
  | .right => 1
  | .both => 2

/-- The side a request's code names (10 §10.7): LEFT 0, RIGHT 1. -/
def sideOf : Nat → Option Side
  | 0 => some .left
  | 1 => some .right
  | _ => none

/-- The first field of a LOAD SEGMENT out of range, in field order, absent parts not judged (R26, R195). -/
def segmentBad (f : SegmentFields) : Option Nat :=
  if 128 ≤ f.index.toNat then some 1
  else if (segKindOf f.kind.toNat).isNone then some 3
  else if !((-500 ≤ f.pull.toInt && f.pull.toInt ≤ 500) || f.pull.toInt == -32768) then some 4
  else if Config.maxSpeed < f.limitUp.toNat then some 5
  else if Config.maxSpeed < f.limitDown.toNat then some 6
  else if 1 < f.platformPresent.toNat then some 7
  else if f.platformPresent.toNat == 1 && (platformSideOf f.platformSide.toNat).isNone then some 8
  else if f.platformPresent.toNat == 1 && !(1 ≤ f.station.toNat && f.station.toNat ≤ 63) then some 11
  else if 1 < f.markerPresent.toNat then some 12
  else if f.markerPresent.toNat == 1 && f.markerId.toNat == 0 then some 13
  else if f.markerPresent.toNat == 1 && !(100 ≤ f.markerWindow.toNat && f.markerWindow.toNat ≤ 5000) then some 15
  else none

/-- The record that in-range LOAD SEGMENT fields store (R26). -/
def segmentRecord (f : SegmentFields) : Segment where
  start := f.start.toNat
  kind := (segKindOf f.kind.toNat).getD .adhesion
  pull := if f.pull.toInt == -32768 then none else some f.pull.toInt
  limitUp := f.limitUp.toNat
  limitDown := f.limitDown.toNat
  platform :=
    if f.platformPresent.toNat == 1 then
      some ⟨(platformSideOf f.platformSide.toNat).getD .left, f.platformFrom.toNat, f.platformTo.toNat, f.station.toNat⟩
    else none
  marker :=
    if f.markerPresent.toNat == 1 then some ⟨f.markerId.toNat, f.markerPosition.toNat, f.markerWindow.toNat⟩ else none

/-- The 27 bytes of a stored record, as READ SEGMENT shows them; the bytes of an absent part are 0 (R36, R195). -/
def segmentBytes (index : Nat) (g : Segment) : List Byte :=
  le 1 index ++ le 3 g.start ++ le 1 g.kind.code ++
  le 2 (match g.pull with | none => 0x8000 | some p => (BitVec.ofInt 16 p).toNat) ++ le 2 g.limitUp ++ le 2 g.limitDown ++
  (match g.platform with
   | none => List.replicate 9 0
   | some p => le 1 1 ++ le 1 p.side.code ++ le 3 p.fromPos ++ le 3 p.toPos ++ le 1 p.station) ++
  (match g.marker with
   | none => List.replicate 7 0
   | some m => le 1 1 ++ le 1 m.id ++ le 3 m.position ++ le 2 m.window)

/-! ## The note character set (R196) -/

/-- The byte values of the characters of codes 37 to 63, in order (R196). -/
def noteMarks : List Nat :=
  [0x2E, 0x2C, 0x3A, 0x3B, 0x2D, 0x2B, 0x2F, 0x28, 0x29, 0x21, 0x3F, 0x27, 0x22, 0x23, 0x25, 0x26, 0x2A, 0x3D, 0x3C, 0x3E,
   0x40, 0x5F, 0x5B, 0x5D, 0x24, 0x7E, 0x5E]

/-- The place of a value in a list, counted from `n`. -/
def placeOf (v : Nat) : Nat → List Nat → Option Nat
  | _, [] => none
  | n, x :: xs => if x = v then some n else placeOf v (n + 1) xs

/-- The 6-bit code of a note character (R196), absent for a byte that names none. -/
def noteCode (b : Byte) : Option Nat :=
  let v := b.toNat
  if v = 0x20 then some 0
  else if 0x30 ≤ v && v ≤ 0x39 then some (v - 0x30 + 1)
  else if 0x41 ≤ v && v ≤ 0x5A then some (v - 0x41 + 11)
  else placeOf v 37 noteMarks

/-- The bits of a 6-bit code, most significant first (R196). -/
def sixBits (c : Nat) : List Bool := [c.testBit 5, c.testBit 4, c.testBit 3, c.testBit 2, c.testBit 1, c.testBit 0]

/-- The 18 bytes that carry a note's characters, places beyond its length coded 0 (R196). -/
def noteBytes (text : List Byte) : List Byte :=
  bytesOfBits (((text.map fun b => (noteCode b).getD 0) ++ List.replicate (24 - text.length) 0).flatMap sixBits)

end Sys2Proof.Machine
end

