-- ==== Sys2Proof/Machine/Flags.lean ====
section
/-! DEFINITION. The flags of the part: the alert entries with their latching and acknowledgement, the latched set and
the attention line, and the report queue that the latchings feed (chapter 9). -/

namespace Sys2Proof.Machine

/-! ## Alert kinds (09 §9.1) -/

/-- The alert kinds in the order of their numbers. -/
def AlertKind.all : List AlertKind :=
  [.radioDegraded, .radioLost, .carrierBlank, .valleyUnheard, .positionDegraded, .odometryDisagree, .overspeedWarning,
   .serviceIntervention, .entranceObstructed, .entranceFault, .restrictionCap, .engagementUnproven, .trip,
   .markerUnexpected, .markerMissed, .restrictionRefused, .authorityExpired, .valleyTimeJump, .supervisionFault,
   .linkFrameBad, .outputFault]

/-- The number of a kind. -/
def AlertKind.number : AlertKind → Nat
  | .radioDegraded => 0
  | .radioLost => 1
  | .carrierBlank => 2
  | .valleyUnheard => 3
  | .positionDegraded => 4
  | .odometryDisagree => 5
  | .overspeedWarning => 6
  | .serviceIntervention => 7
  | .entranceObstructed => 8
  | .entranceFault => 9
  | .restrictionCap => 10
  | .engagementUnproven => 11
  | .trip => 12
  | .markerUnexpected => 13
  | .markerMissed => 14
  | .restrictionRefused => 15
  | .authorityExpired => 16
  | .valleyTimeJump => 17
  | .supervisionFault => 18
  | .linkFrameBad => 19
  | .outputFault => 20

/-- The class of a kind: numbers 0 to 11 are conditions, 12 to 20 are events. -/
def AlertKind.cls (k : AlertKind) : AlertClass := if k.number < 12 then .condition else .event

/-! ## Entries, the latched set, the attention line -/

/-- The entry of a kind (R169). -/
def Notice.entry (n : Notice) (k : AlertKind) : AlertEntry := n.alerts.getD k.number AlertEntry.clear

/-- The Alert Set with the entry of one kind replaced. -/
def Notice.setEntry (n : Notice) (k : AlertKind) (e : AlertEntry) : Notice :=
  { n with alerts := n.alerts.set k.number e }

/-- The indicated value of a kind (R169): of a condition its active or forced flag, of an event its latched flag. -/
def AlertEntry.indicated (k : AlertKind) (e : AlertEntry) : Bool :=
  match k.cls with
  | .condition => e.active || e.forced
  | .event => e.latched

/-- The kinds whose latched flag is set, kind n at bit n, counting from weight `w`. -/
def latchedBits : Nat → List AlertEntry → Nat
  | _, [] => 0
  | w, e :: es => w * bit e.latched + latchedBits (2 * w) es

/-- The latched set (R169) in its 3 bytes (10 §10.7). -/
def Notice.latchedSet (n : Notice) : BitVec 24 := BitVec.ofNat 24 (latchedBits 1 n.alerts)

/-- The attention line: asserted exactly while the latched set is not empty (R176). -/
def Notice.attention (n : Notice) : Bool := n.alerts.any (·.latched)

/-! ## The report queue (R178) -/

/-- Posting a report at a time: it takes the next number and joins the queue with the gap mark of the reports dropped
before it, or is dropped and counted when the queue holds 24 (R178). -/
def Notice.post (now : Time) (body : ReportBody) (n : Notice) : Notice :=
  if n.queue.length < Config.reportQueue then
    { n with
      queue := n.queue ++ [⟨n.nextNumber, now, n.drops, body⟩]
      nextNumber := n.nextNumber + 1
      drops := 0 }
  else { n with drops := min (n.drops + 1) 255 }

/-! ## Latching (R170, R171, R172) -/

/-- One latching opportunity of a kind: the raise count rises, saturating at 255; a clear latched flag is set and the
ALERT report is posted (R170, R171, R172). -/
def Notice.latch (now : Time) (k : AlertKind) (n : Notice) : Notice :=
  let e := n.entry k
  let n' := n.setEntry k { e with latched := true, count := min (e.count + 1) 255 }
  if e.latched then n' else n'.post now (.alert k k.cls e.forced n'.latchedSet)

/-- The owner of a condition sets or clears its active flag (R170). -/
def Notice.setActive (now : Time) (k : AlertKind) (b : Bool) (n : Notice) : Notice :=
  let e := n.entry k
  if e.active = b then n
  else
    let n' := n.setEntry k { e with active := b }
    if b && !e.forced then n'.latch now k else n'

/-- The detector test sets the forced flag of a condition (R170, R174). -/
def Notice.force (now : Time) (k : AlertKind) (n : Notice) : Notice :=
  let e := n.entry k
  if e.forced then n
  else
    let n' := n.setEntry k { e with forced := true }
    if e.active then n' else n'.latch now k

/-! ## Acknowledgement and clearing (R173, R174) -/

/-- Acknowledging one entry: its latched flag cleared and its raise count 0 (R173). -/
def AlertEntry.acknowledge (e : AlertEntry) : AlertEntry := { e with latched := false, count := 0 }

/-- Acknowledging the kinds of a set, counting entries from number `i` (R173). -/
def acknowledgeFrom (kinds : BitVec 24) : Nat → List AlertEntry → List AlertEntry
  | _, [] => []
  | i, e :: es => (if kinds.getLsbD i then e.acknowledge else e) :: acknowledgeFrom kinds (i + 1) es

/-- ACK ALERTS of a set of kinds (R173). -/
def Notice.acknowledge (kinds : BitVec 24) (n : Notice) : Notice :=
  { n with alerts := acknowledgeFrom kinds 0 n.alerts }

/-- The clearing of steps 3 and 0 of the detector test: every kind acknowledged and its forced flag cleared (R174). -/
def Notice.testClear (n : Notice) : Notice :=
  { n with alerts := n.alerts.map fun e => { e.acknowledge with forced := false } }

/-- The clearing of a reset: every flag clear and every raise count 0 (R180). -/
def Notice.resetClear (n : Notice) : Notice :=
  { n with alerts := List.replicate 21 AlertEntry.clear }

end Sys2Proof.Machine
end

