-- ==== Sys2Proof/Machine/Ops.lean ====
section
/-! DEFINITION. Operations that every block shares: the advance of local time to a command's time, posting a report,
raising an event, setting a condition, and the hand-over of the transmitter (00 §4, R51, R170, R171, R178, R179). -/

namespace Sys2Proof.Machine

/-- The clock at the local µs time `t`: local ms has advanced once for each whole 1000 µs (R51, assumption 1). -/
def Clock.advance (t : Time) (c : Clock) : Clock where
  now := t
  localMs := c.localMs + BitVec.ofNat 32 ((c.subMs + Time.since t c.now) / 1000)
  subMs := (c.subMs + Time.since t c.now) % 1000

/-- Local ms as it stood at an earlier local µs time (R51). -/
def Clock.msAt (t : Time) (c : Clock) : Time :=
  c.localMs - BitVec.ofNat 32 (ceilDiv (Time.since c.now t - c.subMs) 1000)

/-- The part at the local µs time `t` of a command (assumption 1). -/
def State.advance (t : Time) (s : State) : State := { s with clock := s.clock.advance t }

/-- Local µs time. -/
def State.now (s : State) : Time := s.clock.now

/-- Posting a report (R178). -/
def State.post (body : ReportBody) (s : State) : State :=
  { s with notice := s.notice.post s.clock.now body }

/-- Raising an event kind (R171). -/
def State.raise (k : AlertKind) (s : State) : State :=
  { s with notice := s.notice.latch s.clock.now k }

/-- The owner of a condition kind sets it to the value its state gives (R170). -/
def State.setCondition (k : AlertKind) (b : Bool) (s : State) : State :=
  { s with notice := s.notice.setActive s.clock.now k b }

/-- The detector test forces a condition kind (R174). -/
def State.force (k : AlertKind) (s : State) : State :=
  { s with notice := s.notice.force s.clock.now k }

/-- A free transmitter is given to the waiting reply if there is one, else to the oldest report, else it stays idle
(R179; taken at the end of each command, assumption 12). -/
def State.grantTransmitter (s : State) : State :=
  match s.link.tx with
  | some _ => s
  | none =>
    match s.link.waiting with
    | some r => { s with link := { s.link with tx := some (.reply r), waiting := none } }
    | none =>
      match s.notice.queue with
      | [] => s
      | r :: rest =>
        { s with link := { s.link with tx := some (.report r) }, notice := { s.notice with queue := rest } }

/-- Something due at a time: `t` is at or after it (00 §4.2). -/
def State.reached (t : Time) (s : State) : Bool := Time.atOrAfter s.clock.now t

end Sys2Proof.Machine
end

