-- ==== Sys2Proof/Machine/Brakes.lean ====
section
/-! DEFINITION. The Brake Output Unit (chapter 7): slots and their emission, pattern writes, the write window, copy
faults and starvation, idle channels, confirmation and status. -/

namespace Sys2Proof.Machine

/-! ## Channels -/

/-- A channel of the unit. -/
def Brake.channel (b : Brake) : Channel → BrakeChannel
  | .service => b.service
  | .band => b.band
  | .emergency => b.emergency

/-- The unit with a channel replaced. -/
def Brake.setChannel (b : Brake) (c : Channel) (x : BrakeChannel) : Brake :=
  match c with
  | .service => { b with service := x }
  | .band => { b with band := x }
  | .emergency => { b with emergency := x }

/-- The state that applies a channel's brake: energised for SERVICE, de-energised for the single channels (R129). -/
def applying (c : Channel) (energised : Bool) : Bool :=
  match c with
  | .service => energised
  | _ => !energised

/-- The cycle slot of a slot number (R128). -/
def cycleSlot (n : BitVec 32) : Nat := n.toNat % 64

/-- A difference of slot numbers read as a signed value (R128). -/
def slotDistance (a b : BitVec 32) : Int := (a - b).toInt

/-- Confirmed applied (R139). -/
def BrakeChannel.confirmed (x : BrakeChannel) : Bool := x.run == 64

/-! ## Output faults (R137) -/

/-- An output fault: OUTPUT_FAULT raised and the hand-over to the Supervisor set (R137). -/
def State.outputFault (s : State) : State :=
  State.raise .outputFault { s with sup := { s.sup with outputFault := true } }

/-- A channel put back, with the output fault it met, if any. -/
def State.putChannel (c : Channel) (x : BrakeChannel) (fault : Bool) (s : State) : State :=
  let s1 := { s with brake := s.brake.setChannel c x }
  if fault then s1.outputFault else s1

/-! ## Emission (R129, R135, R139) -/

/-- A slot after the start of its emission: no longer fresh, and on a single channel no longer valid (R129). -/
def Slot.emitted (c : Channel) (x : Slot) : Slot :=
  match c with
  | .service => { x with fresh := false }
  | _ => { x with valid := false, fresh := false }

/-- Is an invalid slot taken under the latest demand a starvation (R135)? -/
def BrakeChannel.starves (x : BrakeChannel) (valid : Bool) : Bool :=
  !valid && x.latest == .single .release && !x.starved

/-- The channel at the start of the period of a cycle slot: its slot taken, its output driven, its applying run counted
(R128, R129, R135, R139). -/
def BrakeChannel.emit (c : Channel) (i : Nat) (x : BrakeChannel) : BrakeChannel :=
  let slot := x.slots.getD i ⟨false, false, false⟩
  let level := slot.valid && slot.energised
  let starves := x.starves slot.valid
  { x with
    slots := x.slots.set i (slot.emitted c)
    output := level
    defaultEmitted := !slot.valid
    run := if applying c level then min (x.run + 1) 64 else 0
    starved := x.starved || starves
    lastFault := if starves then .starved else x.lastFault }

/-- Is a channel idle at a slot number: more than 64 periods emitted since its latest write (R136)? -/
def BrakeChannel.isIdle (n : BitVec 32) (x : BrakeChannel) : Bool := 64 < slotDistance n x.writeSlot

/-- An idle channel's addressing becomes ABSOLUTE (R136). -/
def BrakeChannel.idleAt (n : BitVec 32) (x : BrakeChannel) : BrakeChannel :=
  if x.isIdle n then { x with addressing := .absolute } else x

/-- A channel at the start of a slot period: idle first, then the emission (R128, R136). -/
def State.emitChannel (c : Channel) (s : State) : State :=
  let n := s.brake.slotNumber
  let x := (s.brake.channel c).idleAt n
  s.putChannel c (x.emit c (cycleSlot n)) (x.starves (x.slots.getD (cycleSlot n) ⟨false, false, false⟩).valid)

/-- The unit with its slot number advanced; the first start is that of slot number 0 (R128, R141; assumption 9). -/
def Brake.nextSlot (b : Brake) : Brake :=
  if b.started then { b with slotNumber := b.slotNumber + 1 } else { b with started := true }

/-- The start of a slot period on all three channels (R128). -/
def State.slotPeriod (s : State) : State :=
  ((State.emitChannel .service { s with brake := s.brake.nextSlot }).emitChannel .band).emitChannel .emergency

/-- A channel that is due to become idle (R136). -/
def State.idleChannel (c : Channel) (s : State) : State :=
  { s with brake := s.brake.setChannel c ((s.brake.channel c).idleAt s.brake.slotNumber) }

/-! ## Patterns (R130, R131) -/

/-- The value of a pattern at a cycle slot (R130, R131). -/
def patternAt (d : Demand) (i : Nat) : Bool :=
  match d with
  | .duty n => i < n
  | .single .release => i % 2 == 0
  | .single .apply => false

/-- Does a demand ask for release: RELEASE, or a SERVICE demand below 64 (R134)? -/
def Demand.releases : Demand → Bool
  | .duty n => n < 64
  | .single .release => true
  | .single .apply => false

/-! ## Writing (R132, R133, R134) -/

/-- The slots, from cycle slot `i` on, with the `k` slots from cycle slot `first` placed (R132). -/
def placeFrom (d : Demand) (first k : Nat) : Nat → List Slot → List Slot
  | _, [] => []
  | i, x :: xs =>
    (if (i + 64 - first) % 64 < k then ⟨patternAt d i, true, true⟩ else x) :: placeFrom d first k (i + 1) xs

/-- A taken write: `k` slots placed from slot number `start`, the addressing RELATIVE with the next start after them,
the starved flag clear (R132, R133). -/
def BrakeChannel.place (d : Demand) (start : BitVec 32) (k : Nat) (x : BrakeChannel) : BrakeChannel :=
  { x with
    slots := placeFrom d (cycleSlot start) k 0 x.slots
    addressing := .relative (start + BitVec.ofNat 32 k)
    starved := false }

/-- A write's demand and slot number recorded (R132). -/
def BrakeChannel.record (d : Demand) (n : BitVec 32) (x : BrakeChannel) : BrakeChannel :=
  { x with latest := d, writeSlot := n }

/-- Is a distance in the write window (R133)? -/
def inWindow (k : Int) : Bool := 1 ≤ k && k ≤ Config.writeWindow

/-- The number of slots a relative write at a distance places: those up to distance 63 (R133). -/
def placedSlots (k : Nat) : Nat := min Config.writeSlots (64 - k)

/-- The channel after a write delivered while slot `n` is emitted (R132, R133, R134). -/
def BrakeChannel.write (d : Demand) (n : BitVec 32) (x : BrakeChannel) : BrakeChannel :=
  let r := x.record d n
  match x.addressing with
  | .absolute => r.place d (n + BitVec.ofNat 32 Config.absoluteLead) Config.writeSlots
  | .relative next =>
    if inWindow (slotDistance next n) then r.place d next (placedSlots (slotDistance next n).toNat)
    else { r with lastFault := .copy, addressing := .absolute }

/-- Is a write delivered while slot `n` is emitted a copy fault (R134)? -/
def BrakeChannel.copyFault (n : BitVec 32) (x : BrakeChannel) : Bool :=
  match x.addressing with
  | .absolute => false
  | .relative next => !inWindow (slotDistance next n)

/-- A write delivered to a channel (R132, R133, R134, R137). -/
def State.deliverWrite (c : Channel) (d : Demand) (s : State) : State :=
  let n := s.brake.slotNumber
  let x := s.brake.channel c
  s.putChannel c (x.write d n) (x.copyFault n && d.releases)

/-- The write the latest pass has prepared for a channel, if not yet delivered (R123; assumption 10). -/
def Prepared.demand (p : Prepared) : Channel → Option Demand
  | .service => p.service.map .duty
  | .band => p.band.map .single
  | .emergency => p.emergency.map .single

/-- The prepared writes without a channel's. -/
def Prepared.without (p : Prepared) : Channel → Prepared
  | .service => { p with service := none }
  | .band => { p with band := none }
  | .emergency => { p with emergency := none }

/-- The delivery of the prepared write of a channel, if there is one (R104 stage 5, R132; assumption 10). -/
def State.patternWrite (c : Channel) (s : State) : State :=
  match s.sup.prepared.demand c with
  | none => s
  | some d => State.deliverWrite c d { s with sup := { s.sup with prepared := s.sup.prepared.without c } }

/-! ## Status (R140) -/

/-- The number of fresh slots at distances 1 to 63 of a cycle slot, counting from cycle slot `i` (R140). -/
def freshAhead (current : Nat) : Nat → List Slot → Nat
  | _, [] => 0
  | i, x :: xs => (if x.fresh ∧ i ≠ current then 1 else 0) + freshAhead current (i + 1) xs

/-- Valid slots ahead of a channel (R140). -/
def Brake.validAhead (b : Brake) (c : Channel) : Nat := freshAhead (cycleSlot b.slotNumber) 0 (b.channel c).slots

end Sys2Proof.Machine
end

