-- ==== Sys2Proof/Machine/Lookup.lean ====
section
/-! DEFINITION. The lookups of the Line Store in the active bank: point, stretch, marker and platform lookups
(02 §2.6), and the views taken from them: the segment at the pinion point, the reference counter (R2), the expected
marker (R14), the car extent (R12). -/

namespace Sys2Proof.Machine

/-- A segment of a bank in its place: its index, its start, its end and whether it is the last (02 §2.2). -/
structure SegView where
  index : Nat
  start : Nat
  stop : Nat
  last : Bool
  seg : Segment
  deriving DecidableEq, Repr

/-- The segments of a run of places, the first of them at index `i`: each ends where the next starts, the last at the
line end (02 §2.2). -/
def viewsFrom (lineEnd : Nat) : Nat → List (Option Segment) → List SegView
  | _, [] => []
  | i, none :: rest => viewsFrom lineEnd (i + 1) rest
  | i, some g :: rest =>
    { index := i
      start := g.start
      stop := match rest with
        | some h :: _ => h.start
        | _ => lineEnd
      last := rest.isEmpty
      seg := g } :: viewsFrom lineEnd (i + 1) rest

/-- The segments of a bank below its segment count. -/
def Bank.views (b : Bank) : List SegView :=
  match b.header with
  | none => []
  | some h => viewsFrom h.lineEnd 0 (b.places.take h.count)

/-- A named bank. -/
def LineStore.bank (l : LineStore) : BankName → Bank
  | .a => l.a
  | .b => l.b

/-- The Line Store with a named bank replaced. -/
def LineStore.setBank (l : LineStore) (n : BankName) (b : Bank) : LineStore :=
  match n with
  | .a => { l with a := b }
  | .b => { l with b := b }

/-- The standby bank: bank A while no bank is active, else the bank that is not active (R24). -/
def LineStore.standby (l : LineStore) : BankName :=
  match l.active with
  | none => .a
  | some .a => .b
  | some .b => .a

/-- The active bank, if any (R24). -/
def State.activeBank (s : State) : Option Bank :=
  match s.line.active with
  | none => none
  | some n => some (s.line.bank n)

/-- The line end of the active bank, if any (R77). -/
def State.lineEnd (s : State) : Option Nat :=
  match s.activeBank with
  | none => none
  | some b =>
    match b.header with
    | none => none
    | some h => some h.lineEnd

/-- The line id in use: that of the active bank, 0 while no bank is active (R31, R59). -/
def State.lineId (s : State) : Nat :=
  match s.activeBank with
  | none => 0
  | some b =>
    match b.header with
    | none => 0
    | some h => h.lineId

/-- The segments of the active bank; none with no active bank. -/
def State.views (s : State) : List SegView :=
  match s.activeBank with
  | none => []
  | some b => b.views

/-- A point moved into [0, line end] (R32, R33). -/
def clampPoint (lineEnd : Nat) (p : Int) : Nat := min p.toNat lineEnd

/-- The last segment in index order whose start is at or below a point (R32). -/
def pointLookup (p : Nat) (vs : List SegView) : Option SegView := (vs.filter fun v => v.start ≤ p).getLast?

/-- The point lookup of the active bank (R32). -/
def State.segmentAt (s : State) (p : Int) : Option SegView :=
  match s.lineEnd with
  | none => none
  | some e => pointLookup (clampPoint e p) s.views

/-- Does a segment overlap the stretch [a, b]? (R33) -/
def SegView.overlaps (v : SegView) (a b : Nat) : Bool := v.start ≤ b && (a < v.stop || v.last)

/-- The stretch lookup of [a, b], taken uphill, both bounds within the line (R33). -/
def stretchLookup (a b : Nat) (vs : List SegView) : List SegView :=
  if a = b then (pointLookup a vs).toList else vs.filter fun v => v.overlaps a b

/-- The stretch lookup of the active bank in a direction (R33). -/
def State.stretch (s : State) (d : Dir) (a b : Int) : List SegView :=
  match s.lineEnd with
  | none => []
  | some e =>
    let vs := stretchLookup (clampPoint e a) (clampPoint e b) s.views
    match d with
    | .up => vs
    | .down => vs.reverse

/-- A marker as the marker lookup returns it: its id, position and window with the index of its segment (R34). -/
structure MarkerAt extends Marker where
  segment : Nat
  deriving DecidableEq, Repr

/-- A platform extent as the platform lookup returns it: with the index of the segment that carries it (R35). -/
structure PlatformAt extends Platform where
  segment : Nat
  deriving DecidableEq, Repr

/-- The markers of the active bank in order along the line in a direction (R34). -/
def State.markers (s : State) (d : Dir) : List MarkerAt :=
  let ms := s.views.filterMap fun v => v.seg.marker.map fun m => { m with segment := v.index }
  match d with
  | .up => ms
  | .down => ms.reverse

/-- The platform lookup of [a, b], in ascending segment index (R35). -/
def State.platforms (s : State) (a b : Int) : List PlatformAt :=
  match s.lineEnd with
  | none => []
  | some e =>
    (s.views.filterMap fun v => v.seg.platform.map fun p => { p with segment := v.index }).filter fun p =>
      p.fromPos ≤ clampPoint e a && clampPoint e b ≤ p.toPos

/-! ## Views of the position record -/

/-- The pinion point, which may be negative (00 §4.3). -/
def State.pinionPoint (s : State) : Int := (s.odo.position : Int) - (s.cfg.pinionOffset : Int)

/-- The reader point in mm (00 §4.3). -/
def State.readerPoint (s : State) : Int := (s.odo.position : Int) - (s.cfg.readerOffset : Int)

/-- The segment at the pinion point; absent while UNLOCALISED or with no active bank (R2, section 1.4). -/
def State.pinionSegment (s : State) : Option SegView :=
  match s.odo.localisation with
  | .unlocalised => none
  | _ => s.segmentAt s.pinionPoint

/-- The reference counter (R2). -/
def State.reference (s : State) : Counter :=
  match s.pinionSegment with
  | none => .wheel
  | some v =>
    match v.seg.kind with
    | .rack => .pinion
    | _ => .wheel

/-- The ring of a counter (R3). -/
def Odometry.ring (o : Odometry) : Counter → List RingEntry
  | .pinion => o.pinRing
  | .wheel => o.whlRing

/-- The ring of the reference counter. -/
def State.referenceRing (s : State) : List RingEntry := s.odo.ring s.reference

/-- The direction the expected marker is taken in: that of the newest entry of the reference ring, or the direction of
travel of the latest pass while that ring is empty (R14). -/
def State.markerDir (s : State) : Dir :=
  match s.referenceRing.getLast? with
  | some e => e.dir
  | none => s.odo.direction

/-- Does a marker lie at or beyond the near edge of what the reader point may still meet? (R14) -/
def markerAhead (d : Dir) (reader : Int) (u : Nat) (m : Marker) : Bool :=
  match d with
  | .up => (m.position : Int) ≥ reader - ((m.window : Int) + u)
  | .down => (m.position : Int) ≤ reader + ((m.window : Int) + u)

/-- The expected marker in a direction, the last passed marker excluded (R14). -/
def State.expectedToward (s : State) (d : Dir) : Option Marker :=
  ((s.markers d).find? fun m =>
    markerAhead d s.readerPoint s.odo.uncertainty m.toMarker && s.odo.lastPassed != some m.id).map MarkerAt.toMarker

/-- The expected marker (R14). -/
def State.expectedMarker (s : State) : Option Marker := s.expectedToward s.markerDir

/-- The front estimate for a direction, clamped to the line (R12). -/
def State.front (s : State) (lineEnd : Nat) : Dir → Nat
  | .up => clampPoint lineEnd ((s.odo.position : Int) + s.odo.uncertainty)
  | .down => clampPoint lineEnd ((s.odo.position : Int) - s.cfg.carLength - s.odo.uncertainty)

/-- The lower bound of the car span, clamped to the line (R12). -/
def State.spanFrom (s : State) (lineEnd : Nat) : Nat := s.front lineEnd .down

/-- The upper bound of the car span, clamped to the line (R12). -/
def State.spanTo (s : State) (lineEnd : Nat) : Nat := s.front lineEnd .up

end Sys2Proof.Machine
end

