-- ==== Sys2Proof/Machine/Entrances.lean ====
section
/-! DEFINITION. The Entrance Controller (chapter 8): sensor reads, the leaf machine, the entrance summary, the release
of each side, commands, isolation and takeover. -/

namespace Sys2Proof

/-! ## The eight leaves and their inputs -/

/-- The thing of a leaf. -/
def Eight.get {α : Type} (x : Eight α) (i : Fin 8) : α :=
  match i with
  | 0 => x.e0
  | 1 => x.e1
  | 2 => x.e2
  | 3 => x.e3
  | 4 => x.e4
  | 5 => x.e5
  | 6 => x.e6
  | 7 => x.e7

/-- The eight with the thing of one leaf replaced. -/
def Eight.set {α : Type} (x : Eight α) (i : Fin 8) (a : α) : Eight α :=
  match i with
  | 0 => { x with e0 := a }
  | 1 => { x with e1 := a }
  | 2 => { x with e2 := a }
  | 3 => { x with e3 := a }
  | 4 => { x with e4 := a }
  | 5 => { x with e5 := a }
  | 6 => { x with e6 := a }
  | 7 => { x with e7 := a }

/-- The eight as a list, leaf 0 first. -/
def Eight.toList {α : Type} (x : Eight α) : List α := [x.e0, x.e1, x.e2, x.e3, x.e4, x.e5, x.e6, x.e7]

/-- A function on each of the eight. -/
def Eight.map {α β : Type} (f : α → β) (x : Eight α) : Eight β :=
  ⟨f x.e0, f x.e1, f x.e2, f x.e3, f x.e4, f x.e5, f x.e6, f x.e7⟩

/-- The number of ones of a burst (R143). -/
def burstOnes (b : BitVec 13) : Nat :=
  ((List.range 13).filter fun i => b.getLsbD i).length

/-- Is a read successful: the line idle high, and an odd number of ones (R143)? -/
def LeafInput.good (x : LeafInput) : Bool := x.idleHigh && burstOnes x.burst % 2 == 1

/-- The position a burst carries: its first 12 bits, most significant first (R143). -/
def LeafInput.counts (x : LeafInput) : Nat := x.burst.toNat / 2

end Sys2Proof

namespace Sys2Proof.Machine

/-! ## Leaves and sides -/

/-- The leaves 0 to 7. -/
def allLeaves : List (Fin 8) := [0, 1, 2, 3, 4, 5, 6, 7]

/-- The leaves of a side: 0 to 3 LEFT, 4 to 7 RIGHT (R155). -/
def Side.leaves : Side → List (Fin 8)
  | .left => [0, 1, 2, 3]
  | .right => [4, 5, 6, 7]

/-- The side of a leaf. -/
def leafSide (i : Fin 8) : Side := if i.val < 4 then .left else .right

/-- The release of a side. -/
def Entrances.release (e : Entrances) : Side → Release
  | .left => e.releaseLeft
  | .right => e.releaseRight

/-- The takeover of a side. -/
def Entrances.takeover (e : Entrances) : Side → Takeover
  | .left => e.takeoverLeft
  | .right => e.takeoverRight

/-- The controller with a side's release set. -/
def Entrances.setRelease (e : Entrances) (d : Side) (r : Release) : Entrances :=
  match d with
  | .left => { e with releaseLeft := r }
  | .right => { e with releaseRight := r }

/-- The controller with a side's takeover set. -/
def Entrances.setTakeover (e : Entrances) (d : Side) (t : Takeover) : Entrances :=
  match d with
  | .left => { e with takeoverLeft := t }
  | .right => { e with takeoverRight := t }

/-! ## The leaf record (R145) -/

/-- The outputs that a state and phase set (R145). -/
def leafOutputs : LeafState → Option Phase → Motor × Lock
  | .closed, _ => (.off, .engaged)
  | .unlocking, _ => (.off, .released)
  | .opening, _ => (.opening, .released)
  | .opened, _ => (.off, .released)
  | .warning, _ => (.off, .released)
  | .closing, some .locking => (.off, .engaged)
  | .closing, _ => (.closing, .released)
  | .reopening, some .pause => (.off, .released)
  | .reopening, _ => (.opening, .released)
  | .obstructed, _ => (.off, .released)
  | .fault, _ => (.off, .engaged)
  | .isolated, _ => (.off, .engaged)
  | .manual, _ => (.notDriven, .notDriven)

/-- A leaf entering a state and phase at a time: its outputs set, its fault cause, stall reference and reopening target
cleared (R145). Entering CLOSED clears the return mark (R165). -/
def LeafRecord.enter (now : Time) (st : LeafState) (ph : Option Phase) (r : LeafRecord) : LeafRecord :=
  { r with
    state := st
    phase := ph
    stateTime := now
    cause := none
    stall := none
    target := none
    returnMark := if st = .closed then false else r.returnMark
    motor := (leafOutputs st ph).1
    lock := (leafOutputs st ph).2 }

/-- A leaf entering FAULT with a cause (R154). -/
def LeafRecord.enterFault (now : Time) (c : LeafCause) (r : LeafRecord) : LeafRecord :=
  { r.enter now .fault none with cause := some c, attempts := 0 }

/-- A leaf entering CLOSING in phase DRIVING, its stall reference its held position and the time (R148). -/
def LeafRecord.enterClosing (now : Time) (r : LeafRecord) : LeafRecord :=
  { r.enter now .closing (some .driving) with stall := some (r.position.getD 0, now) }

/-- Sensed closed (R145). -/
def LeafRecord.sensedClosed (closedTol : Nat) (r : LeafRecord) : Bool :=
  r.failed == 0 &&
    match r.position with
    | none => false
    | some p => p ≤ closedTol

/-- Locked (R145). -/
def LeafRecord.locked (closedTol : Nat) (r : LeafRecord) : Bool := r.sensedClosed closedTol && r.lockProven

/-- A successful read with a position above closed_tol (R153, R165). -/
def LeafRecord.above (closedTol : Nat) (r : LeafRecord) : Bool :=
  r.failed == 0 &&
    match r.position with
    | none => false
    | some p => closedTol < p

/-- At the open position (R145). -/
def LeafRecord.atOpen (openCount : Nat) (r : LeafRecord) : Bool :=
  r.failed == 0 &&
    match r.position with
    | none => false
    | some p => openCount - Config.openSlack ≤ p

/-- The time since the state time is at least `n` µs. -/
def LeafRecord.elapsed (now : Time) (n : Nat) (r : LeafRecord) : Bool := n ≤ Time.since now r.stateTime

/-- A leaf record put back; a change of its state posts an ENTRANCE report (R145). -/
def State.putLeaf (i : Fin 8) (r : LeafRecord) (s : State) : State :=
  let s1 := { s with ent := { s.ent with leaves := s.ent.leaves.set i r } }
  if r.state = (s.ent.leaves.get i).state then s1 else s1.post (.entrance i.val r.state r.cause)

/-! ## Stage 1: sensor reads (R143, R144, R167) -/

/-- May a third failed read fault a leaf in this state (R144)? -/
def LeafState.faultsOnReads : LeafState → Bool
  | .isolated => false
  | .manual => false
  | .fault => false
  | _ => true

/-- A leaf record with its read taken and its lock-proven input sampled (R143). -/
def LeafRecord.read (x : LeafInput) (r : LeafRecord) : LeafRecord :=
  if x.good then { r with position := some x.counts, failed := 0, lockProven := x.lockProven }
  else { r with failed := min (r.failed + 1) 3, lockProven := x.lockProven }

/-- The read of one leaf at stage 1: a third failed read faults it, a first successful read sets its state
(R143, R144, R167). The first successful read of a pending leaf that stands in FAULT or MANUAL clears its flag and posts no
ENTRANCE report (assumption 56). -/
def State.readLeaf (x : LeafInput) (i : Fin 8) (s : State) : State :=
  let now := s.clock.now
  let r := (s.ent.leaves.get i).read x
  if !x.good then
    if r.failed = 3 ∧ r.state.faultsOnReads = true then s.putLeaf i (r.enterFault now .sensor) else s.putLeaf i r
  else if !r.pending then s.putLeaf i r
  else
    let r1 := { r with pending := false }
    if r.state.faultsOnReads then
      let r2 := r1.enter now (if r.locked s.cfg.closedTol then .closed else .opened) none
      State.post (.entrance i.val r2.state none)
        { s with ent := { s.ent with leaves := s.ent.leaves.set i r2 } }
    else s.putLeaf i r1

/-! ## Stage 2: takeovers granted (R162) -/

/-- A leaf handed to the local panel (R162). -/
def LeafRecord.handOver (now : Time) (r : LeafRecord) : LeafRecord :=
  { r.enter now .manual none with attempts := 0, returnMark := false }

/-- One leaf of a side that is granted; an ISOLATED leaf stays (R162). -/
def State.handOverLeaf (s : State) (i : Fin 8) : State :=
  let r := s.ent.leaves.get i
  if r.state = .isolated then s else s.putLeaf i (r.handOver s.clock.now)

/-- A PENDING takeover granted (R162). Its leaves report in ascending order, before the TAKEOVER report (assumption 55). -/
def State.grantTakeover (d : Side) (s : State) : State :=
  match s.ent.takeover d with
  | .pending =>
    let s1 := d.leaves.foldl State.handOverLeaf s
    State.post (.takeover d .granted) { s1 with ent := s1.ent.setTakeover d .granted }
  | _ => s

/-! ## Stage 3: the leaf machine (R146 to R153) -/

/-- An UNLOCKING leaf still proven locked after 500 ms (R146). -/
def LeafRecord.unlockTimeout (now : Time) (r : LeafRecord) : LeafRecord :=
  if r.state = .unlocking ∧ r.lockProven = true ∧ r.elapsed now Config.lockTime = true then r.enterFault now .unlockFailed
  else r

/-- A WARNING leaf whose warning time has elapsed (R148). -/
def LeafRecord.warningElapsed (now : Time) (warningTime : Nat) (r : LeafRecord) : LeafRecord :=
  if r.state = .warning ∧ r.elapsed now (warningTime * 1000) = true then r.enterClosing now else r

/-- A leaf in LOCKING not locked after 500 ms (R152). -/
def LeafRecord.lockTimeout (now : Time) (closedTol : Nat) (r : LeafRecord) : LeafRecord :=
  if r.state = .closing ∧ r.phase = some .locking ∧ r.locked closedTol = false ∧ r.elapsed now Config.lockTime = true then
    r.enterFault now .lockNotProven
  else r

/-- A REOPENING leaf that has rested 1 s in PAUSE (R150). -/
def LeafRecord.pauseElapsed (now : Time) (r : LeafRecord) : LeafRecord :=
  if r.state = .reopening ∧ r.phase = some .pause ∧ r.elapsed now Config.pauseTime = true then r.enterClosing now else r

/-- An obstacle met: REOPENING toward its target, or OBSTRUCTED at the third attempt (R150). -/
def LeafRecord.obstacle (now : Time) (openCount : Nat) (r : LeafRecord) : LeafRecord :=
  let n := min (r.attempts + 1) 3
  if n < 3 then
    { r.enter now .reopening (some .driving) with
      attempts := n
      target := some (min (r.position.getD 0 + Config.reopenCounts) (openCount - Config.openSlack)) }
  else { r.enter now .obstructed none with attempts := n }

/-- The end of a stall window of a leaf in CLOSING, phase DRIVING, that is read and not sensed closed (R149, R150). -/
def LeafRecord.stallEnd (now : Time) (c : ConfigRecord) (r : LeafRecord) : LeafRecord :=
  match r.stall, r.position with
  | some (ref, since), some p =>
    if r.state = .closing ∧ r.phase = some .driving ∧ r.failed = 0 ∧ r.sensedClosed c.closedTol = false
        ∧ Config.stallWindow ≤ Time.since now since then
      if (ref : Int) - p < c.stallMin then r.obstacle now c.openCount else { r with stall := some (p, now) }
    else r
  | _, _ => r

/-- A leaf in CLOSING, phase DRIVING, at a cycle step (R149). -/
def LeafRecord.stepClosing (now : Time) (c : ConfigRecord) (r : LeafRecord) : LeafRecord :=
  if r.sensedClosed c.closedTol then r.enter now .closing (some .locking) else r.stallEnd now c

/-- A leaf in REOPENING, phase DRIVING, at a cycle step (R150). -/
def LeafRecord.stepReopening (now : Time) (r : LeafRecord) : LeafRecord :=
  match r.position, r.target with
  | some p, some t => if r.failed = 0 ∧ t ≤ p then r.enter now .reopening (some .pause) else r
  | _, _ => r

/-- The step of a leaf at stage 3 (R146 to R153). -/
def LeafRecord.step (now : Time) (c : ConfigRecord) (r : LeafRecord) : LeafRecord :=
  match r.state, r.phase with
  | .unlocking, _ => if r.lockProven then r.unlockTimeout now else r.enter now .opening none
  | .opening, _ => if r.atOpen c.openCount then r.enter now .opened none else r
  | .warning, _ => r.warningElapsed now c.warningTime
  | .closing, some .locking =>
    if r.locked c.closedTol then r.enter now .closed none else r.lockTimeout now c.closedTol
  | .closing, _ => r.stepClosing now c
  | .reopening, some .pause => r.pauseElapsed now
  | .reopening, some .turning => r.enter now .opening none
  | .reopening, _ => r.stepReopening now
  | .closed, _ => if !r.lockProven || r.above c.closedTol then r.enterFault now .forced else r
  | _, _ => r

/-- The step of one leaf (R142 stage 3). -/
def State.stepLeaf (s : State) (i : Fin 8) : State :=
  s.putLeaf i ((s.ent.leaves.get i).step s.clock.now s.cfg)

/-! ## Stages 4 to 6: summary, release, alerts (R159, R160, R161, R165) -/

/-- Does a leaf count as locked in the summary (R159)? -/
def LeafRecord.counts (closedTol : Nat) (r : LeafRecord) : Bool :=
  match r.state with
  | .closed => !r.pending
  | .isolated => !r.pending
  | .manual => !r.pending && r.locked closedTol
  | _ => false

/-- The summary's all-locked verdict (R159). -/
def State.formAllLocked (s : State) : Bool := s.ent.leaves.toList.all fun r => r.counts s.cfg.closedTol

/-- Is an extent's side this side or BOTH (R160)? -/
def PlatformSide.serves (x : PlatformSide) (d : Side) : Bool :=
  match x, d with
  | .both, _ => true
  | .left, .left => true
  | .right, .right => true
  | _, _ => false

/-- The platform extents that contain the car span on a side; an UNLOCALISED car finds none (R35, R160). -/
def State.sideExtents (s : State) (d : Side) : List PlatformAt :=
  match s.odo.localisation with
  | .unlocalised => []
  | _ =>
    let e := s.lineEnd.getD 0
    (s.platforms (s.spanFrom e) (s.spanTo e)).filter fun p => p.side.serves d

/-- Test 3 of R160: the brake that holds the car where it stands; an absent segment is taken as RACK. The hold level is the
one that the latest pass applied (R199). -/
def State.brakeHolds (s : State) : Bool :=
  let adhesion : Bool := match s.pinionSegment with
    | none => false
    | some v => v.seg.kind == .adhesion
  if adhesion then decide (s.sup.holdLevel ≤ s.sup.demands.service) else s.brake.band.confirmed

/-- The release of a side (R160). -/
def State.formRelease (s : State) (d : Side) : Release :=
  let released : Bool := match s.sup.mode with
    | .line => true
    | .shunt => true
    | .parked => true
    | _ => false
  if !released then .withheld .mode
  else if !s.odo.standstill then .withheld .moving
  else if !s.brakeHolds then .withheld .brake
  else if s.sup.mode = .parked then .granted
  else if (s.sideExtents d).isEmpty then .withheld .platform
  else if (s.sideExtents d).any fun p => s.route.holds.contains p.station then .withheld .hold
  else .granted

/-- Is a release GRANTED? -/
def Release.isGranted : Release → Bool
  | .granted => true
  | .withheld _ => false

/-- The return mark of a leaf cleared. -/
def State.clearMark (s : State) (i : Fin 8) : State :=
  { s with ent := { s.ent with leaves := s.ent.leaves.set i { s.ent.leaves.get i with returnMark := false } } }

/-- Stage 5 for one side: the release formed, a change reported, and while GRANTED the side's return marks cleared
(R160, R161, R165). -/
def State.releaseSide (d : Side) (s : State) : State :=
  let former := s.ent.release d
  let new := s.formRelease d
  let s1 := { s with ent := s.ent.setRelease d new }
  let s2 := if new.isGranted then d.leaves.foldl State.clearMark s1 else s1
  if former.isGranted = new.isGranted then s2 else s2.post (.release d new)

/-- ENTRANCE_OBSTRUCTED's state: a leaf stands OBSTRUCTED (R151). -/
def State.anyObstructed (s : State) : Bool := s.ent.leaves.toList.any fun r => r.state == .obstructed

/-- ENTRANCE_FAULT's state (R165). -/
def State.anyFault (s : State) : Bool :=
  s.ent.leaves.toList.any fun r =>
    r.state == .fault || r.returnMark || (r.state == .isolated && r.above s.cfg.closedTol)

/-- Stage 6: the two condition alerts (R142, R151, R165), ENTRANCE_OBSTRUCTED before ENTRANCE_FAULT (assumption 57). -/
def State.publishEntrances (s : State) : State :=
  (s.setCondition .entranceObstructed s.anyObstructed).setCondition .entranceFault s.anyFault

/-- One whole entrance cycle at the time of the clock (R142). LEFT goes before RIGHT at stages 2 and 5 (assumption 48); a
leaf that stage 1 has put into FAULT or CLOSED may enter MANUAL at stage 2 of the same cycle (assumption 49). -/
def State.entranceCycle (inputs : Eight LeafInput) (s : State) : State :=
  let s0 := { s with ent := { s.ent with cycleTime := some s.clock.now, closedTol := s.cfg.closedTol } }
  let s1 := allLeaves.foldl (fun s i => s.readLeaf (inputs.get i) i) s0
  let s2 := (s1.grantTakeover .left).grantTakeover .right
  let s3 := allLeaves.foldl State.stepLeaf s2
  let s4 := { s3 with ent := { s3.ent with allLocked := s3.formAllLocked } }
  ((s4.releaseSide .left).releaseSide .right).publishEntrances

/-! ## Commands (R155, R156) -/

/-- The effect of OPEN on a leaf (R155). -/
def LeafRecord.commandOpen (now : Time) (r : LeafRecord) : LeafRecord :=
  if r.pending then r
  else
    match r.state, r.phase with
    | .closed, _ => r.enter now .unlocking none
    | .closing, some .locking => r.enter now .unlocking none
    | .warning, _ => r.enter now .opening none
    | .closing, _ => r.enter now .reopening (some .turning)
    | .reopening, some .turning => r
    | .reopening, _ => r.enter now .opening none
    | .obstructed, _ => r.enter now .opening none
    | _, _ => r

/-- The effect of CLOSE on a leaf whose attempts are already 0 (R156). -/
def LeafRecord.closeMove (now : Time) (closedTol : Nat) (r : LeafRecord) : LeafRecord :=
  match r.state with
  | .opened => r.enter now .warning none
  | .opening => r.enter now .warning none
  | .obstructed => r.enter now .warning none
  | .reopening => r.enter now .warning none
  | .unlocking => r.enter now .closing (some .locking)
  | .fault =>
    if r.failed = 0 then r.enter now (if r.locked closedTol then .closed else .warning) none else r
  | _ => r

/-- The effect of CLOSE on a leaf: its attempts 0; a leaf it moves loses its return mark (R156). -/
def LeafRecord.commandClose (now : Time) (closedTol : Nat) (r : LeafRecord) : LeafRecord :=
  let r0 := { r with attempts := 0 }
  if r.pending then r0
  else
    let r1 := r0.closeMove now closedTol
    if r1.state = r.state then r1 else { r1 with returnMark := false }

/-- The number of a side's leaves that a change moves. -/
def State.movedBy (d : Side) (f : LeafRecord → LeafRecord) (s : State) : Nat :=
  (d.leaves.filter fun i => (f (s.ent.leaves.get i)).state != (s.ent.leaves.get i).state).length

/-- A change of each leaf of a side by one request; their ENTRANCE reports come in ascending leaf order (R155, R156, R164;
assumption 55). -/
def State.changeLeaves (d : Side) (f : LeafRecord → LeafRecord) (s : State) : State :=
  d.leaves.foldl (fun s i => s.putLeaf i (f (s.ent.leaves.get i))) s

/-- OPEN of a side (R155). -/
def State.openSide (d : Side) (s : State) : Result × State :=
  if s.ent.takeover d ≠ .none then (.refusedState, s)
  else if (s.ent.release d).isGranted then
    let f := LeafRecord.commandOpen s.clock.now
    (.done (.leaves (s.movedBy d f)), s.changeLeaves d f)
  else (.refusedState, s)

/-- CLOSE of a side (R156), its leaves judged as the latest cycle read them. -/
def State.closeSide (d : Side) (s : State) : Result × State :=
  if s.ent.takeover d ≠ .none then (.refusedState, s)
  else
    let f := LeafRecord.commandClose s.clock.now s.ent.closedTol
    (.done (.leaves (s.movedBy d f)), s.changeLeaves d f)

/-! ## Isolation (R157, R158) -/

/-- ENTRANCE ISOLATE ON of a leaf sensed closed at the latest cycle (R157). -/
def State.isolateLeaf (i : Fin 8) (s : State) : Result × State :=
  let r := s.ent.leaves.get i
  if s.ent.takeover (leafSide i) ≠ .none then (.refusedState, s)
  else if r.state = .isolated then (.done .nothing, s)
  else if r.sensedClosed s.ent.closedTol then
    (.done .nothing,
      s.putLeaf i { r.enter s.clock.now .isolated none with attempts := 0, returnMark := false })
  else (.refusedState, s)

/-- The state a leaf takes from its sensors (R158, R164). -/
def LeafRecord.fromSensors (now : Time) (closedTol : Nat) (r : LeafRecord) : LeafRecord :=
  let r0 := { r with attempts := 0 }
  if r.failed = 3 then r0.enterFault now .sensor
  else if r.locked closedTol then r0.enter now .closed none
  else r0.enter now .opened none

/-- ENTRANCE ISOLATE OFF (R158). -/
def State.restoreLeaf (i : Fin 8) (s : State) : Result × State :=
  let r := s.ent.leaves.get i
  if s.ent.takeover (leafSide i) ≠ .none then (.refusedState, s)
  else if r.state = .isolated then (.done .nothing, s.putLeaf i (r.fromSensors s.clock.now s.ent.closedTol))
  else (.done .nothing, s)

/-! ## Takeover (R162, R164) -/

/-- TAKEOVER REQUEST of a side (R162). -/
def State.requestTakeover (d : Side) (s : State) : Result × State :=
  match s.ent.takeover d with
  | .none => (.accepted, { s with ent := s.ent.setTakeover d .pending })
  | .pending => (.accepted, s)
  | .granted => (.done .nothing, s)

/-- A MANUAL leaf taken back; returned OPEN under a WITHHELD release it carries the return mark (R164). Returned OPEN it
has the outputs of OPEN (R145), its lock released also while its first read is still pending (R167; assumption 54). -/
def LeafRecord.takeBack (now : Time) (closedTol : Nat) (granted : Bool) (r : LeafRecord) : LeafRecord :=
  if r.state = .manual then
    let r1 := r.fromSensors now closedTol
    if r1.state = .opened then { r1 with returnMark := !granted } else r1
  else r

/-- TAKEOVER RETURN of a side (R164). -/
def State.returnTakeover (d : Side) (s : State) : Result × State :=
  match s.ent.takeover d with
  | .none => (.refusedState, s)
  | .pending => (.done .nothing, State.post (.takeover d .none) { s with ent := s.ent.setTakeover d .none })
  | .granted =>
    let s1 := s.changeLeaves d (LeafRecord.takeBack s.clock.now s.ent.closedTol (s.ent.release d).isGranted)
    (.done .nothing, State.post (.takeover d .none) { s1 with ent := s1.ent.setTakeover d .none })

/-! ## READ ENTRANCES (R166) -/

/-- READ ENTRANCES's readout (R166); the two alerts as active in the Alert Set. -/
def State.entrancesReadout (s : State) : EntrancesReadout where
  leaves := s.ent.leaves.map fun r => ⟨r, r.sensedClosed s.ent.closedTol, r.locked s.ent.closedTol⟩
  releaseLeft := s.ent.releaseLeft
  releaseRight := s.ent.releaseRight
  takeoverLeft := s.ent.takeoverLeft
  takeoverRight := s.ent.takeoverRight
  allLocked := s.ent.allLocked
  obstructed := (s.notice.entry .entranceObstructed).active
  fault := (s.notice.entry .entranceFault).active
  cycleTime := s.ent.cycleTime

end Sys2Proof.Machine
end

