-- ==== Sys2Proof/Machine/LineStore.lean ====
section
/-! DEFINITION. Loading, checking and exchanging line banks (02 §2.3 to §2.5), and the readouts of the Line Store. -/

namespace Sys2Proof.Machine

/-! ## Loading (R25, R26, R27) -/

/-- The first header field out of range (R25). -/
def headerBad (lineId count lineEnd : Nat) : Option Nat :=
  if lineId = 0 ∨ 65535 < lineId then some 1
  else if count = 0 ∨ Config.places < count then some 2
  else if lineEnd = 0 ∨ Config.maxDistance < lineEnd then some 3
  else none

/-- A bank after a load that is replied DONE: LOADING, its check outcome NONE (R27). -/
def Bank.loaded (b : Bank) : Bank := { b with state := .loading, outcome := .unchecked }

/-- A bank with its header replaced (R25). -/
def Bank.setHeader (h : Header) (b : Bank) : Bank := { b.loaded with header := some h }

/-- A bank with the record at an index replaced (R26). -/
def Bank.setPlace (i : Nat) (g : Segment) (b : Bank) : Bank := { b.loaded with places := b.places.set i (some g) }

/-- The standby bank. -/
def LineStore.standbyBank (l : LineStore) : Bank := l.bank l.standby

/-- The Line Store with its standby bank replaced. -/
def LineStore.setStandby (l : LineStore) (b : Bank) : LineStore := l.setBank l.standby b

/-- LOAD HEADER (R25). -/
def LineStore.loadHeader (lineId count lineEnd : Nat) (l : LineStore) : Result × LineStore :=
  match headerBad lineId count lineEnd with
  | some n => (.badField n, l)
  | none => (.done .nothing, l.setStandby (l.standbyBank.setHeader ⟨lineId, count, lineEnd⟩))

/-- LOAD SEGMENT (R26). -/
def LineStore.loadSegment (f : SegmentFields) (l : LineStore) : Result × LineStore :=
  match segmentBad f with
  | some n => (.badField n, l)
  | none => (.done .nothing, l.setStandby (l.standbyBank.setPlace f.index.toNat (segmentRecord f)))

/-! ## Checking (R28, R29) -/

/-- The first place not loaded, counted from `i` (R28 test 2). -/
def firstUnloaded : Nat → List (Option Segment) → Option Nat
  | _, [] => none
  | i, none :: _ => some i
  | i, some _ :: rest => firstUnloaded (i + 1) rest

/-- The first segment whose start is not above the one before it (R28 test 4). -/
def firstUnordered : List SegView → Option Nat
  | v :: w :: rest => if v.start < w.start then firstUnordered (w :: rest) else some w.index
  | _ => none

/-- The index of the first segment that fails a test. -/
def firstFailing (ok : SegView → Bool) (vs : List SegView) : Option Nat :=
  (vs.find? fun v => !ok v).map fun v => v.index

/-- Does a segment's marker lie in the segment (R28 test 6)? -/
def SegView.markerInside (v : SegView) : Bool :=
  match v.seg.marker with
  | none => true
  | some m => v.start ≤ m.position && (m.position < v.stop || (v.last && m.position == v.stop))

/-- The first segment whose marker id stands at a lower index, the ids seen so far given (R28 test 7). -/
def firstRepeat : List Nat → List SegView → Option Nat
  | _, [] => none
  | seen, v :: vs =>
    match v.seg.marker with
    | none => firstRepeat seen vs
    | some m => if seen.contains m.id then some v.index else firstRepeat (m.id :: seen) vs

/-- Does a segment's platform begin before it ends (R28 test 8)? -/
def SegView.platformOrdered (v : SegView) : Bool :=
  match v.seg.platform with
  | none => true
  | some p => p.fromPos < p.toPos

/-- Does a segment's platform end on the line (R28 test 9)? -/
def SegView.platformOnLine (lineEnd : Nat) (v : SegView) : Bool :=
  match v.seg.platform with
  | none => true
  | some p => p.toPos ≤ lineEnd

/-- The tests of R28 in their order: each reason with the index it reports, when it fails. -/
def bankTests (h : Header) (places : List (Option Segment)) (vs : List SegView) : List (CheckReason × Option Nat) :=
  [(.notLoaded, firstUnloaded 0 (places.take h.count)),
   (.firstStart, match vs with
     | v :: _ => if v.start = 0 then none else some 0
     | [] => none),
   (.startOrder, firstUnordered vs),
   (.startBeyondEnd, firstFailing (fun v => v.start < h.lineEnd) vs),
   (.markerOutside, firstFailing SegView.markerInside vs),
   (.markerIdRepeat, firstRepeat [] vs),
   (.platformOrder, firstFailing SegView.platformOrdered vs),
   (.platformBeyondLine, firstFailing (SegView.platformOnLine h.lineEnd) vs)]

/-- The outcome that the first failing test decides (R28, R29). -/
def firstVerdict : List (CheckReason × Option Nat) → CheckOutcome
  | [] => .passed
  | (r, some i) :: _ => .failed r (some i)
  | (_, none) :: rest => firstVerdict rest

/-- The judgement of a bank (R28). -/
def Bank.judge (b : Bank) : CheckOutcome :=
  match b.header with
  | none => .failed .noHeader none
  | some h => firstVerdict (bankTests h b.places b.views)

/-- A bank after a check with an outcome (R29). -/
def Bank.judged (o : CheckOutcome) (b : Bank) : Bank :=
  { b with state := if o = .passed then .checked else .loading, outcome := o }

/-- CHECK BANK (R28, R29). -/
def LineStore.check (l : LineStore) : Result × LineStore :=
  let b := l.standbyBank
  match b.state with
  | .empty => (.refusedState, l)
  | _ => (.done (.verdict b.judge), l.setStandby (b.judged b.judge))

/-! ## Swapping (R30) -/

/-- The exchange of the banks: the standby bank becomes ACTIVE, and the bank that was ACTIVE becomes CHECKED (R30). -/
def LineStore.swap (l : LineStore) : LineStore :=
  let n := l.standby
  let l1 := match l.active with
    | none => l
    | some o => l.setBank o { l.bank o with state := .checked }
  { l1.setBank n { l1.bank n with state := .active } with active := some n }

/-! ## Readouts (R36, R37) -/

/-- The code of a bank state (10 §10.7). -/
def BankState.code : BankState → Nat
  | .empty => 0
  | .loading => 1
  | .checked => 2
  | .active => 3

/-- READ SEGMENT's readout of a place (R36, 10 §10.7); its two codes and its flag take one byte each (assumption 58). -/
def Bank.segmentReadout (i : Nat) (b : Bank) : List Byte :=
  let below := match b.header with
    | none => 2
    | some h => if i < h.count then 0 else 1
  le 1 b.state.code ++ le 1 below ++
    match b.places.getD i none with
    | none => le 1 0
    | some g => le 1 1 ++ segmentBytes i g

/-- READ SEGMENT of a bank code and an index (R36, R195); with both out of range field 1 is named (assumption 44). -/
def LineStore.readSegment (bank index : Nat) (l : LineStore) : Result :=
  if 1 < bank then .badField 1
  else if Config.places ≤ index then .badField 2
  else .done (.bytes ((l.bank (if bank = 0 then .a else .b)).segmentReadout index))

/-- The number of loaded places below the segment count (R37); 0 while no header is loaded (assumption 45). -/
def Bank.loadedCount (b : Bank) : Nat :=
  match b.header with
  | none => 0
  | some h => ((b.places.take h.count).filter Option.isSome).length

/-- A bank's role (R24, R37). -/
def LineStore.role (l : LineStore) (n : BankName) : BankRole :=
  if l.active = some n then .active else if l.standby = n then .standby else .neither

/-- READ BANK STATE's readout of one bank (R37). -/
def LineStore.bankReadout (l : LineStore) (n : BankName) : BankReadout where
  state := (l.bank n).state
  role := l.role n
  header := (l.bank n).header
  loaded := (l.bank n).loadedCount
  outcome := (l.bank n).outcome

end Sys2Proof.Machine
end

