-- ==== Sys2Proof/Machine/Route.lean ====
section
/-! DEFINITION. The operations of the Route Store (chapter 4): valley now and expiries, the authority, the restriction
list with its overflow cap, the entrance-hold set and a new line end. -/

namespace Sys2Proof.Machine

/-! ## Valley time and expiries (R53, R64) -/

/-- Valley now, while valley time is known (R53). -/
def State.valleyNow (s : State) : Option Time :=
  match s.radio.offset with
  | none => none
  | some o => some (s.clock.localMs + o)

/-- Is an expiry reached (R64)? An absent expiry never is, nor any while valley time is unknown. -/
def expiryReached (now expiry : Option Time) : Bool :=
  match now, expiry with
  | some v, some e => Time.atOrAfter v e
  | _, _ => false

/-- The authority removed when its expiry is reached (R68). -/
def State.expireAuthority (s : State) : State :=
  match s.route.authority with
  | none => s
  | some a =>
    if expiryReached s.valleyNow a.expiry then
      State.raise .authorityExpired { s with route := { s.route with authority := none } }
    else s

/-- RESTRICTION_CAP is active while a cap is held (R72). -/
def State.publishCap (s : State) : State := s.setCondition .restrictionCap s.route.cap.isSome

/-- `n` entries leave the list by lift or expiry: the overflow cap clears at the first and the list version rises by 1
for each (R73, R74, R75; assumption 18). -/
def State.entriesLeave (n : Nat) (list : List Restriction) (s : State) : State :=
  if n = 0 then s
  else
    State.publishCap
      { s with
        route := { s.route with restrictions := list, cap := none, version := s.route.version + BitVec.ofNat 8 n } }

/-- The restriction entries whose expiry is reached leave the list, in list order (R75). -/
def State.expireRestrictions (s : State) : State :=
  let now := s.valleyNow
  let kept := s.route.restrictions.filter fun r => !expiryReached now r.expiry
  s.entriesLeave (s.route.restrictions.length - kept.length) kept

/-- The test of every expiry (R64): the authority, then the restriction entries. -/
def State.ageRecords (s : State) : State := s.expireAuthority.expireRestrictions

/-! ## The authority (R65, R66, R67) -/

/-- The class of an AUTHORITY telegram by its seq (R65). -/
inductive SeqClass where
  | new
  | again
  | older
  deriving DecidableEq, Repr

/-- The class of seq `n` with the held record given (R65). -/
def seqClass (held : Option Authority) (n : Byte) : SeqClass :=
  match held with
  | none => .new
  | some a => if n - a.seq = 0 then .again else if (n - a.seq).toNat ≤ 127 then .new else .older

/-- A position clamped to the line end in use (R66, R69). -/
def clampToLine (lineEnd : Option Nat) (p : Nat) : Nat :=
  match lineEnd with
  | none => p
  | some e => min p e

/-- An AUTHORITY telegram (R65, R66, R67). -/
def State.takeAuthority (a : Authority) (s : State) : State :=
  let a' := { a with endPos := clampToLine s.lineEnd a.endPos }
  match seqClass s.route.authority a.seq with
  | .again => s
  | .older => s.post (.authority a'.seq a'.endPos false)
  | .new =>
    if a.expiry.isSome && (s.valleyNow.isNone || expiryReached s.valleyNow a.expiry) then
      s.post (.authority a'.seq a'.endPos false)
    else State.post (.authority a'.seq a'.endPos true) { s with route := { s.route with authority := some a' } }

/-! ## The restriction list (R69 to R74) -/

/-- The order of the list: ascending from, then ascending id (R71). -/
def Restriction.before (a b : Restriction) : Bool := a.fromPos < b.fromPos || (a.fromPos == b.fromPos && a.id < b.id)

/-- An entry placed in the order of the list (R71). -/
def insertRestriction (r : Restriction) : List Restriction → List Restriction
  | [] => [r]
  | x :: xs => if r.before x then r :: x :: xs else x :: insertRestriction r xs

/-- The list without an id. -/
def withoutId (id : Nat) (l : List Restriction) : List Restriction := l.filter fun r => r.id != id

/-- A RESTRICTION SET with its limit and its to clamped (R69 steps 1, 2). -/
def clampRestriction (lineEnd : Option Nat) (r : Restriction) : Restriction :=
  { r with limit := min r.limit Config.maxSpeed, toPos := clampToLine lineEnd r.toPos }

/-- Is a clamped RESTRICTION SET refused (R69 steps 3 to 5)? -/
def restrictionRefused (now : Option Time) (r : Restriction) : Bool :=
  !(r.fromPos < r.toPos) || (r.expiry.isSome && (now.isNone || expiryReached now r.expiry))

/-- The overflow cap after a RESTRICTION SET refused for a full list (R72). -/
def lowerCap (cap : Option Nat) (limit : Nat) : Nat :=
  match cap with
  | none => limit
  | some c => min c limit

/-- A new restriction that finds the list full: RESTRICTION_REFUSED is raised, then the cap is set or lowered (R72). -/
def State.overflow (limit : Nat) (s : State) : State :=
  let c := lowerCap s.route.cap limit
  State.publishCap
    { s.raise .restrictionRefused with
      route := { s.route with
        cap := some c
        version := if s.route.cap = some c then s.route.version else s.route.version + 1 } }

/-- The list with an entry placed (R70, R71). -/
def State.placeRestriction (r : Restriction) (s : State) : State :=
  { s with
    route := { s.route with
      restrictions := insertRestriction r (withoutId r.id s.route.restrictions)
      version := s.route.version + 1 } }

/-- A RESTRICTION SET telegram and the outcome handed back (R69 to R72). -/
def State.setRestriction (r : Restriction) (s : State) : Bool × State :=
  let r' := clampRestriction s.lineEnd r
  if restrictionRefused s.valleyNow r' then (false, s.raise .restrictionRefused)
  else if s.route.restrictions.any (fun x => x.id == r.id) || s.route.restrictions.length < Config.restrictionList then
    (true, s.placeRestriction r')
  else (false, s.overflow r'.limit)

/-- A RESTRICTION LIFT telegram (R74). -/
def State.liftRestriction (id : Nat) (s : State) : State :=
  let kept := withoutId id s.route.restrictions
  s.entriesLeave (if kept.length < s.route.restrictions.length then 1 else 0) kept

/-! ## The entrance-hold set (R76) -/

/-- A station joined to an ascending set, once (R76). -/
def insertStation (n : Nat) : List Nat → List Nat
  | [] => [n]
  | x :: xs => if n < x then n :: x :: xs else if n = x then x :: xs else x :: insertStation n xs

/-- An ENTRANCE HOLD telegram: HOLD joins the station, CLEAR removes it (R76). -/
def State.holdStation (station : Nat) (hold : Bool) (s : State) : State :=
  { s with
    route := { s.route with
      holds := if hold then insertStation station s.route.holds else s.route.holds.filter fun x => x != station } }

/-! ## A new line end (R77) -/

/-- The list clamped to a new line end, entries with from not below to removed (R77). -/
def clampRestrictions (lineEnd : Nat) (l : List Restriction) : List Restriction :=
  (l.map fun r => { r with toPos := min r.toPos lineEnd }).filter fun r => r.fromPos < r.toPos

/-- The records under a new line end (R77). -/
def Route.newLineEnd (lineEnd : Nat) (r : Route) : Route :=
  let l := clampRestrictions lineEnd r.restrictions
  { r with
    authority := r.authority.map fun a => { a with endPos := min a.endPos lineEnd }
    restrictions := l
    version := if l = r.restrictions then r.version else r.version + 1 }

/-! ## Readouts (R78, R79) -/

/-- Are the records frozen: is the radio state other than RADIO_OK (R49, R78)? -/
def State.frozen (s : State) : Bool := s.radio.state != .ok

/-- READ AUTHORITY's readout (R78). -/
def State.authorityReadout (s : State) : AuthorityReadout where
  record := s.route.authority
  timeKnown := s.radio.offset.isSome
  remaining :=
    match s.route.authority, s.valleyNow with
    | some a, some v => a.expiry.map fun e => Time.since e v
    | _, _ => none
  frozen := s.frozen

/-- READ RESTRICTIONS's readout from a first index (R79). -/
def State.restrictionsReadout (first : Nat) (s : State) : RestrictionsReadout where
  version := s.route.version
  count := s.route.restrictions.length
  entries := (s.route.restrictions.drop first).take 6
  cap := s.route.cap
  holds := s.route.holds
  frozen := s.frozen

end Sys2Proof.Machine
end

