-- ==== Sys2Proof/Machine/Radio.lean ====
section
/-! DEFINITION. The operations of the Radio Framer (chapter 3): the downlink bit machine with its sync states, the
judgement of frames, settling, the radio state, valley time, telegrams and the acknowledgement ring. -/

namespace Sys2Proof.Machine

/-! ## Alerts of the framer (R44, R49, R50) -/

/-- The framer sets its four conditions to what its state gives. -/
def State.publishRadio (s : State) : State :=
  (((s.setCondition .radioDegraded (s.radio.state == .degraded)).setCondition .radioLost
    (s.radio.state == .lost)).setCondition .valleyUnheard s.radio.unheard).setCondition .carrierBlank
    (s.radio.blankCount == 3)

/-! ## The radio state (R48, R50) -/

/-- The age of the last good settled frame in ms, if any (R48). -/
def State.radioAge (s : State) : Option Nat := s.radio.lastGood.map fun l => Time.since s.clock.localMs l

/-- Has the age reached a timeout (R48)? -/
def State.ageReached (timeout : Nat) (s : State) : Bool :=
  match s.radioAge with
  | none => false
  | some a => timeout ≤ a

/-- t_lost: RADIO_OK or RADIO_DEGRADED becomes RADIO_LOST, the valley-unheard value clears (R48, R50). -/
def State.loseRadio (s : State) : State :=
  match s.radio.state with
  | .lost => s
  | _ =>
    if s.ageReached s.cfg.tLost then
      State.publishRadio { s with radio := { s.radio with state := .lost, unheard := false } }
    else s

/-- t_freeze: RADIO_OK becomes RADIO_DEGRADED (R48). -/
def State.freezeRadio (s : State) : State :=
  match s.radio.state with
  | .ok =>
    if s.ageReached s.cfg.tFreeze then State.publishRadio { s with radio := { s.radio with state := .degraded } } else s
  | _ => s

/-! ## The acknowledgement ring (R58) -/

/-- The ring with an outcome entered (R58). -/
def ringEnter (ring : List AckEntry) (e : AckEntry) : List AckEntry :=
  let r := ring.filter fun x => x.id != e.id
  (if r.length < Config.ackRing then r else r.tail) ++ [e]

/-- An outcome entered in the acknowledgement ring (R55, R58). -/
def State.acknowledgeId (id : Nat) (accepted : Bool) (s : State) : State :=
  { s with radio := { s.radio with ring := ringEnter s.radio.ring ⟨id, accepted⟩ } }

/-! ## Valley time (R52) -/

/-- Does a new offset differ from the held one by more than 500 ms, read as a signed value (R52)? -/
def isJump (held new : Time) : Bool := Config.timeJump < (new - held).toInt.natAbs

/-- A VALLEY TIME telegram: VALLEY_TIME_JUMP, the new offset, and then the expiries tested at once (R52, R64; assumption
39). -/
def State.takeValleyTime (v : Time) (s : State) : State :=
  let new := v - s.radio.captureMs - BitVec.ofNat 32 s.cfg.transit
  let s1 :=
    match s.radio.offset with
    | none => s
    | some o => if isJump o new then s.raise .valleyTimeJump else s
  State.ageRecords { s1 with radio := { s1.radio with offset := some new } }

/-! ## Telegrams (R54, R55, 10 §10.7) -/

/-- A telegram as decoded from a slot (R54). -/
inductive Telegram where
  | ignored
  | malformed (restriction : Option Nat)
  | authority (record : Authority)
  | set (record : Restriction)
  | lift (id : Nat)
  | hold (station : Nat) (hold : Bool)
  | valleyTime (v : Time)
  | notice (text : List Byte)
  deriving DecidableEq, Repr

/-- A 4-byte time, most significant byte first, from an offset. -/
def timeAt (b : List Byte) (offset : Nat) : Time := BitVec.ofNat 32 (beAt b offset 4)

/-- An AUTHORITY telegram's fields (10 §10.7). -/
def decodeAuthority (b : List Byte) : Telegram :=
  let presence := byteAt b 7
  let release := beAt b 8 2
  if 1 < (byteAt b 3).toNat ∨ 4 ≤ presence.toNat ∨ (presence.getLsbD 0 = true ∧ 1500 < release) then .malformed none
  else
    .authority
      { seq := byteAt b 2
        dir := if (byteAt b 3).toNat = 0 then .up else .down
        endPos := beAt b 4 3
        release := if presence.getLsbD 0 then some release else none
        expiry := if presence.getLsbD 1 then some (timeAt b 10) else none }

/-- A RESTRICTION SET telegram's fields (10 §10.7); a malformed one with an id in 1..255 names it (R54). -/
def decodeSet (b : List Byte) : Telegram :=
  let id := (byteAt b 2).toNat
  if id = 0 then .malformed none
  else if 2 ≤ (byteAt b 11).toNat then .malformed (some id)
  else
    .set
      { id := id
        fromPos := beAt b 3 3
        toPos := beAt b 6 3
        limit := beAt b 9 2
        expiry := if (byteAt b 11).getLsbD 0 then some (timeAt b 12) else none }

/-- An ENTRANCE HOLD telegram's fields (10 §10.7). -/
def decodeHold (b : List Byte) : Telegram :=
  let station := (byteAt b 2).toNat
  if station = 0 ∨ 63 < station ∨ 1 < (byteAt b 3).toNat then .malformed none
  else .hold station ((byteAt b 3).toNat == 1)

/-- A CREW NOTICE telegram's fields (10 §10.7). -/
def decodeNotice (b : List Byte) : Telegram :=
  let n := (byteAt b 2).toNat
  let text := slice b 3 n
  if 16 < n ∨ text.any (fun c => c.toNat < 0x20 || 0x7E < c.toNat) then .malformed none else .notice text

/-- The telegram of a slot, the car id in use given (R54). -/
def decodeSlot (carId : Nat) (b : List Byte) : Telegram :=
  let kind := (byteAt b 0).toNat
  let car := (byteAt b 1).toNat
  if kind = 0 then .ignored
  else if car ≠ 0 ∧ car ≠ carId then .ignored
  else if kind = 1 then decodeAuthority b
  else if kind = 2 then decodeSet b
  else if kind = 3 then (if (byteAt b 2).toNat = 0 then .malformed none else .lift (byteAt b 2).toNat)
  else if kind = 4 then decodeHold b
  else if kind = 5 then .valleyTime (timeAt b 2)
  else if kind = 6 then decodeNotice b
  else .malformed none

/-- A telegram delivered or discarded (R54, R55). -/
def State.deliver (m : Telegram) (s : State) : State :=
  match m with
  | .ignored => s
  | .malformed none => s
  | .malformed (some id) => s.acknowledgeId id false
  | .authority a => s.takeAuthority a
  | .set r => (s.setRestriction r).2.acknowledgeId r.id (s.setRestriction r).1
  | .lift id => (s.liftRestriction id).acknowledgeId id true
  | .hold n h => s.holdStation n h
  | .valleyTime v => s.takeValleyTime v
  | .notice text => s.post (.crewNotice text)

/-- The telegrams of a frame, slot 1 before slot 2 (R54). -/
def State.deliverFrame (f : List Byte) (s : State) : State :=
  let s1 := s.deliver (decodeSlot s.cfg.carId (slice f 5 20))
  s1.deliver (decodeSlot s1.cfg.carId (slice f 25 20))

/-- A good settled frame: the radio state refreshed, the valley-unheard flag taken, the telegrams delivered (R47). -/
def State.goodSettledFrame (f : List Byte) (s : State) : State :=
  State.deliverFrame f
    (State.publishRadio
      { s with
        radio := { s.radio with
          state := .ok
          lastGood := some s.clock.localMs
          unheard := (byteAt f 2).getLsbD 7 } })

/-! ## Alignment words and frames (R41, R42) -/

/-- Do the first 3 bytes of a run of bits hold an alignment word with a frame number of its parity? Answers the frame
number (R41, 10 §10.7). -/
def findFrame (bits : List Bool) : Option Nat :=
  let b := bytesOfBits (bits.take 24)
  let n := (byteAt b 2).toNat % 8
  let even := byteAt b 0 = 0x47#8 ∧ byteAt b 1 = 0x9C#8
  let odd := byteAt b 0 = 0xB8#8 ∧ byteAt b 1 = 0x63#8
  if even ∧ n % 2 = 0 then some n
  else if odd ∧ n % 2 = 1 then some n
  else none

/-- Is a frame's alignment word correct: the word of the expected frame number, with that frame number (R42)? -/
def wordCorrect (expected : Option Nat) (bits : List Bool) : Bool := (findFrame bits).isSome && findFrame bits == expected

/-- The expected frame number advanced by 1 modulo 8. -/
def advanceNumber (n : Option Nat) : Option Nat := n.map fun k => (k + 1) % 8

/-- Does a frame pass its CRC check (R40)? -/
def frameCrcOk (f : List Byte) : Bool := (crc16 (slice f 2 43)).toNat == beAt f 45 2

/-- Does a frame carry the line id in use? None does while no bank is active (R59, assumption 25). -/
def State.frameLineOk (f : List Byte) (s : State) : Bool := s.lineId != 0 && beAt f 3 2 == s.lineId

/-! ## The sync states (R41, R42, R43, R44) -/

/-- A find: CONFIRM, with frame number `n` current; leaving HUNT sets the blank span count to 0 (R41, R44). -/
def State.enterConfirm (n : Nat) (s : State) : State :=
  State.publishRadio
    { s with
      radio := { s.radio with sync := .confirm, expected := some ((n + 1) % 8), confirmCount := 0, blankCount := 0 } }

/-- The search moved on by one bit (R41). -/
def Radio.advanceSearch (r : Radio) : Radio := { r with bits := r.bits.tail, searchPoint := r.searchPoint + 1 }

/-- A return to HUNT from CONFIRM or LOCKED: hunt restarts rises, the search resumes one bit on, and a first span begins
with the next bit received (R42, R43, R44). -/
def Radio.enterHunt (r : Radio) : Radio :=
  { r.advanceSearch with
    sync := .hunt
    expected := none
    confirmCount := 0
    settling := 0
    settled := false
    spanBits := 0
    spanZeros := 0
    blankCount := 0
    huntRestarts := min (r.huntRestarts + 1) 255 }

/-- The frame position moved past `n` bits. -/
def Radio.dropBits (n : Nat) (r : Radio) : Radio :=
  { r with bits := r.bits.drop n, searchPoint := r.searchPoint + n }

/-- Entry to LOCKED after the frame of the find and two correct frames (R43). -/
def Radio.enterLocked (r : Radio) : Radio :=
  { r.dropBits 1152 with sync := .locked, history := [], settling := 0, settled := false, confirmCount := 0 }

/-- The judgement of the next frame in CONFIRM (R42). -/
def State.judgeConfirm (s : State) : State :=
  let r := s.radio
  let next := { r with expected := advanceNumber r.expected }
  if wordCorrect r.expected (r.bits.drop (Config.frameBits * (r.confirmCount + 1))) then
    if r.confirmCount = 0 then { s with radio := { next with confirmCount := 1 } }
    else { s with radio := next.enterLocked }
  else { s with radio := { r with alignErrors := min (r.alignErrors + 1) 65535 }.enterHunt }

/-- The history with a judgement added, its newest W_sync entries kept (R43). -/
def historyAdd (wSync : Nat) (h : List Bool) (correct : Bool) : List Bool :=
  let h' := h ++ [correct]
  h'.drop (h'.length - wSync)

/-- The number of wrong words in a history. -/
def wrongCount (h : List Bool) : Nat := (h.filter fun c => !c).length

/-- A settling frame judged clean or not (R46). -/
def Radio.settle (good : Bool) (r : Radio) : Radio :=
  if r.settled then r
  else if good then { r with settling := r.settling + 1, settled := decide (8 ≤ r.settling + 1) }
  else { r with settling := 0 }

/-- The disposition of a LOCKED frame with a correct word (R45, R46, R47). -/
def State.judgeContents (f : List Byte) (s : State) : State :=
  let r := s.radio
  if !frameCrcOk f then
    { s with radio := { r with crcErrors := min (r.crcErrors + 1) 65535 }.settle false }
  else if !s.frameLineOk f then { s with radio := r.settle false }
  else
    let s1 := { s with radio := { r with goodFrames := min (r.goodFrames + 1) 4294967295 }.settle true }
    if r.settled then s1.goodSettledFrame f else s1

/-- The judgement of a whole frame in LOCKED (R43, R45, R46, R47): the disposition of its contents, then the test for loss
of sync. Any judgement after which the history holds at least M wrong entries loses sync, that of a correct word too,
after a CONFIGURE that lowers M; the search then begins one bit into the frame (R41, R43; assumption 51). -/
def State.judgeLocked (s : State) : State :=
  let r := s.radio
  let correct := wordCorrect r.expected r.bits
  let history := historyAdd s.cfg.wSync r.history correct
  let next := { r with history := history, expected := advanceNumber r.expected }
  let judged :=
    if correct then State.judgeContents (bytesOfBits (r.bits.take Config.frameBits)) { s with radio := next }
    else { s with radio := { next with alignErrors := min (next.alignErrors + 1) 65535 }.settle false }
  if s.cfg.m ≤ wrongCount history then { judged with radio := judged.radio.enterHunt }
  else { judged with radio := judged.radio.dropBits Config.frameBits }

/-- The framer run over the bits it keeps until it needs a new one: the search in HUNT, the frames in CONFIRM and
LOCKED (R41, R42, R43). `n` bounds the acts. -/
def State.runFramer : Nat → State → State
  | 0, s => s
  | n + 1, s =>
    match s.radio.sync with
    | .hunt =>
      if s.radio.bits.length < 24 then s
      else
        match findFrame s.radio.bits with
        | some k => State.runFramer n (s.enterConfirm k)
        | none => State.runFramer n { s with radio := s.radio.advanceSearch }
    | .confirm =>
      if s.radio.bits.length < Config.frameBits * (s.radio.confirmCount + 2) then s
      else State.runFramer n s.judgeConfirm
    | .locked =>
      if s.radio.bits.length < Config.frameBits then s else State.runFramer n s.judgeLocked

/-- The blank span count at the end of a span with `zeros` zero bits (R44). -/
def blankAfter (count zeros : Nat) : Nat := if zeros ≤ 3 then min (count + 1) 3 else 0

/-- A bit of the span in progress, in HUNT (R44). -/
def State.countSpan (b : Bool) (s : State) : State :=
  let r := s.radio
  let zeros := r.spanZeros + bit (!b)
  match r.sync with
  | .hunt =>
    if r.spanBits + 1 < Config.frameBits then
      { s with radio := { r with spanBits := r.spanBits + 1, spanZeros := zeros } }
    else
      State.publishRadio
        { s with radio := { r with spanBits := 0, spanZeros := 0, blankCount := blankAfter r.blankCount zeros } }
  | _ => s

/-- One downlink bit received (R39, R41, R44): the span first (assumption 28), then the bit joins the kept bits. The
last bit of an alignment word in LOCKED gives the capture time, `capture` in local ms. -/
def State.receiveBit (capture : Time) (b : Bool) (s : State) : State :=
  let s1 := s.countSpan b
  let bits := s1.radio.bits ++ [b]
  let s2 := { s1 with
    radio := { s1.radio with
      bits := bits
      captureMs := if s1.radio.sync = Sync.locked ∧ bits.length = 16 then capture else s1.radio.captureMs } }
  s2.runFramer (4 * bits.length + 4)

/-- A run of downlink bits received, in order. -/
def State.receiveBits (capture : Time) (bits : List Bool) (s : State) : State :=
  bits.foldl (fun s b => s.receiveBit capture b) s

/-! ## CONFIGURE and CLEAR RADIO COUNTERS (R45, R48) -/

/-- The radio state judged at once against changed timeouts (R48). -/
def State.rejudgeRadio (s : State) : State := s.loseRadio.freezeRadio

/-- CLEAR RADIO COUNTERS (R45). -/
def Radio.clearCounters (r : Radio) : Radio :=
  { r with goodFrames := 0, crcErrors := 0, alignErrors := 0, huntRestarts := 0 }

/-- UPLINK NOTE (R57). -/
def Radio.addNote (text : List Byte) (r : Radio) : Result × Radio :=
  if text.isEmpty || 24 < text.length || text.any (fun c => (noteCode c).isNone) then (.badField 1, r)
  else if Config.noteQueue ≤ r.notes.length then (.full, r)
  else (.done .nothing, { r with notes := r.notes ++ [text] })

/-! ## READ RADIO (R61) -/

/-- READ RADIO's readout (R61). -/
def State.radioReadout (s : State) : RadioReadout where
  sync := s.radio.sync
  expected := match s.radio.sync with
    | .hunt => none
    | _ => s.radio.expected
  confirmCount := match s.radio.sync with
    | .confirm => some s.radio.confirmCount
    | _ => none
  settling := match s.radio.sync with
    | .locked => some (s.radio.settling, s.radio.settled)
    | _ => none
  history := s.radio.history
  wrong := wrongCount s.radio.history
  blankCount := s.radio.blankCount
  carrierBlank := s.radio.blankCount == 3
  goodFrames := s.radio.goodFrames
  crcErrors := s.radio.crcErrors
  alignErrors := s.radio.alignErrors
  huntRestarts := s.radio.huntRestarts
  state := s.radio.state
  age := s.radioAge
  unheard := s.radio.unheard
  valley := match s.radio.offset, s.valleyNow with
    | some o, some v => some (o, v)
    | _, _ => none
  lineId := s.lineId
  carId := s.cfg.carId
  notes := s.radio.notes.length
  ring := s.radio.ring
  ringCount := s.radio.ring.length

end Sys2Proof.Machine
end

