-- ==== Sys2Proof/Machine/Odometry.lean ====
section
/-! DEFINITION. The operations of the Odometry Unit (chapter 1): increments, the position record, uncertainty and
localisation, marker capture and matching, the agreement span, the engagement check and the pass's speed estimate. -/

namespace Sys2Proof.Machine

/-! ## Directions and signed lengths -/

/-- The direction opposite. -/
def Dir.opposite : Dir → Dir
  | .up => .down
  | .down => .up

/-- +n uphill, −n downhill. -/
def Dir.signed (d : Dir) (n : Nat) : Int :=
  match d with
  | .up => (n : Int)
  | .down => -(n : Int)

/-- The direction of an increment: its raw direction multiplied by the orientation sign; none for an edge at which both
phases have changed (R1). -/
def edgeDir (e : Edge) (negative : Bool) : Option Dir :=
  match e with
  | .bothPhases => none
  | .forward => some (if negative then .down else .up)
  | .backward => some (if negative then .up else .down)

/-! ## Rings (R3) -/

/-- A ring with one more entry; at 64 entries the oldest goes (R3). -/
def ringPush (ring : List RingEntry) (e : RingEntry) : List RingEntry :=
  (if ring.length < Config.ringSize then ring else ring.tail) ++ [e]

/-- A ring with every entry marked stale whose age at `t` is 2,000,000 µs or more (R3). -/
def ringMark (t : Time) (ring : List RingEntry) : List RingEntry :=
  ring.map fun e => if Config.staleAge ≤ Time.since t e.time then { e with stale := true } else e

/-- Both rings marked at `t` (R3). -/
def Odometry.markStale (t : Time) (o : Odometry) : Odometry :=
  { o with pinRing := ringMark t o.pinRing, whlRing := ringMark t o.whlRing }

/-- The newest entry that is not stale (R4). -/
def newestFresh (ring : List RingEntry) : Option RingEntry := (ring.filter fun e => !e.stale).getLast?

/-! ## Alerts of the unit -/

/-- ENGAGEMENT_UNPROVEN's state: UNPROVEN, or ARMED with an UNPROVEN index kept (R20, R23). -/
def Engagement.isUnproven : Engagement → Bool
  | .idle => false
  | .armed _ _ _ kept => kept.isSome
  | .unproven _ => true

/-- POSITION_DEGRADED's state: DEGRADED, or the loss flag set (R11). -/
def Odometry.isDegraded (o : Odometry) : Bool := o.localisation == .degraded || o.lossFlag

/-- The unit sets its three conditions to what its state gives (R11, R18, R20, R23). -/
def State.publishOdometry (s : State) : State :=
  let o := s.odo
  ((s.setCondition .positionDegraded o.isDegraded).setCondition .odometryDisagree o.disagree).setCondition
    .engagementUnproven o.engagement.isUnproven

/-! ## Localisation (R11) -/

/-- The tests of R11: a LOCALISED record whose u is at least u_max, or whose missed count is 2 or more, degrades. -/
def Odometry.degrade (uMax : Nat) (o : Odometry) : Odometry :=
  if o.localisation = .localised ∧ (uMax ≤ o.uncertainty ∨ 2 ≤ o.missed) then { o with localisation := .degraded } else o

/-- The missed-marker test of R11 alone: a LOCALISED record whose missed count is 2 or more degrades. -/
def Odometry.degradeMissed (o : Odometry) : Odometry :=
  if o.localisation = .localised ∧ 2 ≤ o.missed then { o with localisation := .degraded } else o

/-- The tests of R11 after an event that changed u. -/
def State.degrade (s : State) : State :=
  State.publishOdometry { s with odo := s.odo.degrade s.cfg.uMax }

/-- Localisation after SET POSITION or an accepted marker (R11). -/
def localisedBy (uMax u : Nat) : Localisation := if u < uMax then .localised else .degraded

/-! ## Position (R8) -/

/-- The record with its position clamped to a limit: one that was not UNLOCALISED is lost (R8). -/
def Odometry.clampTo (limit : Nat) (o : Odometry) : Odometry :=
  let o' := { o with position := limit, remainder := 0 }
  match o.localisation with
  | .unlocalised => o'
  | _ => { o' with localisation := .unlocalised, uncertainty := Config.maxUncertainty, lossFlag := true }

/-- The record moved to a place in µm, clamped to [0, line end] (R8). -/
def Odometry.placeAt (lineEnd : Nat) (um : Int) (o : Odometry) : Odometry :=
  if um < 0 then o.clampTo 0
  else if (lineEnd : Int) * 1000 < um then o.clampTo lineEnd
  else { o with position := um.toNat / 1000, remainder := um.toNat % 1000 }

/-- The position in µm (R8). -/
def Odometry.placeUm (o : Odometry) : Int := ((o.position * 1000 + o.remainder : Nat) : Int)

/-! ## Distances and uncertainty (R6, R8, R10) -/

/-- Movement since standstill with `um` added; it stops at the limits ±65,535 mm (R6). -/
def movementAdd (m um : Int) : Int := max (-65535000) (min 65535000 (m + um))

/-- Distance since the last accepted marker grown by `um` through its remainder, saturating (R8). -/
def Odometry.growDistance (um : Nat) (o : Odometry) : Odometry :=
  { o with
    distance := min (o.distance + (o.distanceRem + um) / 1000) Config.maxDistance
    distanceRem := (o.distanceRem + um) % 1000 }

/-- The uncertainty grown by `g` µm: first from the credit, else by whole mm rounded up, saturating (R10). -/
def Odometry.growUncertainty (g : Nat) (o : Odometry) : Odometry :=
  if g ≤ o.credit then { o with credit := o.credit - g }
  else
    let k := ceilDiv (g - o.credit) 1000
    { o with
      uncertainty := min (o.uncertainty + k) Config.maxUncertainty
      credit := k * 1000 - (g - o.credit) }

/-! ## The engagement check (R19, R20) -/

/-- The state an ARMED check held before arming (R19). -/
def Engagement.before : Engagement → Engagement
  | .armed _ _ _ none => .idle
  | .armed _ _ _ (some k) => .unproven k
  | e => e

/-- The UNPROVEN index a check keeps (R19). -/
def Engagement.kept : Engagement → Option Nat
  | .idle => none
  | .armed _ _ _ k => k
  | .unproven k => some k

/-- ENGAGEMENT_UNPROVEN cleared by an accepted marker or a swap: the UNPROVEN index is dropped (R20). -/
def Engagement.drop : Engagement → Engagement
  | .armed i p w _ => .armed i p w none
  | _ => .idle

/-- An ARMED check with a distance added to the accumulator of a counter (R19). -/
def Engagement.add (c : Counter) (um : Int) : Engagement → Engagement
  | .armed i p w k =>
    match c with
    | .pinion => .armed i (p + um) w k
    | .wheel => .armed i p (w + um) k
  | e => e

/-- An ARMED check with both accumulators 0 (R19). -/
def Engagement.zero : Engagement → Engagement
  | .armed i _ _ k => .armed i 0 0 k
  | e => e

/-- The outcome of a decided check (R20): proven, failed or unproven. -/
inductive EngagementOutcome where
  | proven
  | failed
  | unproven
  deriving DecidableEq, Repr

/-- The decision of the check over a segment `len` mm long (R20). -/
def engagementOutcome (len tol : Nat) (pin whl : Int) : EngagementOutcome :=
  if 2 * whl < (len : Int) * 1000 then .unproven
  else if (pin - whl).natAbs ≤ tol * 1000 ∧ whl ≤ 2 * pin then .proven
  else .failed

/-- The check decided at the end of its armed segment `v` (R20). -/
def State.decideEngagement (v : SegView) (pin whl : Int) (s : State) : State :=
  match engagementOutcome (v.stop - v.start) s.cfg.engageTol pin whl with
  | .proven => { s with odo := { s.odo with engagement := .idle } }
  | .unproven => { s with odo := { s.odo with engagement := .unproven v.index } }
  | .failed =>
    { s with
      odo := { s.odo with engagement := s.odo.engagement.before }
      sup := { s.sup with engagementFailure := true } }

/-- The check armed for a segment (R19). -/
def State.armEngagement (v : SegView) (s : State) : State :=
  { s with odo := { s.odo with engagement := .armed v.index 0 0 s.odo.engagement.kept } }

/-- One uphill crossing of the pinion point out of `w` into `v` (R19, R20). -/
def State.crossUp (w v : SegView) (s : State) : State :=
  match s.odo.engagement with
  | .armed i pin whl _ =>
    match v.seg.kind with
    | .rack => if i = w.index then s.decideEngagement w pin whl else s
    | .rackEntry => s.armEngagement v
    | .adhesion => { s with odo := { s.odo with engagement := s.odo.engagement.before } }
  | _ =>
    match v.seg.kind with
    | .rackEntry => s.armEngagement v
    | _ => s

/-- One downhill crossing of the pinion point out of `w` across its start (R19). -/
def State.crossDown (w : SegView) (s : State) : State :=
  match s.odo.engagement with
  | .armed i _ _ _ =>
    if i = w.index then { s with odo := { s.odo with engagement := s.odo.engagement.before } } else s
  | _ => s

/-- The crossings along a run of segments taken uphill, each out of one into the next; ENGAGEMENT_UNPROVEN follows each
crossing by itself (R2, R170). -/
def State.crossAllUp : List SegView → State → State
  | w :: v :: rest, s => State.crossAllUp (v :: rest) (s.crossUp w v).publishOdometry
  | _, s => s

/-- The crossings along a run of segments taken downhill, ENGAGEMENT_UNPROVEN after each (R2, R170). -/
def State.crossAllDown : List SegView → State → State
  | w :: v :: rest, s => State.crossAllDown (v :: rest) (s.crossDown w).publishOdometry
  | _, s => s

/-- The segments from one to another in the direction of an increment, both included. -/
def segmentsBetween (d : Dir) (a b : Nat) (vs : List SegView) : List SegView :=
  match d with
  | .up => vs.filter fun v => a ≤ v.index && v.index ≤ b
  | .down => (vs.filter fun v => b ≤ v.index && v.index ≤ a).reverse

/-! ## The agreement span (R18) -/

/-- The agreement span with a counted increment added (R18). -/
def Span.add (c : Counter) (um : Int) (len : Nat) (p : Span) : Span :=
  match c with
  | .pinion => { p with pin := p.pin + um, travel := p.travel + len }
  | .wheel => { p with whl := p.whl + um }

/-- A new span. -/
def Span.zero : Span := ⟨0, 0, 0⟩

/-- The agreement span runs on RACK segments of a localised record (R18). -/
def State.spanRuns (s : State) : Bool :=
  match s.pinionSegment with
  | some v => v.seg.kind == .rack
  | none => false

/-- The comparison at the end of a span (R18): a difference above agree_tol sets ODOMETRY_DISAGREE, then raises u, with
R11 then applied. -/
def State.compareSpan (s : State) : State :=
  let p := s.odo.span
  let diff := ceilDiv (p.pin - p.whl).natAbs 1000
  if s.cfg.agreeTol < diff then
    State.degrade
      (State.setCondition .odometryDisagree true
        { s with
          odo := { s.odo with
            disagree := true
            uncertainty := min (s.odo.uncertainty + diff) Config.maxUncertainty
            span := Span.zero } })
  else State.publishOdometry { s with odo := { s.odo with disagree := false, span := Span.zero } }

/-- A span whose reference travel has reached 10,000,000 µm is complete (R18). -/
def State.spanComplete (s : State) : Bool := decide (Config.agreementTravel ≤ s.odo.span.travel)

/-- A partial span discarded (R18). -/
def State.dropSpan (s : State) : State := { s with odo := { s.odo with span := Span.zero } }

/-! ## Missed markers (R14) -/

/-- Has the reader point gone beyond a marker's window and u? (R14) -/
def markerBeyond (d : Dir) (reader : Int) (u : Nat) (m : Marker) : Bool :=
  match d with
  | .up => reader > (m.position : Int) + m.window + u
  | .down => reader < (m.position : Int) - m.window - u

/-- A marker made missed (R14). Of R11's tests the missed-marker test follows it: u is as it was, its test was made when
it last changed, and a u_max that a CONFIGURE has set since applies from the next change of u (R11, R190; assumption
43). -/
def State.missMarker (m : Marker) (s : State) : State :=
  let s1 := State.raise .markerMissed
    { s with odo := { s.odo with missed := min (s.odo.missed + 1) 255, lastPassed := some m.id } }
  State.publishOdometry { s1 with odo := s1.odo.degradeMissed }

/-- The missed test of a marker in a direction (R14). -/
def State.missedTest (d : Dir) (m : Option Marker) (s : State) : State :=
  match m with
  | none => s
  | some m => if markerBeyond d s.readerPoint s.odo.uncertainty m then s.missMarker m else s

/-- A capture with the missed test of the marker expected at a reference increment waiting for it, each test once (R14). -/
def Capture.await (d : Dir) (m : Option Marker) (c : Capture) : Capture :=
  match m with
  | none => c
  | some m => if c.waiting.contains ⟨d, m⟩ then c else { c with waiting := c.waiting ++ [⟨d, m⟩] }

/-- The missed tests that waited for a capture, made once it is resolved, the oldest first; the last passed marker, which
a resolution by acceptance has just made that of the capture, is excluded (R14; assumption 16). -/
def State.waitingTests (c : Capture) (s : State) : State :=
  (c.waiting.filter fun w => s.odo.lastPassed != some w.marker.id).foldl
    (fun s w => s.missedTest w.dir (some w.marker)) s

/-! ## Increments (R1, R2, R8, R10) -/

/-- A counted increment on its counter and ring (R1, R3). -/
def Odometry.count (c : Counter) (d : Dir) (t : Time) (o : Odometry) : Odometry :=
  let step : BitVec 32 := match d with | .up => 1 | .down => -1
  match c with
  | .pinion => { o with pinCount := o.pinCount + step, pinRing := ringPush o.pinRing ⟨t, d, false⟩ }
  | .wheel => { o with whlCount := o.whlCount + step, whlRing := ringPush o.whlRing ⟨t, d, false⟩ }

/-- An edge that carries no direction (R1). -/
def Odometry.phaseError (c : Counter) (o : Odometry) : Odometry :=
  match c with
  | .pinion => { o with pinErrors := min (o.pinErrors + 1) 65535 }
  | .wheel => { o with whlErrors := min (o.whlErrors + 1) 65535 }

/-- Is the increment a reversal: its direction differs from the reference increment before it (R14, R19)? -/
def Odometry.isReversal (d : Dir) (o : Odometry) : Bool := o.lastRefDir == some d.opposite

/-- The record moved by a reference increment while a bank is active (R8). -/
def State.moveReference (d : Dir) (len : Nat) (s : State) : State :=
  match s.lineEnd with
  | none => s
  | some e => { s with odo := s.odo.placeAt e (s.odo.placeUm + d.signed len) }

/-- The effects of the pinion point's move from segment `before` (R2, R18, R19): the crossings of the boundaries between,
or, when the record has become UNLOCALISED, the return of an ARMED check; a span that left RACK is discarded. -/
def State.afterMove (d : Dir) (before : Option SegView) (s : State) : State :=
  match before, s.pinionSegment with
  | some w, some v =>
    if w.index = v.index then s
    else
      let run := segmentsBetween d w.index v.index s.views
      let s' := match d with
        | .up => State.crossAllUp run s
        | .down => State.crossAllDown run s
      if run.all fun x => x.seg.kind == .rack then s' else s'.dropSpan
  | _, none => State.dropSpan { s with odo := { s.odo with engagement := s.odo.engagement.before } }
  | _, _ => s

/-- The uncertainty grown by a reference increment, with R11 applied when u changed (R10). -/
def State.growReference (len rate : Nat) (s : State) : State :=
  let o := s.odo.growUncertainty (ceilDiv (len * rate) 1000)
  if o.uncertainty = s.odo.uncertainty then { s with odo := o } else State.degrade { s with odo := o }

/-- What a counted increment of the reference counter does beside the counting: movement since standstill, distance
since the last accepted marker, the last passed marker at a reversal, the position, u, the checks and the marker state
(R1, R6, R8, R10, R14, R18, R19, R20). `before` is the segment at the pinion point before it. A span that this increment
completes is compared before the span is discarded, also when its clamp makes the record UNLOCALISED (assumption 30).
The missed test is of the marker expected before the move, so a marker that a CONFIGURE's new reader point has left
behind is no longer expected and is never missed (R198; assumptions 16 and 50); while a capture pends it waits (R14). Its
reports come after those of the span and the check (assumption 39). -/
def State.moveBy (c : Counter) (d : Dir) (before : Option SegView) (s : State) : State :=
  let len := incrementOf s.cfg c
  let o := s.odo
  let s1 := { s with
    odo := { o.growDistance len with
      movementUm := movementAdd o.movementUm (d.signed len)
      lastPassed := if o.isReversal d then none else o.lastPassed
      lastRefDir := some d } }
  let expected := s1.expectedToward d
  let s2 := (s1.moveReference d len).publishOdometry.growReference len (rateOf s.cfg c)
  let s3 := if s2.spanComplete then s2.compareSpan else s2
  let s4 := (s3.afterMove d before).publishOdometry
  match s4.odo.capture with
  | some k => { s4 with odo := { s4.odo with capture := some (k.await d expected) } }
  | none => s4.missedTest d expected

/-- A counted increment (R1): counter, ring and the running accumulators; of the reference counter, the move as well. -/
def State.countIncrement (c : Counter) (d : Dir) (s : State) : State :=
  let len := incrementOf s.cfg c
  let before := s.pinionSegment
  let ref := s.reference
  let o := s.odo.count c d s.clock.now
  let o1 := if s.spanRuns then { o with span := o.span.add c (d.signed len) len } else o
  let e := if ref = c && s.odo.isReversal d then o1.engagement.zero else o1.engagement
  let s1 := { s with odo := { o1 with engagement := e.add c (d.signed len) } }
  if ref = c then s1.moveBy c d before else s1

/-- One edge of a quadrature input (R1). -/
def State.increment (c : Counter) (e : Edge) (s : State) : State :=
  match edgeDir e (signNegative (signOf s.cfg c)) with
  | none => { s with odo := s.odo.phaseError c }
  | some d => s.countIncrement c d

/-! ## Marker capture and matching (R13, R15, R16, R17) -/

/-- The log with one more entry; at 8 entries the oldest goes (R17). -/
def logPush (log : List LogEntry) (e : LogEntry) : List LogEntry :=
  (if log.length < Config.logSize then log else log.tail) ++ [e]

/-- A rejected edge: MARKER_UNEXPECTED and a log entry with marker id 0 (R16). -/
def State.rejectEdge (edge : Time) (s : State) : State :=
  State.raise .markerUnexpected
    { s with odo := { s.odo with log := logPush s.odo.log ⟨edge, 0, s.odo.position, s.odo.position, false⟩ } }

/-- The travel interpolated since the last increment (R13). -/
def interpolated (len : Nat) (t : Time) (newest before : Option RingEntry) : Nat :=
  match newest, before with
  | some n, some b =>
    if n.stale || b.stale then 0
    else if n.time = b.time then len
    else min len (len * Time.since t n.time / Time.since n.time b.time)
  | _, _ => 0

/-- The entry before the newest of a ring. -/
def secondNewest (ring : List RingEntry) : Option RingEntry := ring.dropLast.getLast?

/-- The capture taken at an edge (R13). -/
def State.takeCapture (t : Time) (s : State) : Capture where
  edgeTime := t
  count := match s.reference with
    | .pinion => s.odo.pinCount
    | .wheel => s.odo.whlCount
  edgeUm := s.odo.position * 1000 + s.odo.remainder
  uncertainty := s.odo.uncertainty
  newest := s.referenceRing.getLast?
  before := secondNewest s.referenceRing
  dir := s.markerDir
  travel := interpolated (incrementOf s.cfg s.reference) t s.referenceRing.getLast? (secondNewest s.referenceRing)
  expected := s.expectedMarker
  waiting := []

/-- A marker detector edge (R13, R16). With the record UNLOCALISED it is ignored, also while a capture still pends
(assumption 42). -/
def State.markerEdge (s : State) : State :=
  match s.line.active, s.odo.localisation, s.odo.capture with
  | none, _, _ => s
  | some _, .unlocalised, _ => s
  | some _, _, some _ => s.rejectEdge s.clock.now
  | some _, _, none => { s with odo := { s.odo with capture := some (s.takeCapture s.clock.now) } }

/-- The place of the car's uphill end at the edge, interpolated, in µm (R13). -/
def Capture.placeUm (c : Capture) : Int := (c.edgeUm : Int) + c.dir.signed c.travel

/-- Does a marker match a capture (R15)? -/
def Capture.matchesMarker (readerOffset : Nat) (c : Capture) (m : Marker) : Bool :=
  (c.placeUm - (readerOffset : Int) * 1000 - (m.position : Int) * 1000).natAbs ≤ (m.window + c.uncertainty) * 1000

/-- The correction in µm of an accepted marker (R15). -/
def Capture.correction (readerOffset : Nat) (c : Capture) (m : Marker) : Int :=
  ((m.position : Int) + readerOffset) * 1000 - c.placeUm

/-- A move of the pinion point other than by an increment: an ARMED check returns when it is now in another segment or
the record has become UNLOCALISED, and a span that is no longer on RACK is discarded (R18, R19). -/
def State.afterPlacement (s : State) : State :=
  let stays := match s.odo.engagement, s.pinionSegment with
    | .armed i _ _ _, some v => i == v.index
    | _, _ => false
  let s1 := if stays then s else { s with odo := { s.odo with engagement := s.odo.engagement.before } }
  if s1.spanRuns then s1 else s1.dropSpan

/-- The record after an accepted marker at line end `e` (R15 steps 1 to 4; a clamp wins, assumption 15). -/
def Odometry.acceptMarker (e accuracy uMax : Nat) (correction : Int) (m : Marker) (o : Odometry) : Odometry :=
  let o1 := o.placeAt e (o.placeUm + correction)
  let o2 := { o1 with
    credit := 0, missed := 0, lastAccepted := some m.id, lastPassed := some m.id, distance := 0, distanceRem := 0 }
  match o1.localisation with
  | .unlocalised => o2
  | _ => { o2 with uncertainty := accuracy, localisation := localisedBy uMax accuracy, lossFlag := false }

/-- An accepted edge (R15); after its report the missed tests that waited are made at the corrected position (R14). -/
def State.acceptEdge (e : Nat) (c : Capture) (m : Marker) (s : State) : State :=
  let δ := c.correction s.cfg.readerOffset m
  let before := s.odo.position
  let s1 := State.afterPlacement
    { s with odo := s.odo.acceptMarker e s.cfg.markerAccuracy s.cfg.uMax δ m }
  let s2 := State.publishOdometry
    { s1 with odo := { s1.odo with
        engagement := s1.odo.engagement.drop
        log := logPush s1.odo.log ⟨c.edgeTime, m.id, before, s1.odo.position, true⟩ } }
  (s2.post (.marker m.id (δ.tdiv 1000))).waitingTests c

/-- A capture whose edge is rejected at match completion; then the missed tests that waited are made at the position as it
is (R14, R16; assumption 16). -/
def State.rejectCapture (c : Capture) (s : State) : State := (s.rejectEdge c.edgeTime).waitingTests c

/-- The match completion of the pending capture, if any (R15, R16). -/
def State.completeMatch (s : State) : State :=
  match s.odo.capture with
  | none => s
  | some c =>
    let s1 := { s with odo := { s.odo with capture := none } }
    match s.odo.localisation, s.lineEnd with
    | .unlocalised, _ => s1
    | _, none => s1
    | _, some e =>
      match c.expected with
      | none => s1.rejectCapture c
      | some m => if c.matchesMarker s.cfg.readerOffset m then s1.acceptEdge e c m else s1.rejectCapture c

/-! ## The pass: speed, standstill, direction (R3, R4, R5, R6) -/

/-- The non-stale entries of a ring whose age at `t` is below `w` ms (R4 step 1). -/
def windowOf (t : Time) (w : Nat) (ring : List RingEntry) : List RingEntry :=
  ring.filter fun e => !e.stale && Time.since t e.time < w * 1000

/-- The greatest age of a list of entries. -/
def oldestAge (t : Time) (es : List RingEntry) : Nat := es.foldl (fun a e => max a (Time.since t e.time)) 0

/-- The least age of a list of entries, at most the greatest. -/
def newestAge (t : Time) (es : List RingEntry) : Nat :=
  es.foldl (fun a e => min a (Time.since t e.time)) (oldestAge t es)

/-- The verdict of R4 step 3: fewer than two entries in the window, and no non-stale entry younger than t_still. -/
def standsStill (t : Time) (c : ConfigRecord) (ring : List RingEntry) : Bool :=
  (windowOf t c.window ring).length < 2 &&
    match newestFresh ring with
    | none => true
    | some e => c.tStill * 1000 ≤ Time.since t e.time

/-- The speed estimate at `t` (R4), from the previous one. -/
def speedEstimate (t : Time) (c : ConfigRecord) (len previous : Nat) (ring : List RingEntry) : Nat :=
  let es := windowOf t c.window ring
  if 2 ≤ es.length then
    let span := oldestAge t es - newestAge t es
    if span = 0 then Config.maxSpeed else min (ceilDiv ((es.length - 1) * len * 1000) span) Config.maxSpeed
  else if standsStill t c ring then 0
  else
    match newestFresh ring with
    | none => 0
    | some e =>
      if Time.since t e.time = 0 then previous
      else min (min previous (ceilDiv (len * 1000) (Time.since t e.time))) Config.maxSpeed

/-- The direction of travel (R5). -/
def travelDir (still : Bool) (sel : Selector) (ring : List RingEntry) : Dir :=
  if still then
    match sel with
    | .up => .up
    | .down => .down
    | .neutral =>
      match ring.getLast? with
      | some e => e.dir
      | none => .up
  else
    match newestFresh ring with
    | some e => e.dir
    | none => .up

/-- What the unit forms at a pass at `t`: stale marks, speed, standstill, direction, and movement since standstill set
to 0 when standstill becomes true (R3, R4, R5, R6). -/
def State.odometryPass (s : State) : State :=
  let t := s.clock.now
  let o := s.odo.markStale t
  let ring := o.ring s.reference
  let still := standsStill t s.cfg ring
  { s with
    odo := { o with
      speed := speedEstimate t s.cfg (incrementOf s.cfg s.reference) s.odo.speed ring
      standstill := still
      direction := travelDir still s.sup.drive.selector ring
      movementUm := if still && !s.odo.standstill then 0 else s.odo.movementUm } }

/-- Standstill declared at the age t_still (R4 step 3, R5, R6; assumption 5). -/
def State.declareStandstill (s : State) : State :=
  if standsStill s.clock.now s.cfg s.referenceRing && !s.odo.standstill then
    { s with
      odo := { s.odo with
        speed := 0
        standstill := true
        direction := travelDir true s.sup.drive.selector s.referenceRing
        movementUm := 0 } }
  else s

/-! ## SET POSITION and SWAP BANK (R9, R21) -/

/-- The accepted SET POSITION (R21). -/
def State.placeCar (position u : Nat) (s : State) : State :=
  let u' := max u s.cfg.markerAccuracy
  State.publishOdometry
    (State.afterPlacement
      { s with
        odo := { s.odo with
          position := position
          remainder := 0
          uncertainty := u'
          credit := 0
          missed := 0
          lastPassed := none
          lastAccepted := none
          distance := 0
          distanceRem := 0
          capture := none
          span := Span.zero
          localisation := localisedBy s.cfg.uMax u'
          lossFlag := false } })

/-- What a taken SWAP BANK does to the unit, the new bank being active already (R9): with another line, or the first
line, the record becomes UNLOCALISED at 0; with the same line it is kept, clamped to the new line end. -/
def Odometry.swapped (sameLine : Bool) (lineEnd : Nat) (o : Odometry) : Odometry :=
  let o1 := { o with capture := none, engagement := .idle, span := Span.zero, lastPassed := none }
  if sameLine then (if lineEnd < o1.position then o1.clampTo lineEnd else o1)
  else
    { o1 with
      localisation := .unlocalised
      position := 0
      remainder := 0
      uncertainty := Config.maxUncertainty
      lastAccepted := none
      distance := 0
      distanceRem := 0
      missed := 0
      lossFlag := false }

end Sys2Proof.Machine
end

