-- ==== Sys2Proof/Machine/Arithmetic.lean ====
section
/-! DEFINITION. The arithmetic of a supervision pass (chapter 5): downhill pull, net retardation, gradient ceilings, the
ceiling at the car, the look-ahead list, permitted speeds and the faults that a pass collects. -/

namespace Sys2Proof.Machine

/-! ## Stages 1 and 2: pull and net retardation (R83, R84) -/

/-- The downhill pull of a segment in a direction of travel; 500 when UNSURVEYED (R83). -/
def pullDown (d : Dir) (g : Segment) : Int :=
  match g.pull with
  | none => 500
  | some p =>
    match d with
    | .up => -p
    | .down => p

/-- The gravity term of a downhill pull, rounded up (R83). -/
def gravityTerm (pDown : Int) : Nat := ceilDiv (Config.gravity * pDown.toNat) 1000

/-- The net service retardation (R84). -/
def netService (c : ConfigRecord) (pDown : Int) : Int := (c.rSv : Int) - gravityTerm pDown

/-- The net emergency retardation (R84). -/
def netEmergency (c : ConfigRecord) (pDown : Int) : Int := (c.rEm : Int) - gravityTerm pDown

/-- A net retardation below a_floor is unbrakeable (R84). -/
def unbrakeable (c : ConfigRecord) (a : Int) : Bool := a < (c.aFloor : Int)

/-- The speed whose square is `q`, at most 15,000, rounded down (R85, R96). -/
def speedRoot (q : Nat) : Nat := if 225000000 ≤ q then Config.maxSpeed else isqrt q

/-! ## Stage 3: effective limits (R85) -/

/-- The gradient ceiling at a downhill pull (R85). -/
def gradeSpeed (c : ConfigRecord) (pDown : Int) : Nat :=
  if unbrakeable c (netEmergency c pDown) then 0 else speedRoot (2 * (netEmergency c pDown).toNat * c.dG)

/-- The segment limit in the direction of travel (R82). -/
def segmentLimit (d : Dir) (g : Segment) : Nat :=
  match d with
  | .up => g.limitUp
  | .down => g.limitDown

/-- The effective limit of a segment without the engagement cap (R85). -/
def ownLimit (c : ConfigRecord) (d : Dir) (g : Segment) : Nat := min (segmentLimit d g) (gradeSpeed c (pullDown d g))

/-- The limit of the RACK_ENTRY segment whose UNPROVEN index is kept, if one is (R85). -/
def capLimit (c : ConfigRecord) (d : Dir) (kept : Option Nat) (vs : List SegView) : Option Nat :=
  match kept with
  | none => none
  | some i => (vs.find? fun v => v.index == i).map fun v => ownLimit c d v.seg

/-- The effective limit of a segment, with the engagement cap on RACK (R85). -/
def effectiveLimit (c : ConfigRecord) (d : Dir) (cap : Option Nat) (g : Segment) : Nat :=
  match g.kind, cap with
  | .rack, some k => min (ownLimit c d g) k
  | _, _ => ownLimit c d g

/-! ## Worst pull of a stretch (R83, R92) -/

/-- The first segment with the greatest downhill pull, in the order given (R83, assumption 21). -/
def worstOf (d : Dir) : List SegView → Option SegView
  | [] => none
  | v :: vs =>
    match worstOf d vs with
    | none => some v
    | some w => if pullDown d v.seg < pullDown d w.seg then some w else some v

/-- The downhill pull of a stretch, 0 of an empty one (R83). -/
def worstPull (d : Dir) (vs : List SegView) : Int :=
  match worstOf d vs with
  | none => 0
  | some v => pullDown d v.seg

/-- Did an UNSURVEYED segment give the pull of a stretch (R92)? -/
def worstUnsurveyed (d : Dir) (vs : List SegView) : Bool :=
  match worstOf d vs with
  | none => false
  | some v => v.seg.pull.isNone

/-- The segment that a stretch's unbrakeable verdict names, if a_sv there is unbrakeable (R84). -/
def unbrakeableAt (c : ConfigRecord) (d : Dir) (vs : List SegView) : List Nat :=
  match worstOf d vs with
  | none => []
  | some v => if unbrakeable c (netService c (pullDown d v.seg)) then [v.index] else []

/-! ## Stage 4: the ceiling at the car (R86) -/

/-- One term of the ceiling: its value, its name and its segment index or restriction id. -/
structure CeilingTerm where
  value : Nat
  term : Term
  source : Option Nat
  deriving DecidableEq, Repr

/-- The first of the least terms (R86). -/
def leastTerm : CeilingTerm → List CeilingTerm → CeilingTerm
  | best, [] => best
  | best, x :: xs => leastTerm (if x.value < best.value then x else best) xs

/-- A restriction placed before those whose to is lower (assumption 20). -/
def insertByTo (r : Restriction) : List Restriction → List Restriction
  | [] => [r]
  | x :: xs => if x.toPos < r.toPos then r :: x :: xs else x :: insertByTo r xs

/-- The restriction list in the order met in the scan direction (R86, assumption 20). -/
def restrictionsInOrder (d : Dir) (l : List Restriction) : List Restriction :=
  match d with
  | .up => l
  | .down => l.foldl (fun acc r => insertByTo r acc) []

/-- The terms of the ceiling in their order (R86). -/
def State.ceilingTerms (s : State) (d : Dir) (lineEnd : Nat) (spanSegs : List SegView) (cap : Option Nat) :
    List CeilingTerm :=
  let c := s.cfg
  let lo := s.spanFrom lineEnd
  let hi := s.spanTo lineEnd
  (spanSegs.map fun v => ⟨ownLimit c d v.seg, .segment, some v.index⟩) ++
  ((spanSegs.filter fun v => effectiveLimit c d cap v.seg < ownLimit c d v.seg).map fun v =>
    ⟨effectiveLimit c d cap v.seg, .engagementCap, some v.index⟩) ++
  (((restrictionsInOrder d s.route.restrictions).filter fun r => r.fromPos ≤ hi && lo ≤ r.toPos).map fun r =>
    ⟨r.limit, .restriction, some r.id⟩) ++
  (match s.route.cap with
   | some k => [⟨k, .overflowCap, none⟩]
   | none => []) ++
  [⟨c.vCar, .carMaximum, none⟩] ++
  (if s.sup.mode = .shunt then [⟨c.vShunt, .shunt, none⟩] else []) ++
  (if s.sup.mode = .line ∧ s.radio.state = .lost then [⟨c.vRl, .radioLost, none⟩] else []) ++
  (match s.odo.localisation with
   | .degraded => [⟨c.vRl, .positionDegraded, none⟩]
   | .unlocalised => [⟨c.vShunt, .unlocalised, none⟩]
   | .localised => [])

/-- The ceiling with its limiting term (R86). -/
def ceilingOf : List CeilingTerm → CeilingTerm
  | [] => ⟨0, .mode, none⟩
  | x :: xs => leastTerm x xs

/-! ## Stage 5: the scan (R89) -/

/-- The signed distance from the front estimate to a position ahead (R82). -/
def ahead (d : Dir) (front p : Nat) : Int :=
  match d with
  | .up => (p : Int) - front
  | .down => (front : Int) - p

/-- The distance from the front estimate to a position, a negative one taken as 0 (R82). -/
def distanceTo (d : Dir) (front p : Nat) : Nat := (ahead d front p).toNat

/-- The position at a distance ahead of the front estimate. -/
def positionAt (d : Dir) (front n : Nat) : Nat :=
  match d with
  | .up => front + n
  | .down => front - n

/-- The authority held in the direction of travel, in LINE (R89, R91). -/
def State.authorityAhead (s : State) (d : Dir) : Option Authority :=
  match s.route.authority with
  | some a => if a.dir = d then some a else none
  | none => none

/-- The ends that apply, with their distances, in the naming order (R89, assumption 19). -/
def State.scanEnds (s : State) (d : Dir) (lineEnd front : Nat) : List (Nat × ScanEnd) :=
  (if s.sup.mode = .line then
    match s.authorityAhead d with
    | some a =>
      (if 0 ≤ ahead d front a.endPos then [(distanceTo d front a.endPos, .authorityEnd)] else []) ++
      (if ahead d front a.endPos ≤ 0 then [(0, .frontEstimate)] else [])
    | none => [(0, .frontEstimate)]
   else []) ++
  [(match d with
    | .up => lineEnd - front
    | .down => front, .lineEnd),
   (s.cfg.horizon, .horizon)]

/-- The first of the nearest ends. -/
def nearestEnd : Nat × ScanEnd → List (Nat × ScanEnd) → Nat × ScanEnd
  | best, [] => best
  | best, x :: xs => nearestEnd (if x.1 < best.1 then x else best) xs

/-- The scan end as a distance and its name (R89). -/
def State.scanEnd (s : State) (d : Dir) (lineEnd front : Nat) : Nat × ScanEnd :=
  match s.scanEnds d lineEnd front with
  | [] => (0, .lineEnd)
  | x :: xs => nearestEnd x xs

/-! ## Stage 5: candidates (R90, R91) -/

/-- A candidate of the look-ahead list. -/
structure Candidate where
  kind : TargetKind
  position : Nat
  distance : Nat
  speed : Nat
  source : Option Nat
  deriving DecidableEq, Repr

/-- Where a segment is entered (R90). -/
def SegView.entry (d : Dir) (v : SegView) : Nat :=
  match d with
  | .up => v.start
  | .down => v.stop

/-- Is a segment entered within a scan of `reach` mm (R90)? -/
def SegView.entered (d : Dir) (front reach : Nat) (v : SegView) : Bool :=
  let x := ahead d front (v.entry d)
  x ≤ reach &&
    match d with
    | .up => 0 < x
    | .down => 0 ≤ x

/-- The segments entered within the scan, in the scan direction (R90). -/
def State.enteredSegments (s : State) (d : Dir) (front reach : Nat) : List SegView :=
  let vs := s.views.filter fun v => v.entered d front reach
  match d with
  | .up => vs
  | .down => vs.reverse

/-- The entry edge of a restriction (R91). -/
def Restriction.edge (d : Dir) (r : Restriction) : Nat :=
  match d with
  | .up => r.fromPos
  | .down => r.toPos

/-- The candidates of the scan (R90, R91). -/
def State.candidates (s : State) (d : Dir) (lineEnd front reach ceiling : Nat) (cap : Option Nat)
    (entered : List SegView) : List Candidate :=
  ((entered.filter fun v => effectiveLimit s.cfg d cap v.seg < ceiling).map fun v =>
    { kind := .segment, position := v.entry d, distance := distanceTo d front (v.entry d)
      speed := effectiveLimit s.cfg d cap v.seg, source := some v.index }) ++
  ((s.route.restrictions.filter fun r =>
      r.limit < ceiling && 0 < ahead d front (r.edge d) && ahead d front (r.edge d) ≤ reach).map fun r =>
    { kind := .restriction, position := r.edge d, distance := distanceTo d front (r.edge d), speed := r.limit
      source := some r.id }) ++
  (match s.sup.mode with
   | .line =>
     match s.authorityAhead d with
     | some a =>
       if ahead d front a.endPos ≤ reach then
         [{ kind := .authorityEnd, position := positionAt d front (distanceTo d front a.endPos)
            distance := distanceTo d front a.endPos, speed := a.release.getD 0, source := some a.seq.toNat }]
       else []
     | none => [{ kind := .authorityEnd, position := front, distance := 0, speed := 0, source := none }]
   | .shunt =>
     let e := match d with
       | .up => lineEnd
       | .down => 0
     if distanceTo d front e ≤ reach then
       [{ kind := .lineEnd, position := e, distance := distanceTo d front e, speed := 0, source := none }]
     else []
   | _ => [])

/-- The kind order of R93. -/
def TargetKind.order : TargetKind → Nat
  | .authorityEnd => 0
  | .lineEnd => 1
  | .restriction => 2
  | .segment => 3

/-- The order of the candidates: ascending distance, then lowest speed, kind order, lowest source (R93). -/
def Candidate.before (a b : Candidate) : Bool :=
  if a.distance ≠ b.distance then a.distance < b.distance
  else if a.speed ≠ b.speed then a.speed < b.speed
  else if a.kind.order ≠ b.kind.order then a.kind.order < b.kind.order
  else a.source.getD 0 < b.source.getD 0

/-- A candidate placed in the order of R93. -/
def insertCandidate (c : Candidate) : List Candidate → List Candidate
  | [] => [c]
  | x :: xs => if c.before x then c :: x :: xs else x :: insertCandidate c xs

/-- Candidates in the order of R93. -/
def orderCandidates (cs : List Candidate) : List Candidate := cs.foldr insertCandidate []

/-- The first candidate at each distance (R93 step 1): of an ordered list, those beyond the last one taken. -/
def onePerPlace : Option Nat → List Candidate → List Candidate
  | _, [] => []
  | last, c :: cs => if last = some c.distance then onePerPlace last cs else c :: onePerPlace (some c.distance) cs

/-- The staircase: the candidates below every speed kept before (R93 step 2); `bound` is the least so far. -/
def staircase : Nat → List Candidate → List Candidate
  | _, [] => []
  | bound, c :: cs => if c.speed < bound then c :: staircase c.speed cs else staircase bound cs

/-- The slowest candidate; of equals the first in the ordering, that is the nearest (R94; assumption 46). -/
def slowest : Candidate → List Candidate → Candidate
  | best, [] => best
  | best, c :: cs => slowest (if c.speed < best.speed then c else best) cs

/-- The look-ahead list before pricing, with the merged flag (R94). -/
def mergeList (ordered kept : List Candidate) : List Candidate × Bool :=
  match kept.drop 7 with
  | eighth :: _ :: _ =>
    let m := slowest eighth (ordered.filter fun c => eighth.distance < c.distance)
    (kept.take 7 ++ [{ eighth with kind := m.kind, speed := m.speed, source := m.source }], true)
  | _ => (kept, false)

/-! ## Stages 6 and 7: permitted speeds (R95, R96, R97) -/

/-- The reaction distance (R95). -/
def reactionDistance (v tR : Nat) : Nat := ceilDiv (v * tR) 1000

/-- The permitted speed of an entry (R96). -/
def permittedAt (c : ConfigRecord) (worst : Int) (distance reaction target : Nat) : Nat :=
  if unbrakeable c (netService c worst) then 0
  else if distance ≤ reaction then target
  else speedRoot (target * target + 2 * (netService c worst).toNat * (distance - reaction))

/-- The stretch from the front estimate to a candidate, in the scan direction (R92). -/
def State.approach (s : State) (d : Dir) (front position : Nat) : List SegView :=
  match d with
  | .up => s.stretch d front position
  | .down => s.stretch d position front

/-- A target record of the look-ahead list (R92, R96). -/
def State.price (s : State) (d : Dir) (front reaction : Nat) (c : Candidate) : Target :=
  let vs := s.approach d front c.position
  { kind := c.kind
    position := c.position
    distance := c.distance
    speed := c.speed
    worstPull := worstPull d vs
    unsurveyed := worstUnsurveyed d vs
    source := c.source
    vPerm := permittedAt s.cfg (worstPull d vs) c.distance reaction c.speed }

/-- The permitted speed and the number of the entry that gave it, absent for CEILING (R97). -/
def leastPermitted : Nat → Nat × Option Nat → List Target → Nat × Option Nat
  | _, best, [] => best
  | n, best, t :: ts => leastPermitted (n + 1) (if t.vPerm < best.1 then (t.vPerm, some n) else best) ts

/-! ## The faults of a pass (R98) -/

/-- The segments in the order first met. -/
def firstMet : List Nat → List SegView → List SegView
  | _, [] => []
  | seen, v :: vs => if seen.contains v.index then firstMet seen vs else v :: firstMet (v.index :: seen) vs

/-- The faults of a segment: UNSURVEYED before UNBRAKEABLE (R98). -/
def segmentFaults (unbrakeables : List Nat) (v : SegView) : List (FaultKind × Option Nat) :=
  (if v.seg.pull.isNone then [(.unsurveyed, some v.index)] else []) ++
  (if unbrakeables.contains v.index then [(.unbrakeable, some v.index)] else [])

/-- The faults of a pass in pass order (R98): of the segments of the car span, those entered, and those of each entry's
stretch. -/
def passFaults (c : ConfigRecord) (d : Dir) (span entered : List SegView) (stretches : List (List SegView)) :
    List (FaultKind × Option Nat) :=
  let met := span ++ entered
  let own := (met.filter fun v => unbrakeable c (netEmergency c (pullDown d v.seg))).map fun v => v.index
  let named := (span :: stretches).flatMap (unbrakeableAt c d)
  (firstMet [] (met ++ stretches.flatten)).flatMap (segmentFaults (own ++ named))

/-! ## The pass (R81) -/

/-- The results of a pass in INIT, PARKED or TRIPPED (R81). -/
def State.idleResults (s : State) : PassResults :=
  { PassResults.powerOn with
    time := s.clock.now
    mode := s.sup.mode
    dir := s.odo.direction
    speed := s.odo.speed
    front := match s.lineEnd with
      | none => 0
      | some e => s.front e s.odo.direction }

/-- The results of a pass in SHUNT or LINE and the faults it collects (R81 to R98). -/
def State.fullResults (s : State) : PassResults × List (FaultKind × Option Nat) :=
  let c := s.cfg
  let d := s.odo.direction
  let lineEnd := s.lineEnd.getD 0
  let front := s.front lineEnd d
  let cap := capLimit c d s.odo.engagement.kept s.views
  let span := s.stretch d (s.spanFrom lineEnd) (s.spanTo lineEnd)
  let ceiling := ceilingOf (s.ceilingTerms d lineEnd span cap)
  let scan := s.scanEnd d lineEnd front
  let entered := s.enteredSegments d front scan.1
  let ordered := onePerPlace none
    (orderCandidates (s.candidates d lineEnd front scan.1 ceiling.value cap entered))
  let merged := mergeList ordered (staircase ceiling.value ordered)
  let reaction := reactionDistance s.odo.speed c.tR
  let targets := merged.1.map (s.price d front reaction)
  let permitted := leastPermitted 1 (ceiling.value, none) targets
  let pull := worstPull d span
  ({ time := s.clock.now
     mode := s.sup.mode
     dir := d
     speed := s.odo.speed
     front := front
     reaction := reaction
     ceiling := ceiling.value
     term := ceiling.term
     termSource := ceiling.source
     pull := pull
     pullUnsurveyed := worstUnsurveyed d span
     netService := if unbrakeable c (netService c pull) then 0 else (netService c pull).toNat
     scanEnd := some (positionAt d front scan.1, scan.2)
     merged := merged.2
     targets := targets
     permitted := permitted.1
     giver := permitted.2 },
   passFaults c d span entered (merged.1.map fun k => s.approach d front k.position))

/-- Does a mode compute the full arithmetic (R81, R105)? -/
def Mode.runs : Mode → Bool
  | .shunt => true
  | .line => true
  | _ => false

/-- The results and the faults of a pass, its odometry inputs formed (R81). -/
def State.passResults (s : State) : PassResults × List (FaultKind × Option Nat) :=
  if s.sup.mode.runs then s.fullResults else (s.idleResults, [])

/-! ## The supervision fault record (R99) -/

/-- The bit of the report enables for a fault kind (10 §10.5 field 43). -/
def FaultKind.enableBit : FaultKind → Nat
  | .unsurveyed => 0
  | .unbrakeable => 1
  | .test => 2

/-- Faults collected, handled: fault seen, and the first enabled one written and raised, with the position of the inputs
of the latest pass (R99; assumption 40). -/
def State.handleFaults (faults : List (FaultKind × Option Nat)) (s : State) : State :=
  match faults with
  | [] => s
  | _ =>
    match faults.find? fun f => s.cfg.enables.testBit f.1.enableBit with
    | none => { s with sup := { s.sup with faultSeen := true } }
    | some f =>
      State.raise .supervisionFault
        { s with
          sup := { s.sup with
            faultSeen := true
            faultRecord := some ⟨f.1, f.2, s.sup.inputPosition, s.clock.now⟩ } }

end Sys2Proof.Machine
end

