-- ==== Sys2Proof/Machine/Supervisor.lean ====
section
/-! DEFINITION. The Supervisor (chapter 6): the pass with its trip causes, intervention level, effort monitor and brake
demands, and the requests SET MODE, DRIVE STATE, RELEASE TRIP and DETECTOR TEST. -/

namespace Sys2Proof.Machine

/-! ## Movement (R6, R7, R113) -/

/-- Movement since standstill in mm (R6). -/
def State.movement (s : State) : Int := mmAwayFromZero s.odo.movementUm

/-- Rollaway is met (R7). -/
def rollawayMet (sel : Selector) (movement : Int) (limit : Nat) : Bool :=
  match sel with
  | .neutral => limit < movement.natAbs
  | .up => movement < -(limit : Int)
  | .down => (limit : Int) < movement

/-- ENTRANCE_OPEN_MOVING is met (R113). -/
def State.openMoving (s : State) : Bool := !s.ent.allLocked && s.cfg.entranceMoving < s.movement.natAbs

/-! ## The stop point and the overrun (R112) -/

/-- Is the overrun test made: in LINE, and in TRIPPED with mode before trip LINE (R112)? -/
def Supervisor.testsOverrun (u : Supervisor) : Bool :=
  match u.mode with
  | .line => true
  | .tripped => u.modeBefore == some .line
  | _ => false

/-- The stop point a pass leaves, the test being made (R112). -/
def State.nextStopPoint (s : State) (d : Dir) (front : Nat) : Option StopPoint :=
  match s.authorityAhead d with
  | some _ => none
  | none =>
    match s.sup.stopPoint with
    | none => some ⟨front, d⟩
    | some p => if p.dir = d then some p else some ⟨front, d⟩

/-- AUTHORITY_OVERRUN is met, the test being made (R112). -/
def State.overrunMet (s : State) (d : Dir) (front : Nat) : Bool :=
  match s.authorityAhead d with
  | some a => ahead d front a.endPos < 0
  | none =>
    match s.sup.stopPoint with
    | none => false
    | some p => p.dir == d && ahead d front p.position < 0

/-- The pass's stop point and whether the overrun is met (R112). -/
def State.overrun (s : State) (r : PassResults) : Option StopPoint × Bool :=
  if s.sup.testsOverrun then (s.nextStopPoint r.dir r.front, s.overrunMet r.dir r.front)
  else (s.sup.stopPoint, false)

/-! ## Trip causes (R111) -/

/-- A cause in a list when it is met. -/
def causeIf (b : Bool) (c : Cause) : List Cause := if b then [c] else []

/-- The causes that a pass in SHUNT or LINE meets, but for BRAKE_EFFORT, in the cause order (R111). -/
def State.causesRunning (s : State) (r : PassResults) (overrun : Bool) : List Cause :=
  causeIf (r.permitted + s.cfg.mE < r.speed) .overspeed ++
  causeIf overrun .authorityOverrun ++
  causeIf s.openMoving .entranceOpenMoving ++
  causeIf (rollawayMet s.sup.drive.selector s.movement s.cfg.rollaway) .rollaway ++
  causeIf s.sup.engagementFailure .rackEngagement ++
  causeIf s.sup.outputFault .outputFault

/-- The causes that a pass in TRIPPED meets, in the cause order (R111). -/
def State.causesTripped (s : State) (overrun : Bool) : List Cause :=
  causeIf overrun .authorityOverrun ++
  causeIf s.openMoving .entranceOpenMoving ++
  causeIf s.sup.engagementFailure .rackEngagement ++
  causeIf s.sup.outputFault .outputFault

/-- The number of a cause in the cause order (R111, 10 §10.7). -/
def Cause.number : Cause → Nat
  | .overspeed => 1
  | .authorityOverrun => 2
  | .entranceOpenMoving => 3
  | .rollaway => 4
  | .brakeEffort => 5
  | .rackEngagement => 6
  | .outputFault => 7

/-- A cause joined to a cause set kept in the cause order. -/
def insertCause (c : Cause) : List Cause → List Cause
  | [] => [c]
  | x :: xs => if c.number < x.number then c :: x :: xs else if c = x then x :: xs else x :: insertCause c xs

/-! ## The intervention level (R109, R110) -/

/-- The level after a pass that enters no trip (R109). -/
def levelAfter (c : ConfigRecord) (level : Level) (v p : Nat) : Level :=
  match level with
  | .service => if v + c.mR ≤ p then .none else .service
  | _ => if p + c.mS < v then .service else if p < v then .warning else .none

/-- The level set, with an INTERVENTION report when it changes (R110). -/
def State.setLevel (new : Level) (v p : Nat) (s : State) : State :=
  let former := s.sup.level
  if former = new then s
  else State.post (.intervention former new v p) { s with sup := { s.sup with level := new } }

/-- The two condition alerts of the level, `warning` saying that the pass found v > p and did not trip (R110). -/
def State.publishLevel (warning : Bool) (s : State) : State :=
  (s.setCondition .overspeedWarning warning).setCondition .serviceIntervention (s.sup.level == .service)

/-! ## Brake demands (R121, R122, R123) -/

/-- The SERVICE demand (R121). -/
def serviceDemand (c : ConfigRecord) (mode : Mode) (level : Level) (driver : Nat) (allLocked : Bool) : Nat :=
  max driver (max (if !mode.runs || level = .service then 64 else 0) (if allLocked then 0 else c.holdLevel))

/-- The BAND demand; an absent segment at the pinion point is taken as RACK (R122). -/
def bandDemand (mode : Mode) (allLocked still traction : Bool) (pinion : Option SegView) : SingleDemand :=
  let adhesion := match pinion with
    | none => false
    | some v => v.seg.kind == .adhesion
  if mode.runs && allLocked && (!still || adhesion || traction) then .release else .apply

/-- The EMERGENCY demand (R123). -/
def emergencyDemand (mode : Mode) : SingleDemand := if mode.runs then .release else .apply

/-- The three demands from the mode and level as they stand (R121, R122, R123). -/
def State.formDemands (s : State) : Demands where
  service := serviceDemand s.cfg s.sup.mode s.sup.level s.sup.drive.brake s.ent.allLocked
  band := bandDemand s.sup.mode s.ent.allLocked s.odo.standstill s.sup.drive.traction s.pinionSegment
  emergency := emergencyDemand s.sup.mode

/-- Stages 4 and 5 of the pass: the demands set and their writes prepared (R104, R123; assumption 10); the hold level
applied is kept for the next entrance cycle (R199). -/
def State.setDemands (s : State) : State :=
  let d := s.formDemands
  { s with
    sup := { s.sup with
      demands := d
      prepared := ⟨some d.service, some d.band, some d.emergency⟩
      holdLevel := s.cfg.holdLevel } }

/-! ## The effort monitor (R119, R120) -/

/-- The required deceleration at a net service retardation (R120). -/
def requiredDeceleration (c : ConfigRecord) (net : Nat) : Nat := ceilDiv (c.kEff * net) 100

/-- The measured deceleration over `t` ms, rounded down (R120). -/
def measuredDeceleration (v0 v t : Nat) : Int := (((v0 : Int) - v) * 1000).fdiv t

/-- What a pass without another trip cause does to the monitor: its state after, and whether BRAKE_EFFORT is met. -/
structure EffortVerdict where
  effort : Effort
  failed : Bool
  deriving DecidableEq, Repr

/-- The monitor at a pass in SHUNT or LINE with SERVICE demand `demand` (R119, R120). -/
def State.effortPass (s : State) (r : PassResults) (demand : Nat) : EffortVerdict :=
  match s.sup.effort with
  | .idle => if demand = 64 ∧ 0 < r.speed then ⟨.running r.time r.speed, false⟩ else ⟨.idle, false⟩
  | .running start v0 =>
    let elapsed := Time.since r.time start
    if demand < 64 ∨ r.speed = 0 then ⟨.idle, false⟩
    else if elapsed < s.cfg.tCheck * 1000 then ⟨.running start v0, false⟩
    else if measuredDeceleration v0 r.speed (elapsed / 1000) < (requiredDeceleration s.cfg r.netService : Int) then
      ⟨.idle, true⟩
    else ⟨.running r.time r.speed, false⟩

/-! ## The verdict of a pass (R104 stage 3) -/

/-- Entry into TRIPPED with the causes met, in the cause order (R115). -/
def State.enterTrip (r : PassResults) (first : Cause) (causes : List Cause) (s : State) : State :=
  let mode := s.sup.mode
  let s1 := { s with
    sup := { s.sup with
      mode := .tripped
      modeBefore := some mode
      trip := some ⟨first, s.odo.position, r.speed, r.permitted, r.time, mode, causes⟩
      effort := .idle } }
  (((s1.raise .trip).post (.modeChange mode .tripped .trip)).setLevel .emergency r.speed r.permitted).publishLevel false

/-- A pass in SHUNT or LINE that enters no trip (R109, R110, R119). A change of level posts its INTERVENTION report before
the ALERT reports of the two conditions it drives (assumption 47). -/
def State.continueRunning (r : PassResults) (effort : Effort) (s : State) : State :=
  State.publishLevel (r.permitted < r.speed)
    (State.setLevel (levelAfter s.cfg s.sup.level r.speed r.permitted) r.speed r.permitted
      { s with sup := { s.sup with effort := effort } })

/-- Stage 3 in SHUNT or LINE: the causes, else the effort monitor, else the level (R109 to R115, R119, R120). A pass that
meets another cause enters TRIPPED without judging a window that is due, so BRAKE_EFFORT does not join its cause set
(assumption 53). -/
def State.judgeRunning (r : PassResults) (overrun : Bool) (s : State) : State :=
  let cleared := { s with sup := { s.sup with engagementFailure := false, outputFault := false } }
  match s.causesRunning r overrun with
  | first :: more => cleared.enterTrip r first (first :: more)
  | [] =>
    let level := levelAfter s.cfg s.sup.level r.speed r.permitted
    let e := s.effortPass r (serviceDemand s.cfg s.sup.mode level s.sup.drive.brake s.ent.allLocked)
    if e.failed then cleared.enterTrip r .brakeEffort [.brakeEffort] else cleared.continueRunning r e.effort

/-- A cause joined to the trip record's set, TRIP raised when it is new (R116). -/
def State.joinCause (s : State) (c : Cause) : State :=
  match s.sup.trip with
  | none => s
  | some t =>
    if t.causes.contains c then s
    else State.raise .trip { s with sup := { s.sup with trip := some { t with causes := insertCause c t.causes } } }

/-- Stage 3 in TRIPPED (R116). -/
def State.judgeTripped (overrun : Bool) (s : State) : State :=
  State.publishLevel false
    ((s.causesTripped overrun).foldl State.joinCause
      { s with sup := { s.sup with engagementFailure := false, outputFault := false, effort := .idle } })

/-- Stage 3 in INIT or PARKED: no cause is tested (R109, R111, R119). -/
def State.judgeStanding (s : State) : State :=
  State.publishLevel false { s with sup := { s.sup with effort := .idle } }

/-- Stage 3 of the pass (R104). -/
def State.judgePass (r : PassResults) (s : State) : State :=
  let o := s.overrun r
  let s1 := { s with sup := { s.sup with stopPoint := o.1 } }
  match s.sup.mode with
  | .shunt => s1.judgeRunning r o.2
  | .line => s1.judgeRunning r o.2
  | .tripped => s1.judgeTripped o.2
  | _ => s1.judgeStanding

/-- One whole supervision pass at the time of the clock (R104). -/
def State.supervisionPass (s : State) : State :=
  let s1 := s.odometryPass
  let r := s1.passResults
  let s2 := State.handleFaults r.2
    { s1 with sup := { s1.sup with pass := r.1, inputPosition := s1.odo.position } }
  (s2.judgePass r.1).setDemands

/-- Is a window judgement due: the monitor RUNNING in SHUNT or LINE with t_check elapsed (R119; assumption 6)? -/
def State.judgementDue (s : State) : Bool :=
  match s.sup.effort with
  | .running start _ => s.sup.mode.runs && s.cfg.tCheck * 1000 ≤ Time.since s.clock.now start
  | .idle => false

/-! ## SET MODE (R106, R107) -/

/-- Is a request for another mode taken (R106)? -/
def State.modeAllowed (s : State) (new : Mode) : Bool :=
  match s.sup.mode, new with
  | .init, .parked => s.configured && s.line.active.isSome
  | .init, _ => false
  | .tripped, .parked => s.odo.standstill
  | .tripped, _ => false
  | _, .line => s.odo.standstill && s.odo.localisation != .unlocalised
  | _, _ => s.odo.standstill

/-- The Supervisor's own state at a change of mode by request (R107). -/
def Supervisor.changed (new : Mode) (u : Supervisor) : Supervisor :=
  { u with
    mode := new
    modeBefore := if u.mode = .tripped then none else u.modeBefore
    effort := .idle
    stopPoint := none }

/-- The level that a change of mode by request leaves (R107). -/
def levelAfterChange (former new : Mode) (level : Level) : Level :=
  match former, new with
  | .shunt, .line => level
  | .line, .shunt => level
  | _, _ => .none

/-- A change of mode by SET MODE (R107, R110). -/
def State.changeMode (new : Mode) (s : State) : State :=
  let former := s.sup.mode
  let s1 := State.post (.modeChange former new .request) { s with sup := s.sup.changed new }
  let s2 := s1.setLevel (levelAfterChange former new s.sup.level) s.sup.pass.speed s.sup.pass.permitted
  s2.setCondition .serviceIntervention (s2.sup.level == .service)

/-- SET MODE of a mode (R106, R107). -/
def State.setMode (new : Mode) (s : State) : Result × State :=
  if s.sup.testStep ≠ 0 then (.refusedState, s)
  else if s.sup.mode = new then (.done .nothing, s)
  else if s.modeAllowed new then (.done .nothing, s.changeMode new)
  else (.refusedState, s)

/-! ## DRIVE STATE (R108) -/

/-- The selector a code names (10 §10.7). -/
def selectorOf : Nat → Option Selector
  | 0 => some .up
  | 1 => some .down
  | 2 => some .neutral
  | _ => none

/-- DRIVE STATE (R108); with selector and traction both out of range field 1 is named (assumption 44). -/
def State.setDrive (selector traction brake : Nat) (s : State) : Result × State :=
  match selectorOf selector with
  | none => (.badField 1, s)
  | some sel =>
    if 1 < traction then (.badField 2, s)
    else (.done .nothing, { s with sup := { s.sup with drive := ⟨sel, traction == 1, min brake 64⟩ } })

/-! ## RELEASE TRIP (R117) -/

/-- RELEASE TRIP (R117, R110). -/
def State.releaseTrip (s : State) : Result × State :=
  if s.sup.mode = .tripped ∧ s.odo.standstill = true then
    let back := s.sup.modeBefore.getD .shunt
    let s1 := State.post (.modeChange .tripped back .release)
      { s with
        sup := { s.sup with mode := back, modeBefore := none, trip := none, stopPoint := none, effort := .idle } }
    let s2 := s1.setLevel .none s.sup.pass.speed s.sup.pass.permitted
    (.done .nothing, s2.setCondition .serviceIntervention false)
  else (.refusedState, s)

/-! ## DETECTOR TEST (R124) -/

/-- The effects of a new test step (R124); two kinds of one step latch in the order of R124's table (assumption 39). -/
def State.testEffects (step : Nat) (s : State) : State :=
  if step = 1 then (s.force .overspeedWarning).force .serviceIntervention
  else if step = 2 then (s.force .radioDegraded).force .radioLost
  else if step = 3 then
    (State.force .entranceObstructed { s with notice := s.notice.testClear }).force .odometryDisagree
  else if step = 4 then (s.force .positionDegraded).raise .markerMissed
  else if step = 5 then s.handleFaults [(.test, none)]
  else { s with notice := s.notice.testClear }

/-- The step that follows a test step: from 5 back to 0 (R124). -/
def nextStep (n : Nat) : Nat := if 5 ≤ n then 0 else n + 1

/-- DETECTOR TEST (R124). -/
def State.detectorTest (s : State) : Result × State :=
  if s.sup.mode = .parked ∧ s.odo.standstill = true then
    let n := nextStep s.sup.testStep
    (.done (.step n), State.testEffects n { s with sup := { s.sup with testStep := n } })
  else (.refusedState, s)

end Sys2Proof.Machine
end

