-- ==== Sys2Proof/Machine/Readouts.lean ====
section
/-! DEFINITION. The readouts that join several blocks: READ ODOMETRY, READ ALERTS, the status snapshot, the
configuration, IDENTIFY; the codes they carry; and the uplink frame (R22, R56, R177, R191, R193, R194, R196). -/

namespace Sys2Proof.Machine

/-! ## Codes (10 §10.7) -/

/-- The code of a mode. -/
def Mode.code : Mode → Nat
  | .init => 0
  | .parked => 1
  | .shunt => 2
  | .line => 3
  | .tripped => 4

/-- The code of an intervention level. -/
def Level.code : Level → Nat
  | .none => 0
  | .warning => 1
  | .service => 2
  | .emergency => 3

/-- The code of a localisation. -/
def Localisation.code : Localisation → Nat
  | .unlocalised => 0
  | .localised => 1
  | .degraded => 2

/-- The code of a limiting term. -/
def Term.code : Term → Nat
  | .mode => 0
  | .segment => 1
  | .engagementCap => 2
  | .restriction => 3
  | .overflowCap => 4
  | .carMaximum => 5
  | .shunt => 6
  | .radioLost => 7
  | .positionDegraded => 8
  | .unlocalised => 9

/-- The code of a selector. -/
def Selector.code : Selector → Nat
  | .up => 0
  | .down => 1
  | .neutral => 2

/-- The code of a radio state. -/
def RadioState.code : RadioState → Nat
  | .ok => 0
  | .degraded => 1
  | .lost => 2

/-- The code of a sync state. -/
def Sync.code : Sync → Nat
  | .hunt => 0
  | .confirm => 1
  | .locked => 2

/-- The code of a withheld release's reason. -/
def WithheldReason.code : WithheldReason → Nat
  | .mode => 1
  | .moving => 2
  | .brake => 3
  | .platform => 4
  | .hold => 5

/-- The code of a release. -/
def Release.code : Release → Nat
  | .granted => 0
  | .withheld r => r.code

/-- The code of a takeover. -/
def Takeover.code : Takeover → Nat
  | .none => 0
  | .pending => 1
  | .granted => 2

/-- The code of a leaf state. -/
def LeafState.code : LeafState → Nat
  | .closed => 0
  | .unlocking => 1
  | .opening => 2
  | .opened => 3
  | .warning => 4
  | .closing => 5
  | .reopening => 6
  | .obstructed => 7
  | .fault => 8
  | .isolated => 9
  | .manual => 10

/-- The code of a last fault. -/
def LastFault.code : LastFault → Nat
  | .none => 0
  | .copy => 1
  | .starved => 2

/-- The code of a single channel's demand. -/
def SingleDemand.code : SingleDemand → Nat
  | .apply => 0
  | .release => 1

/-- The code of a latest demand: the duty, or the single channel's demand. -/
def Demand.code : Demand → Nat
  | .duty d => d
  | .single d => d.code

/-- The code of the engagement check. -/
def Engagement.code : Engagement → Nat
  | .idle => 0
  | .armed _ _ _ _ => 1
  | .unproven _ => 2

/-- The code of the line rate (R193). -/
def LineRate.code : LineRate → Nat
  | .r57600 => 0
  | .r115200 => 1
  | .r230400 => 2

/-- The first trip cause as a code, 0 for none. -/
def Supervisor.firstCause (u : Supervisor) : Nat :=
  match u.trip with
  | none => 0
  | some t => t.first.number

/-- The trip cause set: cause k at bit k − 1. -/
def causeBits : List Cause → Nat
  | [] => 0
  | c :: cs => 2 ^ (c.number - 1) + causeBits cs

/-- Bools as the bits of a number, the first at bit 0. -/
def flagBits : List Bool → Nat
  | [] => 0
  | b :: bs => bit b + 2 * flagBits bs

/-! ## READ ODOMETRY (R22) -/

/-- READ ODOMETRY's readout (R22). -/
def State.odometryReadout (s : State) : OdometryReadout where
  pinCount := s.odo.pinCount.toInt
  whlCount := s.odo.whlCount.toInt
  pinErrors := s.odo.pinErrors
  whlErrors := s.odo.whlErrors
  reference := s.reference
  speed := s.odo.speed
  standstill := s.odo.standstill
  direction := s.odo.direction
  position := s.odo.position
  remainder := s.odo.remainder
  uncertainty := s.odo.uncertainty
  credit := s.odo.credit
  localisation := s.odo.localisation
  lossFlag := s.odo.lossFlag
  segment := s.pinionSegment.map fun v => v.index
  lastAccepted := s.odo.lastAccepted
  distance := s.odo.distance
  missed := s.odo.missed
  movement := s.movement
  engagement := s.odo.engagement
  disagree := s.odo.disagree
  expected := s.expectedMarker.map fun m => m.id

/-! ## READ ALERTS (R177) -/

/-- READ ALERTS's readout (R177). -/
def State.alertsReadout (s : State) : AlertsReadout where
  kinds := AlertKind.all.map fun k => ⟨s.notice.entry k, (s.notice.entry k).indicated k⟩
  latched := s.notice.latchedSet
  attention := s.notice.attention
  queued := s.notice.queue.length
  drops := s.notice.drops
  gapPending := s.notice.drops != 0

/-- The alert set of the kinds with a property, in 3 bytes (10 §10.7). -/
def Notice.setOf (n : Notice) (p : AlertKind → AlertEntry → Bool) : List Byte :=
  le 3 (flagBits (AlertKind.all.map fun k => p k (n.entry k)))

/-! ## Configuration and identity (R191, R193) -/

/-- READ CONFIGURATION's readout (R191). -/
def State.configReadout (s : State) : List Byte := le 1 (bit s.configured) ++ configBytes s.cfg

/-- IDENTIFY's readout (R193). -/
def State.identity (s : State) : List Byte :=
  le 2 Config.vendorCode ++ le 2 Config.partCode ++ le 1 Config.revision ++ le 1 s.link.rate.code ++
  le 1 Config.maxPayload

/-! ## The status snapshot (R194, 10 §10.7) -/

/-- The four status bytes of a channel. -/
def Brake.statusBytes (b : Brake) (c : Channel) : List Byte :=
  let x := b.channel c
  let rel : Bool := match x.addressing with
    | .absolute => false
    | .relative _ => true
  le 1 (b.validAhead c) ++ le 1 (flagBits [x.defaultEmitted, x.confirmed, rel]) ++ le 1 x.lastFault.code ++
  le 1 x.latest.code

/-- The status byte of a leaf. -/
def LeafRecord.statusByte (r : LeafRecord) : List Byte := le 1 (r.state.code + 64 * bit r.returnMark + 128 * bit r.pending)

/-- Offsets 0 to 28: the Supervisor, the position record, the demands. -/
def State.statusSupervision (s : State) : List Byte :=
  le 4 s.clock.now.toNat ++ le 1 s.sup.mode.code ++
  le 1 (match s.sup.modeBefore with
    | none => 0
    | some m => m.code) ++
  le 1 s.sup.testStep ++ le 1 s.sup.level.code ++ le 1 s.sup.firstCause ++
  le 1 (match s.sup.trip with
    | none => 0
    | some t => causeBits t.causes) ++
  le 1 (flagBits [s.configured, s.odo.standstill, s.odo.direction == .down, s.sup.pass.merged, s.sup.faultSeen,
    s.radio.offset.isSome, s.notice.attention, s.ent.allLocked]) ++
  le 3 s.odo.position ++ le 2 s.odo.uncertainty ++ le 1 s.odo.localisation.code ++ le 2 s.odo.speed ++
  le 2 s.sup.pass.ceiling ++ le 1 s.sup.pass.term.code ++ le 2 s.sup.pass.permitted ++
  le 1 s.sup.drive.selector.code ++ le 1 (bit s.sup.drive.traction) ++ le 1 s.sup.drive.brake ++
  le 1 s.sup.demands.service ++ le 1 (flagBits [s.sup.demands.band == .release, s.sup.demands.emergency == .release])

/-- Offsets 29 to 49: the radio, the banks, the route records, the entrances. -/
def State.statusRoute (s : State) : List Byte :=
  le 1 s.radio.state.code ++ le 1 (s.radio.sync.code + 128 * bit s.radio.settled) ++
  le 1 (match s.line.active with
    | none => 0
    | some .a => 1
    | some .b => 2) ++
  le 1 s.line.a.state.code ++ le 1 s.line.b.state.code ++
  (match s.route.authority with
   | none => le 1 0 ++ le 1 0
   | some a => le 1 1 ++ le 1 a.seq.toNat) ++
  le 1 s.route.restrictions.length ++ le 2 (s.route.cap.getD 0xFFFF) ++
  le 1 s.ent.releaseLeft.code ++ le 1 s.ent.releaseRight.code ++
  le 1 (s.ent.takeoverLeft.code + 16 * s.ent.takeoverRight.code) ++
  s.ent.leaves.toList.flatMap LeafRecord.statusByte

/-- Offsets 50 to 75: the brake channels, the alert sets, the report queue, the checks. -/
def State.statusOutputs (s : State) : List Byte :=
  le 1 (cycleSlot s.brake.slotNumber) ++ s.brake.statusBytes .service ++ s.brake.statusBytes .band ++
  s.brake.statusBytes .emergency ++
  s.notice.setOf (fun _ e => e.latched) ++ s.notice.setOf (fun k e => e.indicated k) ++
  s.notice.setOf (fun _ e => e.forced) ++
  le 1 s.notice.queue.length ++ le 1 s.notice.drops ++ le 1 s.odo.engagement.code ++
  le 1 (flagBits [s.radio.unheard, s.sup.faultRecord.isSome])

/-- The status snapshot, 76 bytes (R194, 10 §10.7). -/
def State.status (s : State) : List Byte := s.statusSupervision ++ s.statusRoute ++ s.statusOutputs

/-! ## The uplink frame (R56, R196) -/

/-- The 4 bits of a brake channel. -/
def BrakeChannel.uplinkBits (x : BrakeChannel) : Nat :=
  flagBits [x.defaultEmitted, x.confirmed] + 4 * x.lastFault.code

/-- The ids of the ring, 0 beyond the number held. -/
def ringIds (ring : List AckEntry) : List Nat := (ring.map AckEntry.id ++ [0, 0, 0, 0]).take 4

/-- Slot 1 of an uplink frame: the status, kind 0x81 (R196). -/
def State.uplinkStatus (s : State) : List Byte :=
  be 1 0x81 ++ be 1 s.cfg.carId ++ be 3 s.odo.position ++ be 2 s.odo.uncertainty ++ be 2 s.odo.speed ++
  be 1 (s.sup.mode.code + 8 * s.sup.firstCause) ++
  be 1 (s.brake.service.uplinkBits + 16 * s.brake.band.uplinkBits) ++ be 1 s.brake.emergency.uplinkBits ++
  be 1 (flagBits [s.ent.allLocked, s.ent.releaseLeft.isGranted, s.ent.releaseRight.isGranted,
    s.route.authority.isSome]) ++
  be 1 (match s.route.authority with
    | none => 0
    | some a => a.seq.toNat) ++
  be 1 (s.radio.ring.length + 16 * flagBits (s.radio.ring.map fun e => !e.accepted)) ++
  (ringIds s.radio.ring).flatMap (be 1) ++ be 1 0

/-- Slot 2 of an uplink frame: the oldest note, kind 0x82, or idle fill (R196). -/
def Radio.uplinkSlot2 (r : Radio) : List Byte :=
  match r.notes with
  | [] => List.replicate 20 0
  | text :: _ => be 1 0x82 ++ be 1 text.length ++ noteBytes text

/-- The covered bytes 2 to 44 of an uplink frame. -/
def State.uplinkBody (s : State) : List Byte :=
  be 1 s.radio.uplinkNumber ++ be 2 s.lineId ++ s.uplinkStatus ++ s.radio.uplinkSlot2

/-- The uplink frame of the blocks' current values, 48 bytes (R56, R196). -/
def State.uplinkFrame (s : State) : List Byte :=
  (if s.radio.uplinkNumber % 2 = 0 then [0x47, 0x9C] else [0xB8, 0x63]) ++ s.uplinkBody ++
  be 2 (crc16 s.uplinkBody).toNat ++ [0xFF]

/-- An uplink frame built: the oldest note leaves the queue and the frame number advances (R56). -/
def State.buildUplink (s : State) : State :=
  { s with
    radio := { s.radio with
      uplinkFrame := s.uplinkFrame
      uplinkNumber := (s.radio.uplinkNumber + 1) % 8
      notes := s.radio.notes.tail } }

end Sys2Proof.Machine
end

