-- ==== Sys2Proof/Machine/Reset.lean ====
section
/-! DEFINITION. The two resets: power-on and RESTART over all blocks, and the owners' evaluation of their conditions
after the Alert Set is cleared (R23, R38, R62, R80, R103, R126, R127, R141, R168, R180, R181, R192, R197). -/

namespace Sys2Proof.Machine

/-- After a clearing of the Alert Set each owner that evaluates at once sets the conditions that hold: the framer, then
the Odometry Unit (R180; assumption 23). The entrance conditions are set at the next cycle. -/
def State.evaluateOwners (s : State) : State := s.publishRadio.publishOdometry

/-- Every block at its power-on values; the commands that wait are kept (assumption 36). -/
def State.powerOnBlocks (strap1 strap2 : Bool) (s : State) : State where
  clock := ⟨0, 0, 0⟩
  odo := Odometry.powerOn
  line := LineStore.powerOn
  radio := Radio.powerOn
  route := Route.powerOn
  sup := Supervisor.powerOn
  brake := Brake.powerOn
  ent := Entrances.powerOn
  notice := Notice.powerOn
  link := Link.powerOn strap1 strap2
  cfg := ConfigRecord.powerOn
  configured := false
  pending := s.pending

/-- The power-on reset input (R127, R180). -/
def State.powerOn (strap1 strap2 : Bool) (s : State) : State := (s.powerOnBlocks strap1 strap2).evaluateOwners

/-- The Radio Framer after RESTART: as after power-on; the uplink frame being sent finishes as built (R56, R62). -/
def Radio.restarted (r : Radio) : Radio := { Radio.powerOn with uplinkFrame := r.uplinkFrame }

/-- The results shown for the latest pass after RESTART (R103). -/
def PassResults.restarted (p : PassResults) : PassResults :=
  { PassResults.powerOn with time := p.time, mode := .parked, dir := p.dir, speed := p.speed, front := p.front }

/-- The Supervisor after RESTART (R103, R126, R127). -/
def Supervisor.restarted (u : Supervisor) : Supervisor :=
  { u with
    mode := .parked
    modeBefore := none
    drive := ⟨.neutral, false, 64⟩
    level := .none
    stopPoint := none
    trip := none
    effort := .idle
    demands := ⟨64, .apply, .apply⟩
    testStep := 0
    pass := u.pass.restarted
    faultRecord := none
    faultSeen := false }

/-- A RESTART that is taken: the Radio Framer, the Route Store and the Supervisor take their values, the Alert Set is
cleared and the owners evaluate; every other block is unchanged (R126, R192). -/
def State.restartAll (s : State) : State :=
  State.evaluateOwners
    { s with
      radio := s.radio.restarted
      route := Route.powerOn
      sup := s.sup.restarted
      notice := s.notice.resetClear }

/-- RESTART (R126, R192). -/
def State.restart (s : State) : Result × State :=
  if s.sup.mode = .parked ∧ s.odo.standstill = true ∧ s.sup.testStep = 0 then (.done .nothing, s.restartAll)
  else (.refusedState, s)

end Sys2Proof.Machine
end

