-- ==== Sys2Proof/Machine/ControlLink.lean ====
section
/-! DEFINITION. The Control Link (chapter 10): the catalogue of requests, their judgement and dispatch, replies, the
reception of bytes, CONFIGURE and SWAP BANK over all blocks, and the frame around every command. -/

namespace Sys2Proof.Machine

/-! ## The catalogue (10 §10.4) -/

/-- The requests of the catalogue. -/
inductive Request where
  | setMode
  | driveState
  | releaseTrip
  | detectorTest
  | clearFaultRecord
  | readFaultRecord
  | readTripRecord
  | readLookahead
  | setPosition
  | readOdometry
  | readMarkerLog
  | loadHeader
  | loadSegment
  | checkBank
  | swapBank
  | readSegment
  | readBankState
  | readAuthority
  | readRestrictions
  | readRadio
  | clearRadioCounters
  | uplinkNote
  | entranceCommand
  | entranceIsolate
  | takeoverRequest
  | takeoverReturn
  | readEntrances
  | readAlerts
  | ackAlerts
  | readStatus
  | configure
  | readConfiguration
  | restart
  | identify
  deriving DecidableEq, Repr

/-- The KIND of a request (10 §10.4). -/
def Request.kind : Request → Byte
  | .setMode => 0x01
  | .driveState => 0x02
  | .releaseTrip => 0x03
  | .detectorTest => 0x04
  | .clearFaultRecord => 0x05
  | .readFaultRecord => 0x06
  | .readTripRecord => 0x07
  | .readLookahead => 0x08
  | .setPosition => 0x10
  | .readOdometry => 0x11
  | .readMarkerLog => 0x12
  | .loadHeader => 0x18
  | .loadSegment => 0x19
  | .checkBank => 0x1A
  | .swapBank => 0x1B
  | .readSegment => 0x1C
  | .readBankState => 0x1D
  | .readAuthority => 0x20
  | .readRestrictions => 0x21
  | .readRadio => 0x22
  | .clearRadioCounters => 0x23
  | .uplinkNote => 0x24
  | .entranceCommand => 0x28
  | .entranceIsolate => 0x29
  | .takeoverRequest => 0x2A
  | .takeoverReturn => 0x2B
  | .readEntrances => 0x2C
  | .readAlerts => 0x30
  | .ackAlerts => 0x31
  | .readStatus => 0x38
  | .configure => 0x39
  | .readConfiguration => 0x3A
  | .restart => 0x3B
  | .identify => 0x3C

/-- The payload length of a request; none for UPLINK NOTE, whose payload is its text (10 §10.4, R187). -/
def Request.length : Request → Option Nat
  | .setMode => some 1
  | .driveState => some 3
  | .setPosition => some 5
  | .loadHeader => some 6
  | .loadSegment => some 27
  | .readSegment => some 2
  | .readRestrictions => some 1
  | .uplinkNote => none
  | .entranceCommand => some 2
  | .entranceIsolate => some 2
  | .takeoverRequest => some 1
  | .takeoverReturn => some 1
  | .ackAlerts => some 3
  | .configure => some 76
  | _ => some 0

/-- The requests in the order of the catalogue. -/
def Request.all : List Request :=
  [.setMode, .driveState, .releaseTrip, .detectorTest, .clearFaultRecord, .readFaultRecord, .readTripRecord,
   .readLookahead, .setPosition, .readOdometry, .readMarkerLog, .loadHeader, .loadSegment, .checkBank, .swapBank,
   .readSegment, .readBankState] ++
  [.readAuthority, .readRestrictions, .readRadio, .clearRadioCounters, .uplinkNote, .entranceCommand,
   .entranceIsolate, .takeoverRequest, .takeoverReturn, .readEntrances, .readAlerts, .ackAlerts, .readStatus,
   .configure, .readConfiguration, .restart, .identify]

/-- The request that a KIND names (R187 test 1). -/
def requestOf (kind : Byte) : Option Request := Request.all.find? fun r => r.kind == kind

/-! ## SWAP BANK and CONFIGURE over the blocks (R30, R31, R189, R190, R198) -/

/-- Is SWAP BANK taken (R30)? -/
def State.swapAllowed (s : State) : Bool :=
  (s.sup.mode == .init || (s.sup.mode == .parked && s.odo.standstill)) && s.line.standbyBank.state == .checked

/-- The line id of a bank, if its header is loaded. -/
def Bank.lineId (b : Bank) : Option Nat := b.header.map fun h => h.lineId

/-- The line end of a bank; 0 with no header. -/
def Bank.lineEnd (b : Bank) : Nat :=
  match b.header with
  | none => 0
  | some h => h.lineEnd

/-- A SWAP BANK that is taken (R9, R30, R31, R77). -/
def State.swapBanks (s : State) : State :=
  let new := s.line.standbyBank
  let sameLine := match s.activeBank with
    | none => false
    | some old => old.lineId == new.lineId
  State.publishOdometry
    { s with
      line := s.line.swap
      odo := s.odo.swapped sameLine new.lineEnd
      route := s.route.newLineEnd new.lineEnd }

/-- SWAP BANK (R30). -/
def State.swapBank (s : State) : Result × State :=
  if s.swapAllowed then (.done .nothing, s.swapBanks) else (.refusedState, s)

/-- Does a CONFIGURE discard a pending capture: the reader offset, or the increment length or sign of the reference
counter, changes (R198)? The reference counter is that before the CONFIGURE (assumption 29). -/
def dropsCapture (old new : ConfigRecord) (ref : Counter) : Bool :=
  old.readerOffset != new.readerOffset || incrementOf old ref != incrementOf new ref || signOf old ref != signOf new ref

/-- Does a CONFIGURE restart the agreement span: an increment length or sign changes (R198)? -/
def restartsSpan (old new : ConfigRecord) : Bool :=
  old.lPin != new.lPin || old.lWhl != new.lWhl || old.pinSign != new.pinSign || old.whlSign != new.whlSign

/-- A CONFIGURE that is taken: the record and the configured flag, the Odometry Unit by R198, the radio state judged
against the new timeouts at once (R48, R190), its ALERT reports after those of the Odometry Unit (assumption 34). -/
def State.takeConfig (c : ConfigRecord) (s : State) : State :=
  let ref := s.reference
  let s1 := { s with
    cfg := c
    configured := true
    odo := { s.odo with capture := if dropsCapture s.cfg c ref then none else s.odo.capture } }
  let s2 := s1.afterPlacement
  let s3 := if restartsSpan s.cfg c || s2.reference != ref then s2.dropSpan else s2
  s3.publishOdometry.rejudgeRadio

/-- CONFIGURE of a coded record (R189, R190). -/
def State.configure (c : ConfigRecord) (s : State) : Result × State :=
  if s.sup.mode = .init ∨ (s.sup.mode = .parked ∧ s.odo.standstill = true) then
    match configBad c with
    | some n => (.badField n, s)
    | none => (.done .nothing, s.takeConfig c)
  else (.refusedState, s)

/-! ## SET POSITION and ACK ALERTS (R21, R173) -/

/-- SET POSITION (R21). -/
def State.setPosition (position u : Nat) (s : State) : Result × State :=
  if (s.sup.mode = .parked ∨ s.sup.mode = .shunt) ∧ s.odo.standstill = true then
    match s.lineEnd with
    | none => (.refusedState, s)
    | some e => if e < position then (.badField 1, s) else (.done .nothing, s.placeCar position u)
  else (.refusedState, s)

/-- ACK ALERTS of a set of kinds (R173). -/
def State.ackAlerts (kinds : BitVec 24) (s : State) : Result × State :=
  if 2 ^ 21 ≤ kinds.toNat then (.badField 1, s)
  else
    let n := s.notice.acknowledge kinds
    (.done (.latchedSet n.latchedSet), { s with notice := n })

/-! ## The judgement of requests (R187) -/

/-- SET MODE of a code (R106, 10 §10.7). -/
def State.setModeCode (code : Nat) (s : State) : Result × State :=
  if code = 1 then s.setMode .parked
  else if code = 2 then s.setMode .shunt
  else if code = 3 then s.setMode .line
  else (.badField 1, s)

/-- ENTRANCE COMMAND of a side and a command code (R155, R156); with both out of range field 1 is named (assumption 44). -/
def State.entranceCommand (side command : Nat) (s : State) : Result × State :=
  match sideOf side with
  | none => (.badField 1, s)
  | some d =>
    if command = 0 then s.openSide d
    else if command = 1 then s.closeSide d
    else (.badField 2, s)

/-- ENTRANCE ISOLATE of a leaf number and a code (R157, R158); with both out of range field 1 is named (assumption 44). -/
def State.entranceIsolate (leaf code : Nat) (s : State) : Result × State :=
  if h : leaf < 8 then
    if code = 0 then s.restoreLeaf ⟨leaf, h⟩
    else if code = 1 then s.isolateLeaf ⟨leaf, h⟩
    else (.badField 2, s)
  else (.badField 1, s)

/-- TAKEOVER REQUEST of a side code (R162). -/
def State.takeoverRequest (side : Nat) (s : State) : Result × State :=
  match sideOf side with
  | none => (.badField 1, s)
  | some d => s.requestTakeover d

/-- TAKEOVER RETURN of a side code (R164). -/
def State.takeoverReturn (side : Nat) (s : State) : Result × State :=
  match sideOf side with
  | none => (.badField 1, s)
  | some d => s.returnTakeover d

/-- READ RESTRICTIONS from a first index (R79). -/
def State.readRestrictions (first : Nat) (s : State) : Result :=
  if Config.restrictionList ≤ first then .badField 1 else .done (.restrictions (s.restrictionsReadout first))

/-- An answer of the Line Store with the store it leaves. -/
def State.withLine (s : State) (x : Result × LineStore) : Result × State := (x.1, { s with line := x.2 })

/-- A readout of the state, which changes nothing. -/
def State.readout (s : State) (r : Readout) : Result × State := (.done r, s)

/-- The owner's rule of each request, its payload of the right length (R187 test 3). -/
def State.perform (r : Request) (p : List Byte) (s : State) : Result × State :=
  match r with
  | .setMode => s.setModeCode (leAt p 0 1)
  | .driveState => s.setDrive (leAt p 0 1) (leAt p 1 1) (leAt p 2 1)
  | .releaseTrip => s.releaseTrip
  | .detectorTest => s.detectorTest
  | .clearFaultRecord => (.done .nothing, { s with sup := { s.sup with faultRecord := none, faultSeen := false } })
  | .readFaultRecord => s.readout (.faultRecord s.sup.faultRecord s.sup.faultSeen s.cfg.enables)
  | .readTripRecord => s.readout (.tripRecord s.sup.mode s.sup.trip)
  | .readLookahead => s.readout (.lookahead s.sup.pass)
  | .setPosition => s.setPosition (leAt p 0 3) (leAt p 3 2)
  | .readOdometry => s.readout (.odometry s.odometryReadout)
  | .readMarkerLog => s.readout (.markerLog s.odo.log s.odo.log.length)
  | .loadHeader => s.withLine (s.line.loadHeader (leAt p 0 2) (leAt p 2 1) (leAt p 3 3))
  | .loadSegment => s.withLine (s.line.loadSegment (segmentFieldsOf p))
  | .checkBank => s.withLine s.line.check
  | .swapBank => s.swapBank
  | .readSegment => (s.line.readSegment (leAt p 0 1) (leAt p 1 1), s)
  | .readBankState => s.readout (.bankState (s.line.bankReadout .a) (s.line.bankReadout .b))
  | .readAuthority => s.readout (.authority s.authorityReadout)
  | .readRestrictions => (s.readRestrictions (leAt p 0 1), s)
  | .readRadio => s.readout (.radio s.radioReadout)
  | .clearRadioCounters => (.done .nothing, { s with radio := s.radio.clearCounters })
  | .uplinkNote => ((s.radio.addNote p).1, { s with radio := (s.radio.addNote p).2 })
  | .entranceCommand => s.entranceCommand (leAt p 0 1) (leAt p 1 1)
  | .entranceIsolate => s.entranceIsolate (leAt p 0 1) (leAt p 1 1)
  | .takeoverRequest => s.takeoverRequest (leAt p 0 1)
  | .takeoverReturn => s.takeoverReturn (leAt p 0 1)
  | .readEntrances => s.readout (.entrances s.entrancesReadout)
  | .readAlerts => s.readout (.alerts s.alertsReadout)
  | .ackAlerts => s.ackAlerts (BitVec.ofNat 24 (leAt p 0 3))
  | .readStatus => s.readout (.bytes s.status)
  | .configure => s.configure (configOfBytes p)
  | .readConfiguration => s.readout (.bytes s.configReadout)
  | .restart => s.restart
  | .identify => s.readout (.bytes s.identity)

/-- Has a payload the length its request defines (R187 test 2)? -/
def Request.lengthOk (r : Request) (n : Nat) : Bool :=
  match r.length with
  | none => true
  | some k => n == k

/-- A dispatched frame judged and taken (R186, R187). -/
def State.judge (f : Frame) (s : State) : Result × State :=
  match requestOf f.kind with
  | none => (.unknownKind, s)
  | some r => if r.lengthOk f.payload.length then s.perform r f.payload else (.badField 0, s)

/-! ## Dispatch and replies (R186, R188) -/

/-- The reply to a frame: its KIND with the most significant bit set, its TAG (R188). -/
def replyTo (f : Frame) (r : Result) : Reply := ⟨f.kind ||| 0x80, f.tag, r⟩

/-- A frame answered: judged, taken, its reply waiting (R186). -/
def State.answer (f : Frame) (s : State) : State :=
  let x := s.judge f
  { x.2 with link := { x.2.link with waiting := some (replyTo f x.1) } }

/-- The link settled: a free transmitter handed on, then the oldest frame dispatched while no reply waits, at most `n`
frames (R179, R186; assumptions 4 and 12). -/
def State.settle : Nat → State → State
  | 0, s => s.grantTransmitter
  | n + 1, s =>
    let s1 := s.grantTransmitter
    match s1.link.waiting, s1.link.buffer with
    | none, f :: rest => State.settle n (State.answer f { s1 with link := { s1.link with buffer := rest } })
    | _, _ => s1

/-- The end of every command. -/
def State.finish (s : State) : State := s.settle s.link.buffer.length

/-! ## Reception (R183, R184, R185) -/

/-- A complete frame offered to the receive buffer (R185). -/
def State.offer (f : Frame) (s : State) : State :=
  if s.link.buffer.length < Config.receiveBuffer then
    { s with link := { s.link with buffer := s.link.buffer ++ [f] } }
  else s.raise .linkFrameBad

/-- The receiver in AWAIT_SYNC. -/
def State.awaitSync (s : State) : State := { s with link := { s.link with reception := .awaitSync } }

/-- A frame in progress discarded (R184). -/
def State.discardFrame (s : State) : State := s.awaitSync.raise .linkFrameBad

/-- The frame that whole frame bytes carry (R182). -/
def frameOf (b : List Byte) : Frame := ⟨byteAt b 2, byteAt b 3, (b.drop 4).dropLast.dropLast⟩

/-- Does the CRC of whole frame bytes match: over LENGTH through the last payload byte, low byte first (R182)? -/
def controlCrcOk (b : List Byte) : Bool :=
  (crc16 (slice b 1 (b.length - 3))).toNat == ofLe (b.drop (b.length - 2))

/-- The bytes that carry a frame: sync, LENGTH, KIND, TAG, payload and the CRC over LENGTH through the last payload byte,
low byte first (R182). -/
def frameBytes (f : Frame) : List Byte :=
  let covered := [BitVec.ofNat 8 f.payload.length, f.kind, f.tag] ++ f.payload
  [0x5A#8] ++ covered ++ le 2 (crc16 covered).toNat

/-- The bytes of a frame in progress with one more judged (R183, R184). -/
def State.judgeBytes (b : List Byte) (s : State) : State :=
  if b.length = 2 ∧ Config.maxPayload < (byteAt b 1).toNat then s.discardFrame
  else if b.length = 6 + (byteAt b 1).toNat then
    if controlCrcOk b then s.awaitSync.offer (frameOf b) else s.discardFrame
  else { s with link := { s.link with reception := .receiving b s.clock.now } }

/-- A byte tested in AWAIT_SYNC (R183). -/
def State.testSync (byte : Byte) (framingError : Bool) (s : State) : State :=
  if byte = 0x5A ∧ framingError = false then
    { s with link := { s.link with reception := .receiving [byte] s.clock.now } }
  else s

/-- Have `n` µs passed since the latest byte of a frame in progress? -/
def State.byteAge (s : State) (n : Nat) : Bool :=
  match s.link.reception with
  | .awaitSync => false
  | .receiving _ last => n ≤ Time.since s.clock.now last

/-- A byte received; more than 10 ms after the latest byte the timeout is taken first (R183, R184; assumption 27). -/
def State.receiveByte (byte : Byte) (framingError : Bool) (s : State) : State :=
  match s.link.reception with
  | .awaitSync => s.testSync byte framingError
  | .receiving b _ =>
    if s.byteAge (Config.byteTimeout + 1) then s.discardFrame.testSync byte framingError
    else if framingError then s.discardFrame
    else s.judgeBytes (b ++ [byte])

/-- The byte timeout, when it is due (R184; assumptions 5 and 27). -/
def State.byteTimeout (s : State) : State := if s.byteAge Config.byteTimeout then s.discardFrame else s

/-- The end of a frame's transmission (R179). -/
def State.transmissionEnd (s : State) : State := { s with link := { s.link with tx := none } }

/-! ## The frame around every command -/

/-- A command: the clock at its time, its effect, then the link settled (assumptions 1, 4, 12). -/
def State.run (t : Time) (f : State → State) (s : State) : State := (f (s.advance t)).finish

/-- A request: its frame offered to the receive buffer at its time (R185, R186; assumption 4). -/
def State.request (t : Time) (kind tag : Byte) (payload : List Byte) (s : State) : State :=
  s.run t (State.offer ⟨kind, tag, payload⟩)

end Sys2Proof.Machine
end

