-- ==== Sys2Proof/Machine/BrakeMeanings.lean ====
section
/-! DEFINITION. The meanings of the Brake Output Unit's events (chapter 7). -/

namespace Sys2Proof.Machine

/-- SLOT_PERIOD_START: the three channels take their slots (R128, R129, R135, R136, R139). -/
def execSlotPeriodStart (t : Time) (s : State) : Host.Outcome State Fault Refusal :=
  .next (s.run t State.slotPeriod)

/-- CHANNEL_IDLE: an idle channel's addressing becomes ABSOLUTE (R136; assumption 5). -/
def execChannelIdle (t : Time) (channel : Channel) (s : State) : Host.Outcome State Fault Refusal :=
  .next (s.run t (State.idleChannel channel))

/-- PATTERN_WRITE: the prepared write of a channel is delivered (R132, R133, R134, R137; assumption 10). -/
def execPatternWrite (t : Time) (channel : Channel) (s : State) : Host.Outcome State Fault Refusal :=
  .next (s.run t (State.patternWrite channel))

end Sys2Proof.Machine
end

