-- ==== Sys2Proof/Machine/EntranceMeanings.lean ====
section
/-! DEFINITION. The meanings of the Entrance Controller's events (chapter 8). -/

namespace Sys2Proof.Machine

/-- ENTRANCE_CYCLE: one whole cycle (R142). -/
def execEntranceCycle (t : Time) (inputs : Eight LeafInput) (s : State) : Host.Outcome State Fault Refusal :=
  .next (s.run t (State.entranceCycle inputs))

/-- UNLOCK_TIMEOUT: a leaf still proven locked 500 ms after its unlocking (R146; assumption 5). -/
def execUnlockTimeout (t : Time) (leaf : Fin 8) (s : State) : Host.Outcome State Fault Refusal :=
  .next (s.run t fun s => s.putLeaf leaf ((s.ent.leaves.get leaf).unlockTimeout s.clock.now))

/-- LOCK_TIMEOUT: a leaf in LOCKING not locked after 500 ms (R152; assumption 5). -/
def execLockTimeout (t : Time) (leaf : Fin 8) (s : State) : Host.Outcome State Fault Refusal :=
  .next (s.run t fun s => s.putLeaf leaf ((s.ent.leaves.get leaf).lockTimeout s.clock.now s.cfg.closedTol))

/-- WARNING_TIME_ELAPSED: a leaf's warning time has elapsed (R148; assumption 5). -/
def execWarningTimeElapsed (t : Time) (leaf : Fin 8) (s : State) : Host.Outcome State Fault Refusal :=
  .next (s.run t fun s => s.putLeaf leaf ((s.ent.leaves.get leaf).warningElapsed s.clock.now s.cfg.warningTime))

/-- REOPEN_PAUSE_ELAPSED: a reopening leaf has rested 1 s (R150; assumption 5). -/
def execReopenPauseElapsed (t : Time) (leaf : Fin 8) (s : State) : Host.Outcome State Fault Refusal :=
  .next (s.run t fun s => s.putLeaf leaf ((s.ent.leaves.get leaf).pauseElapsed s.clock.now))

/-- STALL_WINDOW_END: a closing leaf's stall window ends (R149, R150; assumption 5). -/
def execStallWindowEnd (t : Time) (leaf : Fin 8) (s : State) : Host.Outcome State Fault Refusal :=
  .next (s.run t fun s => s.putLeaf leaf ((s.ent.leaves.get leaf).stallEnd s.clock.now s.cfg))

end Sys2Proof.Machine
end

