-- ==== Sys2Proof/Machine/LinkMeanings.lean ====
section
/-! DEFINITION. The meanings of the Control Link's events (chapter 10). -/

namespace Sys2Proof.Machine

/-- CONTROL_BYTE_RECEIVED: a byte of the control link (R183, R184, R185). -/
def execControlByteReceived (t : Time) (byte : Byte) (framingError : Bool) (s : State) : Host.Outcome State Fault Refusal :=
  .next (s.run t (State.receiveByte byte framingError))

/-- BYTE_TIMEOUT: the 10 ms after a byte of a frame have passed (R184; assumptions 5 and 27). -/
def execByteTimeout (t : Time) (s : State) : Host.Outcome State Fault Refusal :=
  .next (s.run t State.byteTimeout)

/-- TRANSMISSION_END: the frame in transmission ends and the transmitter is handed on (R179, R186). -/
def execTransmissionEnd (t : Time) (s : State) : Host.Outcome State Fault Refusal :=
  .next (s.run t State.transmissionEnd)

end Sys2Proof.Machine
end

