-- ==== Sys2Proof/Machine/OdometryMeanings.lean ====
section
/-! DEFINITION. The meanings of POWER_ON and of the Odometry Unit's events (chapter 1). -/

namespace Sys2Proof.Machine

/-- POWER_ON: every block at its power-on values, RADIO_LOST latched at once (R127, R180, R182). -/
def execPowerOn (strap1 strap2 : Bool) (s : State) : Host.Outcome State Fault Refusal :=
  .next (s.powerOn strap1 strap2).finish

/-- INCREMENT: one edge of a quadrature input (R1, R2, R3, R6, R8, R10, R11, R14, R18, R19, R20). -/
def execIncrement (t : Time) (input : Counter) (edge : Edge) (s : State) : Host.Outcome State Fault Refusal :=
  .next (s.run t (State.increment input edge))

/-- AGREEMENT_SPAN_COMPLETE: the comparison of a complete agreement span (R18); nothing when none is complete (assumption 5). -/
def execAgreementSpanComplete (t : Time) (s : State) : Host.Outcome State Fault Refusal :=
  .next (s.run t fun s => if s.spanComplete then s.compareSpan else s)

/-- RING_ENTRY_STALE: the entries of both rings that have reached the age 2,000,000 µs are marked (R3; assumption 5). -/
def execRingEntryStale (t : Time) (s : State) : Host.Outcome State Fault Refusal :=
  .next (s.run t fun s => { s with odo := s.odo.markStale s.clock.now })

/-- STANDSTILL_DECLARED: standstill by step 3 of R4, when it holds (R4, R5, R6; assumption 5). -/
def execStandstillDeclared (t : Time) (s : State) : Host.Outcome State Fault Refusal :=
  .next (s.run t State.declareStandstill)

/-- MARKER_DETECTOR_EDGE: a capture, a rejection or nothing (R13, R16). -/
def execMarkerDetectorEdge (t : Time) (s : State) : Host.Outcome State Fault Refusal :=
  .next (s.run t State.markerEdge)

/-- MATCH_COMPLETION: the pending capture resolved (R15, R16, R17). -/
def execMatchCompletion (t : Time) (s : State) : Host.Outcome State Fault Refusal :=
  .next (s.run t State.completeMatch)

end Sys2Proof.Machine
end

