-- ==== Sys2Proof/Machine/RadioMeanings.lean ====
section
/-! DEFINITION. The meanings of the Radio Framer's and the Route Store's events (chapters 3 and 4). -/

namespace Sys2Proof.Machine

/-- HUNT_FIND: downlink bits received, of which the last is to make a find (R41; assumption 8). -/
def execHuntFind (t : Time) (bits : List Bool) (s : State) : Host.Outcome State Fault Refusal :=
  .next (s.run t fun s => s.receiveBits s.clock.localMs bits)

/-- FRAME_COMPLETION: downlink bits received, of which the last completes a frame; `captured` is the time of the last bit
of the alignment word (R39, R42, R43, R45 to R47; assumption 8). -/
def execFrameCompletion (t captured : Time) (bits : List Bool) (s : State) : Host.Outcome State Fault Refusal :=
  .next (s.run t fun s => s.receiveBits (s.clock.msAt captured) bits)

/-- BLANK_SPAN_END: downlink bits received, of which the last ends a span in HUNT (R44; assumption 8). -/
def execBlankSpanEnd (t : Time) (bits : List Bool) (s : State) : Host.Outcome State Fault Refusal :=
  .next (s.run t fun s => s.receiveBits s.clock.localMs bits)

/-- SEARCH_POINT_ADVANCE: one downlink bit received (R41; assumption 8). -/
def execSearchPointAdvance (t : Time) (bit : Bool) (s : State) : Host.Outcome State Fault Refusal :=
  .next (s.run t fun s => s.receiveBit s.clock.localMs bit)

/-- LOCAL_MS_ADVANCE: the radio timeouts and the record expiries tested (R48, R51, R64; assumption 34). -/
def execLocalMsAdvance (t : Time) (s : State) : Host.Outcome State Fault Refusal :=
  .next (s.run t fun s => s.freezeRadio.loseRadio.ageRecords)

/-- T_FREEZE_EXPIRY: the age of the last good settled frame has reached t_freeze (R48; assumption 5). -/
def execTFreezeExpiry (t : Time) (s : State) : Host.Outcome State Fault Refusal :=
  .next (s.run t State.freezeRadio)

/-- T_LOST_EXPIRY: the age of the last good settled frame has reached t_lost (R48, R50; assumption 5). -/
def execTLostExpiry (t : Time) (s : State) : Host.Outcome State Fault Refusal :=
  .next (s.run t State.loseRadio)

/-- AUTHORITY_EXPIRY: the authority's expiry is reached (R64, R68; assumption 5). -/
def execAuthorityExpiry (t : Time) (s : State) : Host.Outcome State Fault Refusal :=
  .next (s.run t State.expireAuthority)

/-- RESTRICTION_EXPIRY: a restriction's expiry is reached (R64, R75; assumption 5). -/
def execRestrictionExpiry (t : Time) (s : State) : Host.Outcome State Fault Refusal :=
  .next (s.run t State.expireRestrictions)

/-- UPLINK_FRAME_BUILD: an uplink frame built from the blocks' current values (R56, R196). -/
def execUplinkFrameBuild (t : Time) (s : State) : Host.Outcome State Fault Refusal :=
  .next (s.run t State.buildUplink)

end Sys2Proof.Machine
end

