-- ==== Sys2Proof/Machine/RequestMeanings.lean ====
section
/-! DEFINITION. The meanings of the requests: each offers its frame, of the KIND and payload of 10 §10.4 and §10.7, to the receive
buffer, from which R186 dispatches it (assumption 4). -/

namespace Sys2Proof.Machine

/-- A request frame whose KIND names no request is replied UNKNOWN_KIND (R187). -/
def execUnknownKind (t : Time) (tag : Byte) (kind : Byte) (payload : List Byte) (s : State) : Host.Outcome State Fault Refusal :=
  .next (s.request t kind tag payload)

/-- SET MODE with PARKED (R106, R107). -/
def execSetModeParked (t : Time) (tag : Byte) (s : State) : Host.Outcome State Fault Refusal :=
  .next (s.request t Request.setMode.kind tag (le 1 1))

/-- SET MODE with SHUNT (R106, R107). -/
def execSetModeShunt (t : Time) (tag : Byte) (s : State) : Host.Outcome State Fault Refusal :=
  .next (s.request t Request.setMode.kind tag (le 1 2))

/-- SET MODE with LINE (R106, R107). -/
def execSetModeLine (t : Time) (tag : Byte) (s : State) : Host.Outcome State Fault Refusal :=
  .next (s.request t Request.setMode.kind tag (le 1 3))

/-- DRIVE STATE (R108). -/
def execDriveState (t : Time) (tag selector traction brake : Byte) (s : State) : Host.Outcome State Fault Refusal :=
  .next (s.request t Request.driveState.kind tag [selector, traction, brake])

/-- RELEASE TRIP (R117). -/
def execReleaseTrip (t : Time) (tag : Byte) (s : State) : Host.Outcome State Fault Refusal :=
  .next (s.request t Request.releaseTrip.kind tag [])

/-- DETECTOR TEST (R124, R174). -/
def execDetectorTest (t : Time) (tag : Byte) (s : State) : Host.Outcome State Fault Refusal :=
  .next (s.request t Request.detectorTest.kind tag [])

/-- CLEAR FAULT RECORD (R100). -/
def execClearFaultRecord (t : Time) (tag : Byte) (s : State) : Host.Outcome State Fault Refusal :=
  .next (s.request t Request.clearFaultRecord.kind tag [])

/-- READ FAULT RECORD (R101). -/
def execReadFaultRecord (t : Time) (tag : Byte) (s : State) : Host.Outcome State Fault Refusal :=
  .next (s.request t Request.readFaultRecord.kind tag [])

/-- READ TRIP RECORD (R118). -/
def execReadTripRecord (t : Time) (tag : Byte) (s : State) : Host.Outcome State Fault Refusal :=
  .next (s.request t Request.readTripRecord.kind tag [])

/-- READ LOOKAHEAD (R102). -/
def execReadLookahead (t : Time) (tag : Byte) (s : State) : Host.Outcome State Fault Refusal :=
  .next (s.request t Request.readLookahead.kind tag [])

/-- SET POSITION (R21). -/
def execSetPosition (t : Time) (tag : Byte) (position : BitVec 24) (uncertainty : BitVec 16) (s : State) : Host.Outcome State Fault Refusal :=
  .next (s.request t Request.setPosition.kind tag (le 3 position.toNat ++ le 2 uncertainty.toNat))

/-- READ ODOMETRY (R22). -/
def execReadOdometry (t : Time) (tag : Byte) (s : State) : Host.Outcome State Fault Refusal :=
  .next (s.request t Request.readOdometry.kind tag [])

/-- READ MARKER LOG (R17). -/
def execReadMarkerLog (t : Time) (tag : Byte) (s : State) : Host.Outcome State Fault Refusal :=
  .next (s.request t Request.readMarkerLog.kind tag [])

/-- LOAD HEADER (R25, R27). -/
def execLoadHeader (t : Time) (tag : Byte) (lineId : BitVec 16) (count : Byte) (lineEnd : BitVec 24) (s : State) : Host.Outcome State Fault Refusal :=
  .next (s.request t Request.loadHeader.kind tag (le 2 lineId.toNat ++ [count] ++ le 3 lineEnd.toNat))

/-- LOAD SEGMENT (R26, R27). -/
def execLoadSegment (t : Time) (tag : Byte) (fields : SegmentFields) (s : State) : Host.Outcome State Fault Refusal :=
  .next (s.request t Request.loadSegment.kind tag (segmentFieldBytes fields))

/-- CHECK BANK (R28, R29). -/
def execCheckBank (t : Time) (tag : Byte) (s : State) : Host.Outcome State Fault Refusal :=
  .next (s.request t Request.checkBank.kind tag [])

/-- SWAP BANK (R9, R30, R31, R77). -/
def execSwapBank (t : Time) (tag : Byte) (s : State) : Host.Outcome State Fault Refusal :=
  .next (s.request t Request.swapBank.kind tag [])

/-- READ SEGMENT (R36). -/
def execReadSegment (t : Time) (tag bank index : Byte) (s : State) : Host.Outcome State Fault Refusal :=
  .next (s.request t Request.readSegment.kind tag [bank, index])

/-- READ BANK STATE (R37). -/
def execReadBankState (t : Time) (tag : Byte) (s : State) : Host.Outcome State Fault Refusal :=
  .next (s.request t Request.readBankState.kind tag [])

/-- READ AUTHORITY (R78). -/
def execReadAuthority (t : Time) (tag : Byte) (s : State) : Host.Outcome State Fault Refusal :=
  .next (s.request t Request.readAuthority.kind tag [])

/-- READ RESTRICTIONS (R79). -/
def execReadRestrictions (t : Time) (tag first : Byte) (s : State) : Host.Outcome State Fault Refusal :=
  .next (s.request t Request.readRestrictions.kind tag [first])

/-- READ RADIO (R61). -/
def execReadRadio (t : Time) (tag : Byte) (s : State) : Host.Outcome State Fault Refusal :=
  .next (s.request t Request.readRadio.kind tag [])

/-- CLEAR RADIO COUNTERS (R45). -/
def execClearRadioCounters (t : Time) (tag : Byte) (s : State) : Host.Outcome State Fault Refusal :=
  .next (s.request t Request.clearRadioCounters.kind tag [])

/-- UPLINK NOTE (R57). -/
def execUplinkNote (t : Time) (tag : Byte) (text : List Byte) (s : State) : Host.Outcome State Fault Refusal :=
  .next (s.request t Request.uplinkNote.kind tag text)

/-- ENTRANCE COMMAND with OPEN (R155). -/
def execEntranceOpen (t : Time) (tag side : Byte) (s : State) : Host.Outcome State Fault Refusal :=
  .next (s.request t Request.entranceCommand.kind tag [side, 0])

/-- ENTRANCE COMMAND with CLOSE (R156). -/
def execEntranceClose (t : Time) (tag side : Byte) (s : State) : Host.Outcome State Fault Refusal :=
  .next (s.request t Request.entranceCommand.kind tag [side, 1])

/-- ENTRANCE ISOLATE with ON (R157). -/
def execIsolateOn (t : Time) (tag leaf : Byte) (s : State) : Host.Outcome State Fault Refusal :=
  .next (s.request t Request.entranceIsolate.kind tag [leaf, 1])

/-- ENTRANCE ISOLATE with OFF (R158). -/
def execIsolateOff (t : Time) (tag leaf : Byte) (s : State) : Host.Outcome State Fault Refusal :=
  .next (s.request t Request.entranceIsolate.kind tag [leaf, 0])

/-- TAKEOVER REQUEST (R162). -/
def execTakeoverRequest (t : Time) (tag side : Byte) (s : State) : Host.Outcome State Fault Refusal :=
  .next (s.request t Request.takeoverRequest.kind tag [side])

/-- TAKEOVER RETURN (R164). -/
def execTakeoverReturn (t : Time) (tag side : Byte) (s : State) : Host.Outcome State Fault Refusal :=
  .next (s.request t Request.takeoverReturn.kind tag [side])

/-- READ ENTRANCES (R166). -/
def execReadEntrances (t : Time) (tag : Byte) (s : State) : Host.Outcome State Fault Refusal :=
  .next (s.request t Request.readEntrances.kind tag [])

/-- READ ALERTS (R177). -/
def execReadAlerts (t : Time) (tag : Byte) (s : State) : Host.Outcome State Fault Refusal :=
  .next (s.request t Request.readAlerts.kind tag [])

/-- ACK ALERTS (R173). -/
def execAckAlerts (t : Time) (tag : Byte) (kinds : BitVec 24) (s : State) : Host.Outcome State Fault Refusal :=
  .next (s.request t Request.ackAlerts.kind tag (le 3 kinds.toNat))

/-- READ STATUS (R194). -/
def execReadStatus (t : Time) (tag : Byte) (s : State) : Host.Outcome State Fault Refusal :=
  .next (s.request t Request.readStatus.kind tag [])

/-- CONFIGURE (R189, R190, R198, R199). -/
def execConfigure (t : Time) (tag : Byte) (record : ConfigRecord) (s : State) : Host.Outcome State Fault Refusal :=
  .next (s.request t Request.configure.kind tag (configBytes record))

/-- READ CONFIGURATION (R191). -/
def execReadConfiguration (t : Time) (tag : Byte) (s : State) : Host.Outcome State Fault Refusal :=
  .next (s.request t Request.readConfiguration.kind tag [])

/-- RESTART (R126, R192). -/
def execRestart (t : Time) (tag : Byte) (s : State) : Host.Outcome State Fault Refusal :=
  .next (s.request t Request.restart.kind tag [])

/-- IDENTIFY (R193). -/
def execIdentify (t : Time) (tag : Byte) (s : State) : Host.Outcome State Fault Refusal :=
  .next (s.request t Request.identify.kind tag [])

end Sys2Proof.Machine
end

