-- ==== Sys2Proof/Machine/SupervisorMeanings.lean ====
section
/-! DEFINITION. The meanings of the Supervisor's events (chapters 5 and 6). -/

namespace Sys2Proof.Machine

/-- SUPERVISION_PASS: one whole pass (R104). -/
def execSupervisionPass (t : Time) (s : State) : Host.Outcome State Fault Refusal :=
  .next (s.run t State.supervisionPass)

/-- EFFORT_WINDOW_JUDGEMENT: the pass that judges the effort window (R119, R120); nothing when no judgement is due
(assumption 6). -/
def execEffortWindowJudgement (t : Time) (s : State) : Host.Outcome State Fault Refusal :=
  .next (s.run t fun s => if s.judgementDue then s.supervisionPass else s)

end Sys2Proof.Machine
end

