-- ==== Sys2Proof/Machine/Dispatch.lean ====
section
/-! DEFINITION. One arm for each command: one direct call of its meaning. -/

namespace Sys2Proof.Machine

/-- The meaning of each command. -/
def exec (i : Instr) (s : State) : Host.Outcome State Fault Refusal :=
  match i with
  | .powerOn strap1 strap2 => Sys2Proof.Machine.execPowerOn strap1 strap2 s
  | .increment t input edge => Sys2Proof.Machine.execIncrement t input edge s
  | .agreementSpanComplete t => Sys2Proof.Machine.execAgreementSpanComplete t s
  | .ringEntryStale t => Sys2Proof.Machine.execRingEntryStale t s
  | .standstillDeclared t => Sys2Proof.Machine.execStandstillDeclared t s
  | .markerDetectorEdge t => Sys2Proof.Machine.execMarkerDetectorEdge t s
  | .matchCompletion t => Sys2Proof.Machine.execMatchCompletion t s
  | .supervisionPass t => Sys2Proof.Machine.execSupervisionPass t s
  | .effortWindowJudgement t => Sys2Proof.Machine.execEffortWindowJudgement t s
  | .slotPeriodStart t => Sys2Proof.Machine.execSlotPeriodStart t s
  | .channelIdle t channel => Sys2Proof.Machine.execChannelIdle t channel s
  | .patternWrite t channel => Sys2Proof.Machine.execPatternWrite t channel s
  | .huntFind t bits => Sys2Proof.Machine.execHuntFind t bits s
  | .frameCompletion t captured bits => Sys2Proof.Machine.execFrameCompletion t captured bits s
  | .blankSpanEnd t bits => Sys2Proof.Machine.execBlankSpanEnd t bits s
  | .localMsAdvance t => Sys2Proof.Machine.execLocalMsAdvance t s
  | .tFreezeExpiry t => Sys2Proof.Machine.execTFreezeExpiry t s
  | .tLostExpiry t => Sys2Proof.Machine.execTLostExpiry t s
  | .authorityExpiry t => Sys2Proof.Machine.execAuthorityExpiry t s
  | .restrictionExpiry t => Sys2Proof.Machine.execRestrictionExpiry t s
  | .uplinkFrameBuild t => Sys2Proof.Machine.execUplinkFrameBuild t s
  | .entranceCycle t inputs => Sys2Proof.Machine.execEntranceCycle t inputs s
  | .unlockTimeout t leaf => Sys2Proof.Machine.execUnlockTimeout t leaf s
  | .lockTimeout t leaf => Sys2Proof.Machine.execLockTimeout t leaf s
  | .warningTimeElapsed t leaf => Sys2Proof.Machine.execWarningTimeElapsed t leaf s
  | .reopenPauseElapsed t leaf => Sys2Proof.Machine.execReopenPauseElapsed t leaf s
  | .stallWindowEnd t leaf => Sys2Proof.Machine.execStallWindowEnd t leaf s
  | .controlByteReceived t byte framingError => Sys2Proof.Machine.execControlByteReceived t byte framingError s
  | .byteTimeout t => Sys2Proof.Machine.execByteTimeout t s
  | .transmissionEnd t => Sys2Proof.Machine.execTransmissionEnd t s
  | .unknownKind t tag kind payload => Sys2Proof.Machine.execUnknownKind t tag kind payload s
  | .setModeParked t tag => Sys2Proof.Machine.execSetModeParked t tag s
  | .setModeShunt t tag => Sys2Proof.Machine.execSetModeShunt t tag s
  | .setModeLine t tag => Sys2Proof.Machine.execSetModeLine t tag s
  | .driveState t tag selector traction brake => Sys2Proof.Machine.execDriveState t tag selector traction brake s
  | .releaseTrip t tag => Sys2Proof.Machine.execReleaseTrip t tag s
  | .detectorTest t tag => Sys2Proof.Machine.execDetectorTest t tag s
  | .clearFaultRecord t tag => Sys2Proof.Machine.execClearFaultRecord t tag s
  | .readFaultRecord t tag => Sys2Proof.Machine.execReadFaultRecord t tag s
  | .readTripRecord t tag => Sys2Proof.Machine.execReadTripRecord t tag s
  | .readLookahead t tag => Sys2Proof.Machine.execReadLookahead t tag s
  | .setPosition t tag position uncertainty => Sys2Proof.Machine.execSetPosition t tag position uncertainty s
  | .readOdometry t tag => Sys2Proof.Machine.execReadOdometry t tag s
  | .readMarkerLog t tag => Sys2Proof.Machine.execReadMarkerLog t tag s
  | .loadHeader t tag lineId count lineEnd => Sys2Proof.Machine.execLoadHeader t tag lineId count lineEnd s
  | .loadSegment t tag fields => Sys2Proof.Machine.execLoadSegment t tag fields s
  | .checkBank t tag => Sys2Proof.Machine.execCheckBank t tag s
  | .swapBank t tag => Sys2Proof.Machine.execSwapBank t tag s
  | .readSegment t tag bank index => Sys2Proof.Machine.execReadSegment t tag bank index s
  | .readBankState t tag => Sys2Proof.Machine.execReadBankState t tag s
  | .readAuthority t tag => Sys2Proof.Machine.execReadAuthority t tag s
  | .readRestrictions t tag first => Sys2Proof.Machine.execReadRestrictions t tag first s
  | .readRadio t tag => Sys2Proof.Machine.execReadRadio t tag s
  | .clearRadioCounters t tag => Sys2Proof.Machine.execClearRadioCounters t tag s
  | .uplinkNote t tag text => Sys2Proof.Machine.execUplinkNote t tag text s
  | .entranceOpen t tag side => Sys2Proof.Machine.execEntranceOpen t tag side s
  | .entranceClose t tag side => Sys2Proof.Machine.execEntranceClose t tag side s
  | .isolateOn t tag leaf => Sys2Proof.Machine.execIsolateOn t tag leaf s
  | .isolateOff t tag leaf => Sys2Proof.Machine.execIsolateOff t tag leaf s
  | .takeoverRequest t tag side => Sys2Proof.Machine.execTakeoverRequest t tag side s
  | .takeoverReturn t tag side => Sys2Proof.Machine.execTakeoverReturn t tag side s
  | .readEntrances t tag => Sys2Proof.Machine.execReadEntrances t tag s
  | .readAlerts t tag => Sys2Proof.Machine.execReadAlerts t tag s
  | .ackAlerts t tag kinds => Sys2Proof.Machine.execAckAlerts t tag kinds s
  | .readStatus t tag => Sys2Proof.Machine.execReadStatus t tag s
  | .configure t tag record => Sys2Proof.Machine.execConfigure t tag record s
  | .readConfiguration t tag => Sys2Proof.Machine.execReadConfiguration t tag s
  | .restart t tag => Sys2Proof.Machine.execRestart t tag s
  | .identify t tag => Sys2Proof.Machine.execIdentify t tag s
  | .searchPointAdvance t bit => Sys2Proof.Machine.execSearchPointAdvance t bit s

end Sys2Proof.Machine
end

