-- ==== Sys2Proof/Machine/Transmission.lean ====
section
/-! DEFINITION. The control frames that the part sends, byte by byte: result codes, report KINDs, reply and report
payloads, and what the line carries while the transmitter sends (R182, R188, R195). The transmitter holds the reply or
the report it sends; its bytes are computed from it here, as the attention line is from the alerts. -/

namespace Sys2Proof

/-! ## Contents whose layout the spec does not state -/

/-- FREE VALUE: the bytes of a readout or outcome whose layout no rule and no table of 10 §10.7 states (assumption 24). -/
opaque Config.readoutBytes : Machine.Readout → List Byte

/-- FREE VALUE: the bytes of a report's contents, whose layout no rule states (assumption 24). -/
opaque Config.contentBytes : Machine.ReportBody → List Byte

end Sys2Proof

namespace Sys2Proof.Machine

/-! ## Replies (R187, R188) -/

/-- The code of a result (R195). -/
def Result.code : Result → Nat
  | .done _ => 0
  | .accepted => 1
  | .refusedState => 2
  | .badField _ => 3
  | .full => 4
  | .unknownKind => 5

/-- The bytes of a readout or outcome: those that 10 §10.7 or a rule lays out, an alert set's 3 bytes (R195), else free
bytes that fit the payload beside the result code. -/
def Readout.wire : Readout → List Byte
  | .nothing => []
  | .bytes data => data
  | .latchedSet kinds => le 3 kinds.toNat
  | r => (Config.readoutBytes r).take (Config.maxPayload - 1)

/-- What follows the result code: the readout of DONE, the field number of BAD_FIELD in one byte (assumption 58), else
nothing (R188). -/
def Result.rest : Result → List Byte
  | .done r => r.wire
  | .badField n => le 1 n
  | _ => []

/-- The payload of a reply: the result code and what follows it (R188). -/
def Result.payload (r : Result) : List Byte := le 1 r.code ++ r.rest

/-! ## Reports (R188) -/

/-- The KIND of a report (R195). -/
def ReportBody.kind : ReportBody → Byte
  | .alert _ _ _ _ => 0x40
  | .modeChange _ _ _ => 0x41
  | .intervention _ _ _ _ => 0x42
  | .entrance _ _ _ => 0x43
  | .release _ _ => 0x44
  | .takeover _ _ => 0x45
  | .marker _ _ => 0x46
  | .authority _ _ _ => 0x47
  | .crewNotice _ => 0x48

/-- The payload of a report: its posting time, its gap mark and its contents, free bytes that fit beside them (R188). -/
def Report.payload (r : Report) : List Byte :=
  le 4 r.time.toNat ++ le 1 r.gap ++ (Config.contentBytes r.body).take (Config.maxPayload - 5)

/-! ## The frame on the line (R182) -/

/-- The control frame that carries a reply or a report: a reply's KIND and echoed TAG, a report's KIND with its number in the
TAG byte (R188). -/
def TxFrame.frame : TxFrame → Frame
  | .reply r => ⟨r.kind, r.tag, r.result.payload⟩
  | .report r => ⟨r.body.kind, r.number, r.payload⟩

/-- The bytes of a frame the part sends, back to back (R182). -/
def TxFrame.wire (x : TxFrame) : List Byte := frameBytes x.frame

/-- What the control link line carries: the bytes of the frame in transmission, none while the transmitter is idle. -/
def State.lineBytes (s : State) : List Byte :=
  match s.link.tx with
  | none => []
  | some x => x.wire

end Sys2Proof.Machine
end

