-- ==== Sys2Proof/Safety.lean ====
section
/-! DEFINITION. What counts as a safe run of the part, in the terms that claims use: the link ready for a request, a
reply given, the frame of each request command, and the invariants of each block that every step keeps. -/

namespace Sys2Proof.Machine

/-! ## The link around a request (R179, R185, R186) -/

/-- The control link is ready: no frame and no reply waits, and a transmitter that is idle has no report to take. -/
abbrev State.linkReady (s : State) : Prop :=
  s.link.buffer = [] ∧ s.link.waiting = none ∧ (s.link.tx = none → s.notice.queue = [])

/-- A transmission runs and a reply waits, so no request is dispatched (R186). -/
abbrev State.linkHeld (s : State) : Prop := s.link.waiting.isSome = true ∧ s.link.tx.isSome = true

/-- The state with the reply to a request given: it waits, or goes out at once on an idle transmitter (R179, R188). -/
def State.replied (kind tag : Byte) (r : Result) (s : State) : State :=
  State.grantTransmitter { s with link := { s.link with waiting := some ⟨kind ||| 0x80#8, tag, r⟩ } }

/-- The time and the frame of a request command (10 §10.4, §10.7); none for a command that is no request. -/
def requestFrame (c : Instr) : Option (Time × Frame) :=
  match c with
  | .unknownKind t tag kind payload => some (t, ⟨kind, tag, payload⟩)
  | .setModeParked t tag => some (t, ⟨0x01, tag, [1]⟩)
  | .setModeShunt t tag => some (t, ⟨0x01, tag, [2]⟩)
  | .setModeLine t tag => some (t, ⟨0x01, tag, [3]⟩)
  | .driveState t tag selector traction brake => some (t, ⟨0x02, tag, [selector, traction, brake]⟩)
  | .releaseTrip t tag => some (t, ⟨0x03, tag, []⟩)
  | .detectorTest t tag => some (t, ⟨0x04, tag, []⟩)
  | .clearFaultRecord t tag => some (t, ⟨0x05, tag, []⟩)
  | .readFaultRecord t tag => some (t, ⟨0x06, tag, []⟩)
  | .readTripRecord t tag => some (t, ⟨0x07, tag, []⟩)
  | .readLookahead t tag => some (t, ⟨0x08, tag, []⟩)
  | .setPosition t tag position uncertainty =>
    some (t, ⟨0x10, tag, le 3 position.toNat ++ le 2 uncertainty.toNat⟩)
  | .readOdometry t tag => some (t, ⟨0x11, tag, []⟩)
  | .readMarkerLog t tag => some (t, ⟨0x12, tag, []⟩)
  | .loadHeader t tag lineId count lineEnd =>
    some (t, ⟨0x18, tag, le 2 lineId.toNat ++ [count] ++ le 3 lineEnd.toNat⟩)
  | .loadSegment t tag fields => some (t, ⟨0x19, tag, segmentFieldBytes fields⟩)
  | .checkBank t tag => some (t, ⟨0x1A, tag, []⟩)
  | .swapBank t tag => some (t, ⟨0x1B, tag, []⟩)
  | .readSegment t tag bank index => some (t, ⟨0x1C, tag, [bank, index]⟩)
  | .readBankState t tag => some (t, ⟨0x1D, tag, []⟩)
  | .readAuthority t tag => some (t, ⟨0x20, tag, []⟩)
  | .readRestrictions t tag first => some (t, ⟨0x21, tag, [first]⟩)
  | .readRadio t tag => some (t, ⟨0x22, tag, []⟩)
  | .clearRadioCounters t tag => some (t, ⟨0x23, tag, []⟩)
  | .uplinkNote t tag text => some (t, ⟨0x24, tag, text⟩)
  | .entranceOpen t tag side => some (t, ⟨0x28, tag, [side, 0]⟩)
  | .entranceClose t tag side => some (t, ⟨0x28, tag, [side, 1]⟩)
  | .isolateOff t tag leaf => some (t, ⟨0x29, tag, [leaf, 0]⟩)
  | .isolateOn t tag leaf => some (t, ⟨0x29, tag, [leaf, 1]⟩)
  | .takeoverRequest t tag side => some (t, ⟨0x2A, tag, [side]⟩)
  | .takeoverReturn t tag side => some (t, ⟨0x2B, tag, [side]⟩)
  | .readEntrances t tag => some (t, ⟨0x2C, tag, []⟩)
  | .readAlerts t tag => some (t, ⟨0x30, tag, []⟩)
  | .ackAlerts t tag kinds => some (t, ⟨0x31, tag, le 3 kinds.toNat⟩)
  | .readStatus t tag => some (t, ⟨0x38, tag, []⟩)
  | .configure t tag record => some (t, ⟨0x39, tag, configBytes record⟩)
  | .readConfiguration t tag => some (t, ⟨0x3A, tag, []⟩)
  | .restart t tag => some (t, ⟨0x3B, tag, []⟩)
  | .identify t tag => some (t, ⟨0x3C, tag, []⟩)
  | .powerOn _ _ | .increment _ _ _ | .agreementSpanComplete _ | .ringEntryStale _ | .standstillDeclared _
  | .markerDetectorEdge _ | .matchCompletion _ | .supervisionPass _ | .effortWindowJudgement _ | .slotPeriodStart _
  | .channelIdle _ _ | .patternWrite _ _ | .huntFind _ _ | .frameCompletion _ _ _ | .blankSpanEnd _ _
  | .localMsAdvance _ | .tFreezeExpiry _ | .tLostExpiry _ | .authorityExpiry _ | .restrictionExpiry _
  | .uplinkFrameBuild _ | .entranceCycle _ _ | .unlockTimeout _ _ | .lockTimeout _ _ | .warningTimeElapsed _ _
  | .reopenPauseElapsed _ _ | .stallWindowEnd _ _ | .controlByteReceived _ _ _ | .byteTimeout _
  | .transmissionEnd _ | .searchPointAdvance _ _ => none

/-! ## Invariants -/

/-- The Alert Set and the report queue: 21 entries, raise counts at most 255 (R169), at most 24 reports and 255 drops,
and the numbers of the waiting reports without a break up to the next report number (R178). -/
abbrev State.noticeInv (s : State) : Prop :=
  s.notice.alerts.length = 21 ∧ (∀ e ∈ s.notice.alerts, e.count ≤ 255) ∧ s.notice.queue.length ≤ 24 ∧
  s.notice.drops ≤ 255 ∧
  ∀ i, (h : i < s.notice.queue.length) →
    s.notice.queue[i].number = s.notice.nextNumber - BitVec.ofNat 8 (s.notice.queue.length - i)

/-- The receive buffer holds at most 4 frames, and a frame that waits has a reply waiting before it (R185, R186). -/
abbrev State.linkInv (s : State) : Prop :=
  s.link.buffer.length ≤ 4 ∧ (s.link.buffer ≠ [] → s.link.waiting.isSome = true) ∧
  (s.link.waiting.isSome = true → s.link.tx.isSome = true) ∧ (s.notice.queue ≠ [] → s.link.tx.isSome = true)

/-- The mode with its level, trip record and test step (R105, R107, R109, R115, R117, R124): TRIPPED has EMERGENCY, a trip
record and a mode before trip of SHUNT or LINE; every other mode has no mode before trip and a level other than
EMERGENCY; INIT and PARKED have level NONE; a test step other than 0 stands in PARKED only. -/
abbrev State.supervisorInv (s : State) : Prop :=
  (s.sup.mode = .tripped →
    s.sup.level = .emergency ∧ s.sup.trip.isSome = true ∧
      (s.sup.modeBefore = some .shunt ∨ s.sup.modeBefore = some .line)) ∧
  (s.sup.mode ≠ .tripped → s.sup.level ≠ .emergency ∧ s.sup.modeBefore = none) ∧
  (s.sup.mode = .init ∨ s.sup.mode = .parked → s.sup.level = .none) ∧
  s.sup.testStep ≤ 5 ∧ (s.sup.testStep ≠ 0 → s.sup.mode = .parked)

/-- A brake channel (R128, R129, R139): 64 slots, an applying run of at most 64; SERVICE slots always valid, the fresh
slots of a single channel exactly its valid ones. -/
abbrev BrakeChannel.inv (c : Channel) (x : BrakeChannel) : Prop :=
  x.slots.length = 64 ∧ x.run ≤ 64 ∧
  (c = .service → ∀ y ∈ x.slots, y.valid = true) ∧ (c ≠ .service → ∀ y ∈ x.slots, y.fresh = y.valid)

/-- The three brake channels. -/
abbrev State.brakeInv (s : State) : Prop :=
  s.brake.service.inv .service ∧ s.brake.band.inv .band ∧ s.brake.emergency.inv .emergency

/-- A bank (R24, R26, R27, R29): 128 places, and CHECKED or ACTIVE only with a content that passes every test. -/
abbrev Bank.inv (b : Bank) : Prop :=
  b.places.length = 128 ∧ (b.state = .checked ∨ b.state = .active → b.judge = .passed)

/-- The Line Store: two such banks, exactly the active one, if any, in state ACTIVE (R24, R30). -/
abbrev State.lineInv (s : State) : Prop :=
  s.line.a.inv ∧ s.line.b.inv ∧
  (s.line.a.state = .active ↔ s.line.active = some .a) ∧ (s.line.b.state = .active ↔ s.line.active = some .b)

/-- The configuration record: the power-on values until a CONFIGURE passes, then values that pass every range and cross
check (R189, R190, 10 §10.5). -/
abbrev State.configInv (s : State) : Prop :=
  (s.configured = false → s.cfg = ConfigRecord.powerOn) ∧ (s.configured = true → configBad s.cfg = none)

/-- The Odometry Unit's ranges (R1, R3, R4, R6, R8, R10, R14, R17) and, while UNLOCALISED, the greatest uncertainty
(R8, R9, R23); with them the width of the marker accuracy, which u takes at an accepted marker. -/
abbrev State.odometryInv (s : State) : Prop :=
  s.cfg.markerAccuracy ≤ 65535 ∧
  s.odo.remainder < 1000 ∧ s.odo.distanceRem < 1000 ∧ s.odo.credit < 1000 ∧ s.odo.uncertainty ≤ 65535 ∧
  s.odo.distance ≤ 16777215 ∧ s.odo.speed ≤ 15000 ∧ s.odo.missed ≤ 255 ∧ s.odo.pinErrors ≤ 65535 ∧
  s.odo.whlErrors ≤ 65535 ∧ s.odo.pinRing.length ≤ 64 ∧ s.odo.whlRing.length ≤ 64 ∧ s.odo.log.length ≤ 8 ∧
  s.odo.movementUm.natAbs ≤ 65535000 ∧ (s.odo.localisation = .unlocalised → s.odo.uncertainty = 65535)

/-- The restriction list and the hold set (R69, R71, R76): at most 16 entries of distinct ids in ascending order of
from and id, each with from below to and a limit of at most 15,000; the stations strictly ascending. -/
abbrev State.routeInv (s : State) : Prop :=
  s.route.restrictions.length ≤ 16 ∧
  s.route.restrictions.Pairwise (fun a b => a.before b = true ∧ a.id ≠ b.id) ∧
  (∀ r ∈ s.route.restrictions, r.fromPos < r.toPos ∧ r.limit ≤ 15000) ∧
  s.route.holds.Pairwise (· < ·)

/-- A leaf record (R145, R167): its outputs are those its state and phase set, but for the leaf not read since power-on,
whose motor is OFF and lock ENGAGED; a fault cause is held exactly in FAULT; a phase exactly in CLOSING and REOPENING;
counts in their ranges. -/
abbrev LeafRecord.inv (r : LeafRecord) : Prop :=
  ((r.motor, r.lock) = leafOutputs r.state r.phase ∨
    (r.pending = true ∧ r.state = .opened ∧ r.motor = .off ∧ r.lock = .engaged)) ∧
  (r.cause.isSome = true ↔ r.state = .fault) ∧
  (r.phase.isSome = true ↔ r.state = .closing ∨ r.state = .reopening) ∧
  r.failed ≤ 3 ∧ r.attempts ≤ 3

/-- The eight leaves. -/
abbrev State.leavesInv (s : State) : Prop := ∀ r ∈ s.ent.leaves.toList, r.inv

/-! ## What the owners of conditions give their alerts -/

/-- The entry of a condition after its owner has set it, if it does: the active flag, and, where the indicated value rises,
the latched flag and the raise count (R170). -/
def AlertEntry.follow (e : AlertEntry) : Option Bool → AlertEntry
  | none => e
  | some b =>
    if b = true ∧ e.active = false ∧ e.forced = false then
      { e with active := true, latched := true, count := min (e.count + 1) 255 }
    else { e with active := b }

/-- What the Odometry Unit gives its three conditions (R11, R18, R20); of the other kinds it gives nothing. -/
def Odometry.shows (o : Odometry) : AlertKind → Option Bool
  | .positionDegraded => some (decide (o.localisation = .degraded) || o.lossFlag)
  | .odometryDisagree => some o.disagree
  | .engagementUnproven =>
    some
      (match o.engagement with
       | .idle => false
       | .armed _ _ _ kept => kept.isSome
       | .unproven _ => true)
  | _ => none

/-- What the Radio Framer gives its four conditions (R44, R49, R50); of the other kinds it gives nothing. -/
def Radio.shows (r : Radio) : AlertKind → Option Bool
  | .radioDegraded => some (decide (r.state = .degraded))
  | .radioLost => some (decide (r.state = .lost))
  | .valleyUnheard => some r.unheard
  | .carrierBlank => some (decide (r.blankCount = 3))
  | _ => none

end Sys2Proof.Machine
end

