-- ==== Sys2Proof/WellFormed.lean ====
section
/-! DEFINITION. When a command is one that the part's environment can send: bit runs of at most one blank span with the
bits kept before it, payloads of at most 112 bytes, an unknown KIND that the catalogue does not name, and a configuration
record whose fields fit their widths (R39, R44, R182, R187, 10 §10.4, §10.5). -/

namespace Sys2Proof

/-- The most downlink bits one command carries: a whole frame before and up to the completion of the next. -/
def maxBits : Nat := 744

/-- A run of downlink bits that a command may carry. -/
def bitsOk (bits : List Bool) : Bool := 1 ≤ bits.length && bits.length ≤ maxBits

/-- A payload that a control frame may carry (R182). -/
def payloadOk (payload : List Byte) : Bool := payload.length ≤ Config.maxPayload

/-- The KINDs of the catalogue (10 §10.4). -/
def catalogueKinds : List Nat :=
  [0x01, 0x02, 0x03, 0x04, 0x05, 0x06, 0x07, 0x08, 0x10, 0x11, 0x12, 0x18, 0x19, 0x1A, 0x1B, 0x1C, 0x1D] ++
  [0x20, 0x21, 0x22, 0x23, 0x24, 0x28, 0x29, 0x2A, 0x2B, 0x2C, 0x30, 0x31, 0x38, 0x39, 0x3A, 0x3B, 0x3C]

/-- Do the fields of a configuration record fit their widths (10 §10.5)? -/
def recordFits (c : ConfigRecord) : Bool :=
  ([c.carId, c.pinSign, c.whlSign, c.pinRate, c.whlRate, c.kEff, c.holdLevel, c.m, c.wSync, c.transit, c.closedTol,
    c.stallMin, c.enables].all fun v => decide (v < 2 ^ 8)) &&
  ([c.carLength, c.pinionOffset, c.readerOffset, c.lPin, c.lWhl, c.uMax, c.markerAccuracy, c.agreeTol, c.engageTol,
    c.window, c.tStill, c.rollaway, c.entranceMoving, c.rSv, c.rEm, c.aFloor, c.tR].all fun v => decide (v < 2 ^ 16)) &&
  ([c.vCar, c.vShunt, c.vRl, c.mS, c.mE, c.mR, c.tCheck, c.tFreeze, c.openCount, c.warningTime].all
    fun v => decide (v < 2 ^ 16)) &&
  ([c.dG, c.horizon, c.tLost].all fun v => decide (v < 2 ^ 24))

/-- Is a command one that the part's environment can send? -/
def Instr.wf : Instr → Bool
  | .huntFind _ bits => bitsOk bits
  | .frameCompletion _ _ bits => bitsOk bits
  | .blankSpanEnd _ bits => bitsOk bits
  | .unknownKind _ _ kind payload => payloadOk payload && !catalogueKinds.contains kind.toNat
  | .uplinkNote _ _ text => payloadOk text
  | .configure _ _ record => recordFits record
  | _ => true

end Sys2Proof
end

