-- ==== Sys2Proof/Certificates/Slice0/Obligations.lean ====
section
/-! DEFINITION. The statements about the model that are put to the provers: the link and its requests, the blocks one by
one, then the invariants. OBLIGATIONS.json lists them. A command's next state is given as an equation wherever the rules
fix all of it; the equation is then also its frame. -/

section

open Sys2Proof Sys2Proof.Machine

/-! ## The step, power-on, and the link around commands -/

/-- Each step runs the command at the front of the queue, with the rest of the queue; on an empty queue a step changes
nothing (the queue and the idling are the model's; log 2). -/
def Obligations.StepRunsFrontCommand : Prop :=
  (∀ (c : Instr) (rest : List Instr) (s : State),
    step { s with pending := c :: rest } = exec c { s with pending := rest }) ∧
  ∀ s : State, s.pending = [] → step s = .next s

/-- POWER_ON leaves every block at its value after reset and the line rate of the straps, whatever the state before; the
queue of commands is the model's and is kept (logs 3 and 36). -/
def Obligations.PowerOnLeavesResetValues : Prop :=
  ∀ (strap1 strap2 : Bool) (s : State),
    exec (.powerOn strap1 strap2) s =
      .next
        { State.reset with
          link := { State.reset.link with rate := LineRate.ofStraps strap1 strap2 }
          pending := s.pending }

/-- A request command whose frame is offered while a reply waits behind a transmission joins the receive buffer, of at
most 4 frames; a fifth is discarded with LINK_FRAME_BAD. Nothing else changes. At a ready link the request is judged,
taken and answered at once. -/
def Obligations.RequestsAreBufferedOrAnswered : Prop :=
  ∀ (c : Instr) (t : Time) (f : Frame) (s : State), requestFrame c = some (t, f) →
    (s.linkHeld → s.link.buffer.length < 4 →
      exec c s = .next { s.advance t with link := { s.link with buffer := s.link.buffer ++ [f] } }) ∧
    (s.linkHeld → 4 ≤ s.link.buffer.length → exec c s = .next ((s.advance t).raise .linkFrameBad)) ∧
    (s.linkReady → exec c s = .next (State.replied f.kind f.tag ((s.advance t).judge f).1 ((s.advance t).judge f).2))

/-- The first two tests of a request: a KIND that names no request is answered UNKNOWN_KIND, a payload of the wrong length
BAD_FIELD with number 0, and neither changes anything. -/
def Obligations.UnjudgedRequestsChangeNothing : Prop :=
  (∀ (t : Time) (tag kind : Byte) (payload : List Byte) (s : State), requestOf kind = none → s.linkReady →
    exec (.unknownKind t tag kind payload) s = .next ((s.advance t).replied kind tag .unknownKind)) ∧
  (∀ (f : Frame) (r : Request) (s : State), requestOf f.kind = some r →
    (∃ n, r.length = some n ∧ f.payload.length ≠ n) → s.judge f = (.badField 0, s)) ∧
  (∀ kind : Byte, requestOf kind = none ↔ kind.toNat ∉ catalogueKinds)

/-- How a command ends: with a reply waiting behind a transmission nothing moves; with an empty receive buffer the
transmitter is handed on; with a frame waiting, no reply waiting and a transmission running, the oldest frame is
dispatched and its reply waits (with log 12). -/
def Obligations.CommandEndSettlesTheLink : Prop :=
  ∀ s : State,
    (s.linkHeld → s.finish = s) ∧
    (s.link.buffer = [] → s.finish = s.grantTransmitter) ∧
    (∀ (f : Frame) (rest : List Frame), s.link.buffer = f :: rest → s.link.waiting = none → s.link.tx.isSome = true →
      s.finish = State.answer f { s with link := { s.link with buffer := rest } } ∧
      s.finish.link.waiting.isSome = true ∧ s.finish.link.buffer = rest ∧ s.finish.link.tx = s.link.tx)

/-- TRANSMISSION_END: the transmitter goes to the waiting reply, else to the oldest report, which leaves the queue, else it
stays idle; once a reply goes out, the oldest frame of the receive buffer is dispatched. -/
def Obligations.TransmissionEndHandsOn : Prop :=
  ∀ (t : Time) (s : State),
    (∀ r, s.link.waiting = some r → s.link.buffer = [] →
      exec (.transmissionEnd t) s =
        .next { s.advance t with link := { s.link with tx := some (.reply r), waiting := none } }) ∧
    (∀ r f rest, s.link.waiting = some r → s.link.buffer = f :: rest →
      exec (.transmissionEnd t) s =
        .next
          (State.answer f
            { s.advance t with link := { s.link with tx := some (.reply r), waiting := none, buffer := rest } })) ∧
    (∀ r rest, s.link.waiting = none → s.link.buffer = [] → s.notice.queue = r :: rest →
      exec (.transmissionEnd t) s =
        .next
          { s.advance t with
            link := { s.link with tx := some (.report r) }
            notice := { s.notice with queue := rest } }) ∧
    (s.link.waiting = none → s.link.buffer = [] → s.notice.queue = [] →
      exec (.transmissionEnd t) s = .next { s.advance t with link := { s.link with tx := none } })

/-- The bytes of control frames, both ways. Received one by one from AWAIT_SYNC, the bytes of a frame offer exactly that
frame to the receive buffer: KIND, TAG and every payload byte come through, for every payload of at most 112 bytes. A
frame is sent as 0x5A, LENGTH, KIND, TAG, payload and CRC, its low byte first; a reply carries its result code and then
the field number of BAD_FIELD, in one byte by the model's choice (log 58), or the bytes of its readout, a report its
posting time, its gap mark and its contents, at most 112 payload bytes in all (contents without a stated layout are free
bytes, of which nothing is said: log 24). -/
def Obligations.FrameBytesReachTheBuffer : Prop :=
  (∀ (f : Frame) (s : State), f.payload.length ≤ 112 → s.link.reception = .awaitSync →
    (frameBytes f).foldl (fun u b => u.receiveByte b false) s = s.offer f) ∧
  (∀ f : Frame,
    let covered := BitVec.ofNat 8 f.payload.length :: f.kind :: f.tag :: f.payload
    ∃ low high : Byte, frameBytes f = 0x5A#8 :: covered ++ [low, high] ∧ crc16 covered = high ++ low) ∧
  (∀ r : Reply, ∃ rest : List Byte,
    (TxFrame.reply r).wire =
      frameBytes ⟨r.kind, r.tag,
        (match r.result with
         | .done _ => 0
         | .accepted => 1
         | .refusedState => 2
         | .badField _ => 3
         | .full => 4
         | .unknownKind => 5) :: rest⟩ ∧
    (∀ n, r.result = .badField n → rest = [BitVec.ofNat 8 n]) ∧
    (r.result = .done .nothing ∨ r.result = .accepted ∨ r.result = .refusedState ∨ r.result = .full ∨
      r.result = .unknownKind → rest = []) ∧
    (∀ data, r.result = .done (.bytes data) → rest = data) ∧
    (∀ kinds, r.result = .done (.latchedSet kinds) →
      rest = [kinds.extractLsb' 0 8, kinds.extractLsb' 8 8, kinds.extractLsb' 16 8])) ∧
  (∀ r : Report, ∃ rest : List Byte,
    rest.length ≤ 107 ∧
    (TxFrame.report r).wire =
      frameBytes
        ⟨match r.body with
          | .alert _ _ _ _ => 0x40
          | .modeChange _ _ _ => 0x41
          | .intervention _ _ _ _ => 0x42
          | .entrance _ _ _ => 0x43
          | .release _ _ => 0x44
          | .takeover _ _ => 0x45
          | .marker _ _ => 0x46
          | .authority _ _ _ => 0x47
          | .crewNotice _ => 0x48,
          r.number,
          [r.time.extractLsb' 0 8, r.time.extractLsb' 8 8, r.time.extractLsb' 16 8, r.time.extractLsb' 24 8,
            BitVec.ofNat 8 r.gap] ++ rest⟩) ∧
  (∀ s : State, (s.link.tx = none → s.lineBytes = []) ∧ ∀ x, s.link.tx = some x → s.lineBytes = x.wire)

/-- CONTROL_BYTE_RECEIVED outside a frame and within one: the sync byte starts a frame, other bytes and bytes with a
framing error are passed over. In a frame not older than 10 ms a framing error or a LENGTH above 112 discards it with
LINK_FRAME_BAD, a byte short of the whole frame joins it, and the last byte offers the frame to the receive buffer of at
most 4 when the CRC over LENGTH through the payload matches, else discards it. A byte later than 10 ms discards the frame
and is tested for sync itself. BYTE_TIMEOUT discards a frame whose latest byte is 10 ms old, and nothing else. Every
command then ends as CommandEndSettlesTheLink says. -/
def Obligations.BytesAreReceived : Prop :=
  ∀ (t : Time) (b : Byte) (e : Bool) (s : State),
    let reset : State := { s.advance t with link := { s.link with reception := .awaitSync } }
    (s.link.reception = .awaitSync →
      exec (.controlByteReceived t b e) s =
        .next
          (if b = 0x5A#8 ∧ e = false then
            State.finish { s.advance t with link := { s.link with reception := .receiving [0x5A#8] t } }
          else (s.advance t).finish)) ∧
    (∀ bytes last, s.link.reception = .receiving bytes last → Time.since t last ≤ 10000 →
      let whole := bytes ++ [b]
      let count := (byteAt bytes 1).toNat
      let crc := crc16 ((whole.drop 1).take (3 + count))
      let f : Frame := ⟨byteAt whole 2, byteAt whole 3, (whole.drop 4).take count⟩
      let last := e = false ∧ 2 ≤ bytes.length ∧ whole.length = 6 + count
      (e = true → exec (.controlByteReceived t b e) s = .next (reset.raise .linkFrameBad).finish) ∧
      (e = false → bytes.length = 1 → 112 < b.toNat →
        exec (.controlByteReceived t b e) s = .next (reset.raise .linkFrameBad).finish) ∧
      (e = false → (bytes.length = 1 ∧ b.toNat ≤ 112) ∨ (2 ≤ bytes.length ∧ whole.length < 6 + count) →
        exec (.controlByteReceived t b e) s =
          .next (State.finish { s.advance t with link := { s.link with reception := .receiving whole t } })) ∧
      (last → crc = byteAt whole (count + 5) ++ byteAt whole (count + 4) → s.link.buffer.length < 4 →
        exec (.controlByteReceived t b e) s =
          .next
            (State.finish { reset with link := { reset.link with buffer := s.link.buffer ++ [f] } })) ∧
      (last → crc = byteAt whole (count + 5) ++ byteAt whole (count + 4) → 4 ≤ s.link.buffer.length →
        exec (.controlByteReceived t b e) s = .next (reset.raise .linkFrameBad).finish) ∧
      (last → crc ≠ byteAt whole (count + 5) ++ byteAt whole (count + 4) →
        exec (.controlByteReceived t b e) s = .next (reset.raise .linkFrameBad).finish)) ∧
    (∀ bytes last, s.link.reception = .receiving bytes last → 10000 < Time.since t last →
      exec (.controlByteReceived t b e) s =
        .next
          (if b = 0x5A#8 ∧ e = false then
            State.finish
              { reset.raise .linkFrameBad with link := { reset.link with reception := .receiving [0x5A#8] t } }
          else (reset.raise .linkFrameBad).finish)) ∧
    (∀ bytes last, s.link.reception = .receiving bytes last → 10000 ≤ Time.since t last →
      exec (.byteTimeout t) s = .next (reset.raise .linkFrameBad).finish) ∧
    ((s.link.reception = .awaitSync ∨ ∃ bytes last, s.link.reception = .receiving bytes last ∧ Time.since t last < 10000) →
      exec (.byteTimeout t) s = .next (s.advance t).finish)

/-! ## Alerts and reports -/

/-- Posting a report: it takes the next number, the time and the gap mark and joins a queue of fewer than 24; else it is
dropped, takes no number and is counted up to 255. -/
def Obligations.ReportsAreNumberedOrDropped : Prop :=
  ∀ (body : ReportBody) (s : State),
    (s.notice.queue.length < 24 →
      s.post body =
        { s with
          notice :=
            { alerts := s.notice.alerts
              queue := s.notice.queue ++ [⟨s.notice.nextNumber, s.clock.now, s.notice.drops, body⟩]
              nextNumber := s.notice.nextNumber + 1
              drops := 0 } }) ∧
    (24 ≤ s.notice.queue.length →
      s.post body = { s with notice := { s.notice with drops := min (s.notice.drops + 1) 255 } })

/-- Raising an event, an owner setting or clearing a condition, and the detector test forcing one: the raise count and the
latched flag of that kind, the ALERT report of a new latching with its forced mark and the latched set after it, and no
other kind. A kind newly forced latches unless it is active. -/
def Obligations.AlertsLatch : Prop :=
  ∀ (k : AlertKind) (b : Bool) (s : State), s.notice.alerts.length = 21 → s.notice.queue.length < 24 →
    let e := s.notice.entry k
    let u := s.raise k
    let v := s.setCondition k b
    let w := s.force k
    u = { s with notice := u.notice } ∧
    u.notice.entry k = { e with latched := true, count := min (e.count + 1) 255 } ∧
    (∀ j, j ≠ k → u.notice.entry j = s.notice.entry j) ∧
    u.notice.queue =
      (if e.latched then s.notice.queue
      else
        s.notice.queue ++
          [⟨s.notice.nextNumber, s.clock.now, s.notice.drops, .alert k k.cls e.forced u.notice.latchedSet⟩]) ∧
    v = { s with notice := v.notice } ∧
    (v.notice.entry k).active = b ∧ (v.notice.entry k).forced = e.forced ∧
    (∀ j, j ≠ k → v.notice.entry j = s.notice.entry j) ∧
    (b = true → e.active = false → e.forced = false →
      (v.notice.entry k).latched = true ∧ (v.notice.entry k).count = min (e.count + 1) 255 ∧
      (e.latched = false →
        v.notice.queue =
          s.notice.queue ++
            [⟨s.notice.nextNumber, s.clock.now, s.notice.drops, .alert k k.cls false v.notice.latchedSet⟩])) ∧
    (b = false ∨ e.active = true ∨ e.forced = true →
      (v.notice.entry k).latched = e.latched ∧ (v.notice.entry k).count = e.count ∧
      v.notice.queue = s.notice.queue) ∧
    w = { s with notice := w.notice } ∧
    (∀ j, j ≠ k → w.notice.entry j = s.notice.entry j) ∧
    (e.forced = true ∨ e.active = true →
      w.notice.entry k = { e with forced := true } ∧ w.notice.queue = s.notice.queue) ∧
    (e.forced = false → e.active = false →
      w.notice.entry k = { e with forced := true, latched := true, count := min (e.count + 1) 255 } ∧
      w.notice.queue =
        (if e.latched then s.notice.queue
        else
          s.notice.queue ++
            [⟨s.notice.nextNumber, s.clock.now, s.notice.drops, .alert k k.cls true w.notice.latchedSet⟩]))

/-- The latched set has kind n at bit n, and the attention line is asserted exactly while it is not empty. ACK ALERTS: each
kind of the set loses its latched flag and its raise count, every other kind and every active and forced flag stand, and
the reply carries the latched set after; a set that names a number above 20 is BAD_FIELD 1. -/
def Obligations.AckAlertsClearsTheNamedKinds : Prop :=
  (∀ n : Notice, n.alerts.length = 21 →
    (∀ k : AlertKind, n.latchedSet.getLsbD k.number = (n.entry k).latched) ∧
    (n.attention = true ↔ n.latchedSet ≠ 0#24)) ∧
  ∀ (t : Time) (tag : Byte) (kinds : BitVec 24) (s : State), s.linkReady → s.notice.alerts.length = 21 →
    (kinds.toNat < 2 ^ 21 →
      ∃ n : Notice,
        n = { s.notice with alerts := n.alerts } ∧
        (∀ k : AlertKind, n.entry k =
          if kinds.getLsbD k.number then { s.notice.entry k with latched := false, count := 0 } else s.notice.entry k) ∧
        exec (.ackAlerts t tag kinds) s =
          .next (State.replied 0x31 tag (.done (.latchedSet (s.notice.latchedSet &&& ~~~kinds)))
            { s.advance t with notice := n })) ∧
    (2 ^ 21 ≤ kinds.toNat → exec (.ackAlerts t tag kinds) s = .next ((s.advance t).replied 0x31 tag (.badField 1)))

/-! ## Requests that read -/

/-- The requests that only read are taken in every mode, answered DONE with their readouts and change nothing else. Each
readout is given field by field (held as fields: log 24): the odometry, the banks, the authority, the radio, the
entrances by the latest cycle's closed_tol, the alerts, and the 76 bytes of the status snapshot by offset, width and
value. That a bank without a header shows 0 loaded places is the model's choice (log 45). -/
def Obligations.ReadsChangeNothing : Prop :=
  ∀ (t : Time) (tag : Byte) (s : State), s.linkReady →
    let a := s.advance t
    exec (.readFaultRecord t tag) s =
      .next (a.replied 0x06 tag (.done (.faultRecord s.sup.faultRecord s.sup.faultSeen s.cfg.enables))) ∧
    exec (.readTripRecord t tag) s = .next (a.replied 0x07 tag (.done (.tripRecord s.sup.mode s.sup.trip))) ∧
    exec (.readLookahead t tag) s = .next (a.replied 0x08 tag (.done (.lookahead s.sup.pass))) ∧
    exec (.readOdometry t tag) s = .next (a.replied 0x11 tag (.done (.odometry a.odometryReadout))) ∧
    exec (.readMarkerLog t tag) s = .next (a.replied 0x12 tag (.done (.markerLog s.odo.log s.odo.log.length))) ∧
    exec (.readBankState t tag) s =
      .next (a.replied 0x1D tag (.done (.bankState (s.line.bankReadout .a) (s.line.bankReadout .b)))) ∧
    exec (.readAuthority t tag) s = .next (a.replied 0x20 tag (.done (.authority a.authorityReadout))) ∧
    exec (.readRadio t tag) s = .next (a.replied 0x22 tag (.done (.radio a.radioReadout))) ∧
    exec (.readEntrances t tag) s = .next (a.replied 0x2C tag (.done (.entrances a.entrancesReadout))) ∧
    exec (.readAlerts t tag) s = .next (a.replied 0x30 tag (.done (.alerts a.alertsReadout))) ∧
    exec (.readStatus t tag) s = .next (a.replied 0x38 tag (.done (.bytes a.status))) ∧
    (let mm : Nat := (s.odo.movementUm.natAbs + 999) / 1000
     a.odometryReadout =
       { pinCount := s.odo.pinCount.toInt, whlCount := s.odo.whlCount.toInt
         pinErrors := s.odo.pinErrors, whlErrors := s.odo.whlErrors
         reference := match s.pinionSegment with
           | some v => if v.seg.kind = .rack then .pinion else .wheel
           | none => .wheel
         speed := s.odo.speed, standstill := s.odo.standstill, direction := s.odo.direction
         position := s.odo.position, remainder := s.odo.remainder
         uncertainty := s.odo.uncertainty, credit := s.odo.credit
         localisation := s.odo.localisation, lossFlag := s.odo.lossFlag
         segment := s.pinionSegment.map SegView.index
         lastAccepted := s.odo.lastAccepted, distance := s.odo.distance, missed := s.odo.missed
         movement := if s.odo.movementUm < 0 then -(mm : Int) else (mm : Int)
         engagement := s.odo.engagement, disagree := s.odo.disagree
         expected := s.expectedMarker.map Marker.id }) ∧
    (∀ n : BankName,
      let b := match n with
        | .a => s.line.a
        | .b => s.line.b
      s.line.bankReadout n =
        { state := b.state
          role :=
            if s.line.active = some n then .active
            else if s.line.active = none ∧ n = .b then .neither
            else .standby
          header := b.header
          loaded := match b.header with
            | none => 0
            | some h => ((b.places.take h.count).filter Option.isSome).length
          outcome := b.outcome }) ∧
    a.authorityReadout =
      { record := s.route.authority
        timeKnown := s.radio.offset.isSome
        remaining := match s.route.authority, s.radio.offset with
          | some r, some o => r.expiry.map fun e => (e - ((s.clock.advance t).localMs + o)).toNat
          | _, _ => none
        frozen := decide (s.radio.state ≠ .ok) } ∧
    a.radioReadout =
      { sync := s.radio.sync
        expected := if s.radio.sync = .hunt then none else s.radio.expected
        confirmCount := if s.radio.sync = .confirm then some s.radio.confirmCount else none
        settling := if s.radio.sync = .locked then some (s.radio.settling, s.radio.settled) else none
        history := s.radio.history
        wrong := (s.radio.history.filter fun c => !c).length
        blankCount := s.radio.blankCount
        carrierBlank := decide (s.radio.blankCount = 3)
        goodFrames := s.radio.goodFrames, crcErrors := s.radio.crcErrors
        alignErrors := s.radio.alignErrors, huntRestarts := s.radio.huntRestarts
        state := s.radio.state
        age := s.radio.lastGood.map fun l => ((s.clock.advance t).localMs - l).toNat
        unheard := s.radio.unheard
        valley := s.radio.offset.map fun o => (o, (s.clock.advance t).localMs + o)
        lineId := s.lineId
        carId := s.cfg.carId
        notes := s.radio.notes.length
        ring := s.radio.ring
        ringCount := s.radio.ring.length } ∧
    (let shut := fun r : LeafRecord =>
       r.failed == 0 && (match r.position with
         | none => false
         | some p => decide (p ≤ s.ent.closedTol))
     a.entrancesReadout =
       { leaves := s.ent.leaves.map fun r => ⟨r, shut r, shut r && r.lockProven⟩
         releaseLeft := s.ent.releaseLeft, releaseRight := s.ent.releaseRight
         takeoverLeft := s.ent.takeoverLeft, takeoverRight := s.ent.takeoverRight
         allLocked := s.ent.allLocked
         obstructed := (s.notice.entry .entranceObstructed).active
         fault := (s.notice.entry .entranceFault).active
         cycleTime := s.ent.cycleTime }) ∧
    (let shown := fun k : AlertKind =>
       let e := s.notice.entry k
       if k.number < 12 then e.active || e.forced else e.latched
     let bit := fun b : Bool => if b then 1 else 0
     let channel := fun (o : Nat) (c : Channel) =>
       let x := s.brake.channel c
       [(o, 1, (x.slots.zipIdx.filter fun y => y.1.fresh && y.2 != s.brake.slotNumber.toNat % 64).length),
        (o + 1, 1, bit x.defaultEmitted + 2 * bit (x.run == 64) + 4 * bit (x.addressing != .absolute)),
        (o + 2, 1, x.lastFault.code), (o + 3, 1, x.latest.code)]
     a.alertsReadout =
       { kinds := AlertKind.all.map fun k => ⟨s.notice.entry k, shown k⟩
         latched := s.notice.latchedSet
         attention := s.notice.attention
         queued := s.notice.queue.length
         drops := s.notice.drops
         gapPending := decide (s.notice.drops ≠ 0) } ∧
     a.status.length = 76 ∧
     (∀ k : AlertKind,
       (leAt a.status 63 3).testBit k.number = (s.notice.entry k).latched ∧
       (leAt a.status 66 3).testBit k.number = shown k ∧
       (leAt a.status 69 3).testBit k.number = (s.notice.entry k).forced) ∧
     (∀ i : Fin 8, leAt a.status (42 + i.val) 1 =
       (s.ent.leaves.get i).state.code + 64 * bit (s.ent.leaves.get i).returnMark +
         128 * bit (s.ent.leaves.get i).pending) ∧
     (∀ x ∈
       ([(0, 4, t.toNat), (4, 1, s.sup.mode.code), (5, 1, (s.sup.modeBefore.map Mode.code).getD 0),
         (6, 1, s.sup.testStep), (7, 1, s.sup.level.code), (8, 1, (s.sup.trip.map fun r => r.first.number).getD 0),
         (9, 1, (s.sup.trip.map fun r => (r.causes.map fun c => 2 ^ (c.number - 1)).sum).getD 0),
         (10, 1, bit s.configured + 2 * bit s.odo.standstill + 4 * bit (s.odo.direction == .down) +
           8 * bit s.sup.pass.merged + 16 * bit s.sup.faultSeen + 32 * bit s.radio.offset.isSome +
           64 * bit s.notice.attention + 128 * bit s.ent.allLocked),
         (11, 3, s.odo.position), (14, 2, s.odo.uncertainty), (16, 1, s.odo.localisation.code), (17, 2, s.odo.speed),
         (19, 2, s.sup.pass.ceiling), (21, 1, s.sup.pass.term.code), (22, 2, s.sup.pass.permitted),
         (24, 1, s.sup.drive.selector.code), (25, 1, bit s.sup.drive.traction), (26, 1, s.sup.drive.brake),
         (27, 1, s.sup.demands.service),
         (28, 1, bit (s.sup.demands.band == .release) + 2 * bit (s.sup.demands.emergency == .release))] ++
        [(29, 1, s.radio.state.code), (30, 1, s.radio.sync.code + 128 * bit s.radio.settled),
         (31, 1, match s.line.active with
           | none => 0
           | some .a => 1
           | some .b => 2),
         (32, 1, s.line.a.state.code), (33, 1, s.line.b.state.code), (34, 1, bit s.route.authority.isSome),
         (35, 1, (s.route.authority.map fun r => r.seq.toNat).getD 0), (36, 1, s.route.restrictions.length),
         (37, 2, s.route.cap.getD 65535), (39, 1, s.ent.releaseLeft.code), (40, 1, s.ent.releaseRight.code),
         (41, 1, s.ent.takeoverLeft.code + 16 * s.ent.takeoverRight.code),
         (50, 1, s.brake.slotNumber.toNat % 64)] ++
        channel 51 .service ++ channel 55 .band ++ channel 59 .emergency ++
        [(72, 1, s.notice.queue.length), (73, 1, s.notice.drops), (74, 1, s.odo.engagement.code),
         (75, 1, bit s.radio.unheard + 2 * bit s.sup.faultRecord.isSome)] : List (Nat × Nat × Nat)),
       leAt a.status x.1 x.2.1 = x.2.2 % 256 ^ x.2.1))

/-- READ SEGMENT and READ RESTRICTIONS: the place and up to 6 entries from the index given; a bank code above 1 (named
first, log 44), a place of 128 or more and a first index of 16 or more are BAD_FIELD; nothing else changes. The bytes of
a place are the bank's state, whether the index is below the segment count, 0 for an empty place or 1 and the 27 bytes
of the record loaded, the codes and the flag in one byte each by the model's choice (log 58), and the codes of the states
are those of 10 §10.7. -/
def Obligations.IndexedReadsChangeNothing : Prop :=
  (∀ (t : Time) (tag bank index first : Byte) (s : State), s.linkReady →
    (bank.toNat ≤ 1 → index.toNat < 128 →
      exec (.readSegment t tag bank index) s =
        .next ((s.advance t).replied 0x1C tag
          (.done (.bytes ((if bank = 0#8 then s.line.a else s.line.b).segmentReadout index.toNat))))) ∧
    (bank.toNat ≤ 1 → 128 ≤ index.toNat →
      exec (.readSegment t tag bank index) s = .next ((s.advance t).replied 0x1C tag (.badField 2))) ∧
    (2 ≤ bank.toNat → exec (.readSegment t tag bank index) s = .next ((s.advance t).replied 0x1C tag (.badField 1))) ∧
    (first.toNat < 16 →
      exec (.readRestrictions t tag first) s =
        .next ((s.advance t).replied 0x21 tag
          (.done (.restrictions
            { version := s.route.version
              count := s.route.restrictions.length
              entries := (s.route.restrictions.drop first.toNat).take 6
              cap := s.route.cap
              holds := s.route.holds
              frozen := decide (s.radio.state ≠ .ok) })))) ∧
    (16 ≤ first.toNat →
      exec (.readRestrictions t tag first) s = .next ((s.advance t).replied 0x21 tag (.badField 1)))) ∧
  (∀ (i : Nat) (b : Bank), i < 128 →
    b.segmentReadout i =
      BitVec.ofNat 8 b.state.code ::
      (match b.header with
       | none => 2
       | some h => if i < h.count then 0 else 1) ::
      (match b.places[i]? with
       | some (some g) => 1 :: segmentBytes i g
       | _ => [0])) ∧
  [BankState.empty, .loading, .checked, .active].map BankState.code = [0, 1, 2, 3] ∧
  [Mode.init, .parked, .shunt, .line, .tripped].map Mode.code = [0, 1, 2, 3, 4] ∧
  [Level.none, .warning, .service, .emergency].map Level.code = [0, 1, 2, 3] ∧
  [Localisation.unlocalised, .localised, .degraded].map Localisation.code = [0, 1, 2] ∧
  [Term.mode, .segment, .engagementCap, .restriction, .overflowCap, .carMaximum, .shunt, .radioLost, .positionDegraded,
    .unlocalised].map Term.code = [0, 1, 2, 3, 4, 5, 6, 7, 8, 9] ∧
  [Selector.up, .down, .neutral].map Selector.code = [0, 1, 2] ∧
  [RadioState.ok, .degraded, .lost].map RadioState.code = [0, 1, 2] ∧
  [Sync.hunt, .confirm, .locked].map Sync.code = [0, 1, 2] ∧
  [Release.granted, .withheld .mode, .withheld .moving, .withheld .brake, .withheld .platform, .withheld .hold].map
    Release.code = [0, 1, 2, 3, 4, 5] ∧
  [Takeover.none, .pending, .granted].map Takeover.code = [0, 1, 2] ∧
  [LeafState.closed, .unlocking, .opening, .opened, .warning, .closing, .reopening, .obstructed, .fault, .isolated,
    .manual].map LeafState.code = [0, 1, 2, 3, 4, 5, 6, 7, 8, 9, 10] ∧
  [LastFault.none, .copy, .starved].map LastFault.code = [0, 1, 2] ∧
  (∀ d : Nat, (Demand.duty d).code = d) ∧
  [Demand.single .apply, .single .release].map Demand.code = [0, 1] ∧
  (∀ (i : Nat) (p w : Int) (k : Option Nat),
    [Engagement.idle, .armed i p w k, .unproven i].map Engagement.code = [0, 1, 2]) ∧
  [Cause.overspeed, .authorityOverrun, .entranceOpenMoving, .rollaway, .brakeEffort, .rackEngagement,
    .outputFault].map Cause.number = [1, 2, 3, 4, 5, 6, 7] ∧
  AlertKind.all.map AlertKind.number = List.range 21

/-- IDENTIFY answers DONE in every mode with vendor code 0x0B2E, part code 0x0018, revision 1, the code of the line rate
and 112, low bytes first, and changes nothing. -/
def Obligations.IdentifyAnswersTheIdentity : Prop :=
  ∀ (t : Time) (tag : Byte) (s : State), s.linkReady →
    exec (.identify t tag) s =
      .next ((s.advance t).replied 0x3C tag
        (.done (.bytes
          [0x2E, 0x0B, 0x18, 0x00, 0x01,
            (match s.link.rate with
             | .r57600 => 0
             | .r115200 => 1
             | .r230400 => 2), 0x70])))

/-- READ CONFIGURATION answers DONE in every mode with the configured flag and the 76 bytes of the fields in the CONFIGURE
coding, from which CONFIGURE would read the same record, and changes nothing. Before the first CONFIGURE that passes the
readout shows the power-on values, car id 0, with the flag 0. -/
def Obligations.ReadConfigurationShowsTheRecord : Prop :=
  (∀ (t : Time) (tag : Byte) (s : State), s.linkReady →
    exec (.readConfiguration t tag) s =
      .next ((s.advance t).replied 0x3A tag
        (.done (.bytes ((if s.configured then 1#8 else 0#8) :: configBytes s.cfg))))) ∧
  (∀ c : ConfigRecord, (configBytes c).length = 76 ∧ (recordFits c = true → configOfBytes (configBytes c) = c)) ∧
  State.reset.configured = false ∧ State.reset.cfg = ConfigRecord.powerOn ∧ ConfigRecord.powerOn.carId = 0

/-! ## Line table banks -/

/-- LOAD HEADER and LOAD SEGMENT: fields in range replace the header or the place of the standby bank, which becomes
LOADING with no check outcome and keeps everything else; the first field out of range is BAD_FIELD and nothing changes.
The ranges of the fifteen fields, those of an absent part not judged, and the record that fields in range store. -/
def Obligations.LoadsWriteTheStandbyBank : Prop :=
  (∀ (t : Time) (tag : Byte) (s : State), s.linkReady →
    (∀ (lineId : BitVec 16) (count : Byte) (lineEnd : BitVec 24),
      (lineId ≠ 0#16 → count ≠ 0#8 → count.toNat ≤ 128 → lineEnd ≠ 0#24 →
        exec (.loadHeader t tag lineId count lineEnd) s =
          .next (State.replied 0x18 tag (.done .nothing)
            { s.advance t with
              line := s.line.setStandby
                { state := .loading
                  header := some ⟨lineId.toNat, count.toNat, lineEnd.toNat⟩
                  places := s.line.standbyBank.places
                  outcome := .unchecked } })) ∧
      (lineId = 0#16 ∨ count = 0#8 ∨ 128 < count.toNat ∨ lineEnd = 0#24 →
        exec (.loadHeader t tag lineId count lineEnd) s =
          .next ((s.advance t).replied 0x18 tag
            (.badField (if lineId = 0#16 then 1 else if count = 0#8 ∨ 128 < count.toNat then 2 else 3))))) ∧
    (∀ f : SegmentFields,
      (segmentBad f = none →
        exec (.loadSegment t tag f) s =
          .next (State.replied 0x19 tag (.done .nothing)
            { s.advance t with
              line := s.line.setStandby
                { state := .loading
                  header := s.line.standbyBank.header
                  places := s.line.standbyBank.places.set f.index.toNat (some (segmentRecord f))
                  outcome := .unchecked } })) ∧
      (∀ n, segmentBad f = some n →
        exec (.loadSegment t tag f) s = .next ((s.advance t).replied 0x19 tag (.badField n))))) ∧
  (∀ f : SegmentFields,
    let platform := f.platformPresent = 1#8
    let marker := f.markerPresent = 1#8
    let checks : List (Nat × Bool) :=
      [(1, decide (f.index.toNat ≤ 127)), (3, decide (f.kind.toNat ≤ 2)),
       (4, decide ((-500 ≤ f.pull.toInt ∧ f.pull.toInt ≤ 500) ∨ f.pull.toInt = -32768)),
       (5, decide (f.limitUp.toNat ≤ 15000)), (6, decide (f.limitDown.toNat ≤ 15000)),
       (7, decide (f.platformPresent.toNat ≤ 1)), (8, decide (platform → f.platformSide.toNat ≤ 2)),
       (11, decide (platform → 1 ≤ f.station.toNat ∧ f.station.toNat ≤ 63)), (12, decide (f.markerPresent.toNat ≤ 1)),
       (13, decide (marker → 1 ≤ f.markerId.toNat)),
       (15, decide (marker → 100 ≤ f.markerWindow.toNat ∧ f.markerWindow.toNat ≤ 5000))]
    segmentBad f = (checks.find? fun c => !c.2).map Prod.fst ∧
    (segmentBad f = none →
      segmentRecord f =
        { start := f.start.toNat
          kind := if f.kind = 0#8 then .adhesion else if f.kind = 1#8 then .rack else .rackEntry
          pull := if f.pull = 0x8000#16 then none else some f.pull.toInt
          limitUp := f.limitUp.toNat
          limitDown := f.limitDown.toNat
          platform :=
            if f.platformPresent = 0#8 then none
            else
              some
                ⟨if f.platformSide = 0#8 then .left else if f.platformSide = 1#8 then .right else .both,
                  f.platformFrom.toNat, f.platformTo.toNat, f.station.toNat⟩
          marker :=
            if f.markerPresent = 0#8 then none
            else some ⟨f.markerId.toNat, f.markerPosition.toNat, f.markerWindow.toNat⟩ }))

/-- The 27 payload bytes of LOAD SEGMENT keep every bit of its fifteen fields, and after a LOAD SEGMENT of fields in range
READ SEGMENT of the standby bank shows the place loaded with the same bytes, zeros in the parts it marks absent. Before
them stand the bank state LOADING, the below-count code and the loaded flag, in one byte each by the model's choice
(log 58). -/
def Obligations.LoadedSegmentsReadBack : Prop :=
  (∀ f : SegmentFields, (segmentFieldBytes f).length = 27 ∧ segmentFieldsOf (segmentFieldBytes f) = f) ∧
  (∀ (f : SegmentFields) (l : LineStore), segmentBad f = none → l.standbyBank.places.length = 128 →
    let platform : SegmentFields :=
      if f.platformPresent = 0#8 then
        { f with platformSide := 0#8, platformFrom := 0#24, platformTo := 0#24, station := 0#8 }
      else f
    let kept : SegmentFields :=
      if f.markerPresent = 0#8 then { platform with markerId := 0#8, markerPosition := 0#24, markerWindow := 0#16 }
      else platform
    ∃ below : Byte,
      (l.loadSegment f).2.readSegment (match l.standby with | .a => 0 | .b => 1) f.index.toNat =
        .done (.bytes ([1#8, below, 1#8] ++ segmentFieldBytes kept)))

/-- CHECK BANK: an EMPTY standby bank is REFUSED_STATE; any other is judged, becomes CHECKED when it passes and LOADING
when it fails, keeps the outcome, and nothing else changes. -/
def Obligations.CheckBankKeepsTheOutcome : Prop :=
  ∀ (t : Time) (tag : Byte) (s : State), s.linkReady →
    (s.line.standbyBank.state = .empty →
      exec (.checkBank t tag) s = .next ((s.advance t).replied 0x1A tag .refusedState)) ∧
    (s.line.standbyBank.state ≠ .empty →
      exec (.checkBank t tag) s =
        .next (State.replied 0x1A tag (.done (.verdict s.line.standbyBank.judge))
          { s.advance t with
            line := s.line.setStandby
              { state := if s.line.standbyBank.judge = .passed then .checked else .loading
                header := s.line.standbyBank.header
                places := s.line.standbyBank.places
                outcome := s.line.standbyBank.judge } }))

/-- The nine tests of a check, said of the segments themselves: a bank passes exactly when its header is loaded, every
place below its count is loaded, the starts begin at 0, rise strictly and stay below the line end, every marker lies in
its segment (the last segment's at its end as well), no two marker ids are the same, and every platform begins before it
ends, on the line. -/
def Obligations.BankPassesExactlyWhenSound : Prop :=
  ∀ b : Bank,
    b.judge = .passed ↔
      ∃ (h : Header) (gs : List Segment),
        b.header = some h ∧ b.places.take h.count = gs.map some ∧
        (∀ g, gs.head? = some g → g.start = 0) ∧
        gs.Pairwise (fun g k => g.start < k.start) ∧
        (∀ g ∈ gs, g.start < h.lineEnd) ∧
        (∀ i g m, gs[i]? = some g → g.marker = some m →
          g.start ≤ m.position ∧
          match gs[i + 1]? with
          | some k => m.position < k.start
          | none => m.position ≤ h.lineEnd) ∧
        ((gs.filterMap Segment.marker).map Marker.id).Nodup ∧
        (∀ g ∈ gs, ∀ p, g.platform = some p → p.fromPos < p.toPos ∧ p.toPos ≤ h.lineEnd)

/-- SWAP BANK is taken in INIT, and in PARKED at standstill, with the standby bank CHECKED: the banks change places. With
another line, or the first, the record becomes UNLOCALISED at 0 with the greatest uncertainty; with the same line it is
kept, but a position whose whole mm lie beyond the new line end (log 31) is clamped to it and the record lost. Captures,
checks and the span end. The authority stays with its end at most the new line end; the restrictions stay in order with
their ends clamped, those that then begin at or beyond their end leave, and the list version rises by 1 when the list
changes. ENGAGEMENT_UNPROVEN becomes inactive, POSITION_DEGRADED and ODOMETRY_DISAGREE follow the record, and every other
alert entry stands. Else REFUSED_STATE and nothing changes. -/
def Obligations.SwapBankExchangesTheBanks : Prop :=
  ∀ (t : Time) (tag : Byte) (s : State), s.linkReady →
    let taken := (s.sup.mode = .init ∨ (s.sup.mode = .parked ∧ s.odo.standstill = true)) ∧
      s.line.standbyBank.state = .checked
    let lineEnd := s.line.standbyBank.lineEnd
    let kept := (s.route.restrictions.map fun r => { r with toPos := min r.toPos lineEnd }).filter fun r =>
      decide (r.fromPos < r.toPos)
    (taken →
      ∃ u : State,
        exec (.swapBank t tag) s = .next (u.replied 0x1B tag (.done .nothing)) ∧
        u = { s.advance t with line := u.line, odo := u.odo, route := u.route, notice := u.notice } ∧
        u.line.active = some s.line.standby ∧
        u.line.bank s.line.standby = { s.line.standbyBank with state := .active } ∧
        (∀ o, s.line.active = some o → u.line.bank o = { s.line.bank o with state := .checked }) ∧
        ((∀ o, s.line.active = some o → (s.line.bank o).lineId ≠ s.line.standbyBank.lineId) →
          u.odo =
            { s.odo with
              capture := none, engagement := .idle, span := ⟨0, 0, 0⟩, lastPassed := none
              localisation := .unlocalised, position := 0, remainder := 0, uncertainty := 65535, lastAccepted := none
              distance := 0, distanceRem := 0, missed := 0, lossFlag := false }) ∧
        (∀ o, s.line.active = some o → (s.line.bank o).lineId = s.line.standbyBank.lineId →
          (s.odo.position ≤ lineEnd →
            u.odo = { s.odo with capture := none, engagement := .idle, span := ⟨0, 0, 0⟩, lastPassed := none }) ∧
          (lineEnd < s.odo.position → s.odo.localisation ≠ .unlocalised →
            u.odo =
              { s.odo with
                capture := none, engagement := .idle, span := ⟨0, 0, 0⟩, lastPassed := none
                position := lineEnd, remainder := 0, localisation := .unlocalised, uncertainty := 65535
                lossFlag := true }) ∧
          (lineEnd < s.odo.position → s.odo.localisation = .unlocalised →
            u.odo =
              { s.odo with
                capture := none, engagement := .idle, span := ⟨0, 0, 0⟩, lastPassed := none
                position := lineEnd, remainder := 0 })) ∧
        u.route =
          { s.route with
            authority := s.route.authority.map fun a => { a with endPos := min a.endPos lineEnd }
            restrictions := kept
            version := if kept = s.route.restrictions then s.route.version else s.route.version + 1 } ∧
        (s.notice.alerts.length = 21 →
          (u.notice.entry .engagementUnproven).active = false ∧
          ∀ k, u.notice.entry k = (s.notice.entry k).follow (u.odo.shows k))) ∧
    (¬taken → exec (.swapBank t tag) s = .next ((s.advance t).replied 0x1B tag .refusedState))

/-! ## Odometry -/

/-- INCREMENT on either counter. An edge at which both phases changed counts a phase error and does nothing else; any other
takes its direction from the raw direction and the orientation sign of its counter. A counted one moves its counter by 1,
joins its ring, of the newest 64, and leaves the other counter and ring, the error counts and every block but odometry,
alerts, link and the engagement hand-over as they are. Of the counter that is not the reference it does nothing more
than add its length to the accumulator of an ARMED check and, a wheel increment on RACK, to the agreement span: the
position record stands. -/
def Obligations.IncrementsAreCounted : Prop :=
  ∀ (t : Time) (c : Counter) (e : Edge) (s : State),
    let positive := decide ((match c with | .pinion => s.cfg.pinSign | .wheel => s.cfg.whlSign) ≠ 255)
    let d : Dir := if decide (e = .forward) = positive then .up else .down
    let one : BitVec 32 := if d = .up then 1#32 else -1#32
    let step := fun len : Nat => if d = .up then (len : Int) else -(len : Int)
    let ring := fun r : List RingEntry => r.drop (r.length - 63) ++ [⟨t, d, false⟩]
    (e = .bothPhases →
      exec (.increment t c e) s =
        .next
          (State.finish
            { s.advance t with
              odo :=
                match c with
                | .pinion => { s.odo with pinErrors := min (s.odo.pinErrors + 1) 65535 }
                | .wheel => { s.odo with whlErrors := min (s.odo.whlErrors + 1) 65535 } })) ∧
    (e ≠ .bothPhases → s.link.buffer = [] → s.odo.pinRing.length ≤ 64 → s.odo.whlRing.length ≤ 64 →
      ∃ u : State,
        exec (.increment t c e) s = .next u ∧
        u = { s.advance t with
              odo := u.odo, notice := u.notice, link := { s.link with tx := u.link.tx, waiting := u.link.waiting }
              sup := { s.sup with engagementFailure := u.sup.engagementFailure } } ∧
        (c = .pinion →
          u.odo.pinCount = s.odo.pinCount + one ∧ u.odo.whlCount = s.odo.whlCount ∧
          u.odo.pinRing = ring s.odo.pinRing ∧ u.odo.whlRing = s.odo.whlRing) ∧
        (c = .wheel →
          u.odo.whlCount = s.odo.whlCount + one ∧ u.odo.pinCount = s.odo.pinCount ∧
          u.odo.whlRing = ring s.odo.whlRing ∧ u.odo.pinRing = s.odo.pinRing) ∧
        u.odo.pinErrors = s.odo.pinErrors ∧ u.odo.whlErrors = s.odo.whlErrors ∧ u.odo.speed = s.odo.speed ∧
        u.odo.standstill = s.odo.standstill ∧ u.odo.direction = s.odo.direction ∧
        u.odo.log = s.odo.log ∧ u.odo.lastAccepted = s.odo.lastAccepted ∧
        (s.odo.capture = none → u.odo.capture = none) ∧
        (∀ k, s.odo.capture = some k → ∃ more, u.odo.capture = some { k with waiting := k.waiting ++ more })) ∧
    (e ≠ .bothPhases → c = .pinion → s.reference = .wheel → s.odo.pinRing.length ≤ 64 →
      exec (.increment t c e) s =
        .next
          (State.finish
            { s.advance t with
              odo := { s.odo with
                pinCount := s.odo.pinCount + one
                pinRing := ring s.odo.pinRing
                engagement := match s.odo.engagement with
                  | .armed i pin whl kept => .armed i (pin + step s.cfg.lPin) whl kept
                  | x => x } })) ∧
    (e ≠ .bothPhases → c = .wheel → s.reference = .pinion → s.odo.whlRing.length ≤ 64 →
      exec (.increment t c e) s =
        .next
          (State.finish
            { s.advance t with
              odo := { s.odo with
                whlCount := s.odo.whlCount + one
                whlRing := ring s.odo.whlRing
                span := { s.odo.span with whl := s.odo.span.whl + step s.cfg.lWhl }
                engagement := match s.odo.engagement with
                  | .armed i pin whl kept => .armed i pin (whl + step s.cfg.lWhl) kept
                  | x => x } }))

/-- A counted increment of the reference counter on an active bank. The position moves by exactly the increment length while
it stays on the line, and is clamped to the end it passes with the record lost. Inside the line u grows by g = length
times growth rate, rounded up: from the credit, else by whole mm with the rest as credit, up to 65,535. A pinion
increment adds to the agreement span, which is compared and emptied at 10 m (log 30). An ARMED engagement check
accumulates, and at a boundary is armed, decided or returned (logs 13, 14); a reversal zeroes it and ends the exclusion
of the last passed marker, the first increment after power-on being none (log 17). With no capture pending the expected
marker that the reader point leaves behind is missed; else its test joins those that wait for the capture (log 16). The
test of u follows a change of u, that of the missed count a missed marker (log 43), and the three conditions follow. -/
def Obligations.ReferenceIncrementMovesTheRecord : Prop :=
  (∀ (t : Time) (c : Counter) (e : Edge) (lineEnd : Nat) (s : State), s.link.buffer = [] → e ≠ .bothPhases →
    s.reference = c → s.lineEnd = some lineEnd →
    let positive := decide ((match c with | .pinion => s.cfg.pinSign | .wheel => s.cfg.whlSign) ≠ 255)
    let d : Dir := if decide (e = .forward) = positive then .up else .down
    let len : Nat := match c with
      | .pinion => s.cfg.lPin
      | .wheel => s.cfg.lWhl
    let rate : Nat := match c with
      | .pinion => s.cfg.pinRate
      | .wheel => s.cfg.whlRate
    let signed : Int := if d = .up then (len : Int) else -(len : Int)
    let place : Int := ((s.odo.position * 1000 + s.odo.remainder : Nat) : Int) + signed
    let g : Nat := (len * rate + 999) / 1000
    let more : Nat := (g - s.odo.credit + 999) / 1000
    let grown : Nat := if g ≤ s.odo.credit then s.odo.uncertainty else min (s.odo.uncertainty + more) 65535
    let pin : Int := if c = .pinion then s.odo.span.pin + signed else s.odo.span.pin
    let travel : Nat := if c = .pinion then s.odo.span.travel + len else s.odo.span.travel
    let diff : Nat := ((pin - s.odo.span.whl).natAbs + 999) / 1000
    let apart := 10000000 ≤ travel ∧ s.cfg.agreeTol < diff
    let inside := 0 ≤ place ∧ place ≤ (lineEnd : Int) * 1000
    let reversal := s.odo.lastRefDir = some (if d = .up then .down else .up)
    let waiting := { s with odo := { s.odo with lastPassed := if reversal then none else s.odo.lastPassed } }
    ∃ u : State,
      exec (.increment t c e) s = .next u ∧
      (inside →
        u.odo.position = place.toNat / 1000 ∧ u.odo.remainder = place.toNat % 1000 ∧
        u.odo.lossFlag = s.odo.lossFlag ∧ (u.odo.localisation = .unlocalised ↔ s.odo.localisation = .unlocalised) ∧
        u.odo.uncertainty = (if apart then min (grown + diff) 65535 else grown) ∧
        u.odo.credit = (if g ≤ s.odo.credit then s.odo.credit - g else more * 1000 - (g - s.odo.credit))) ∧
      (¬inside →
        u.odo.position = (if place < 0 then 0 else lineEnd) ∧ u.odo.remainder = 0 ∧
        u.odo.localisation = .unlocalised ∧
        (s.odo.localisation ≠ .unlocalised → u.odo.lossFlag = true ∧ u.odo.uncertainty = 65535)) ∧
      u.odo.movementUm = max (-65535000) (min 65535000 (s.odo.movementUm + signed)) ∧
      u.odo.distance = min (s.odo.distance + (s.odo.distanceRem + len) / 1000) 16777215 ∧
      u.odo.distanceRem = (s.odo.distanceRem + len) % 1000 ∧ u.odo.lastRefDir = some d ∧
      (u.odo.disagree = if 10000000 ≤ travel then decide (s.cfg.agreeTol < diff) else s.odo.disagree) ∧
      (∀ w v, s.pinionSegment = some w → u.pinionSegment = some v →
        let kept := match s.odo.engagement with
          | .idle => none
          | .armed _ _ _ k => k
          | .unproven k => some k
        let start : Engagement := match kept with
          | none => .idle
          | some k => .unproven k
        let armed := fun (i : Nat) (p q : Int) => s.odo.engagement = .armed i p q kept
        let p' := fun p : Int => (if reversal then 0 else p) + (if c = .pinion then signed else 0)
        let q' := fun q : Int => (if reversal then 0 else q) + (if c = .wheel then signed else 0)
        let ends := fun (x : Engagement) (failed : Bool) =>
          u.odo.engagement = x ∧ u.sup.engagementFailure = (s.sup.engagementFailure || failed)
        let counted : Span := if 10000000 ≤ travel then ⟨0, 0, 0⟩ else ⟨pin, s.odo.span.whl, travel⟩
        let crossed : Span := if w.seg.kind = .rack ∧ v.seg.kind = .rack then counted else ⟨0, 0, 0⟩
        (v.index = w.index →
          u.odo.span = counted ∧
          (∀ i p q, armed i p q → ends (.armed i (p' p) (q' q) kept) false) ∧
          ((∀ i p q, ¬armed i p q) → ends s.odo.engagement false)) ∧
        (d = .up → v.index = w.index + 1 →
          u.odo.span = crossed ∧
          (v.seg.kind = .rackEntry → ends (.armed v.index 0 0 kept) false) ∧
          (v.seg.kind ≠ .rackEntry → (∀ i p q, ¬armed i p q) → ends s.odo.engagement false) ∧
          (∀ i p q, armed i p q →
            (v.seg.kind = .adhesion → ends start false) ∧
            (v.seg.kind = .rack → i ≠ w.index → ends (.armed i (p' p) (q' q) kept) false) ∧
            (v.seg.kind = .rack → i = w.index →
              let size : Int := ((w.stop - w.start : Nat) : Int) * 1000
              (2 * q' q < size → ends (.unproven w.index) false) ∧
              (size ≤ 2 * q' q → (p' p - q' q).natAbs ≤ s.cfg.engageTol * 1000 → q' q ≤ 2 * p' p → ends .idle false) ∧
              (size ≤ 2 * q' q → s.cfg.engageTol * 1000 < (p' p - q' q).natAbs ∨ 2 * p' p < q' q → ends start true)))) ∧
        (d = .down → w.index = v.index + 1 →
          u.odo.span = crossed ∧
          (∀ p q, armed w.index p q → ends start false) ∧
          (∀ i p q, armed i p q → i ≠ w.index → ends (.armed i (p' p) (q' q) kept) false) ∧
          ((∀ i p q, ¬armed i p q) → ends s.odo.engagement false))) ∧
      (s.odo.capture = none → ∀ m, waiting.expectedToward d = some m →
        let reader : Int := (u.odo.position : Int) - s.cfg.readerOffset
        let behind := match d with
          | .up => (m.position : Int) + m.window + u.odo.uncertainty < reader
          | .down => reader < (m.position : Int) - m.window - u.odo.uncertainty
        (behind →
          u.odo.missed = min (s.odo.missed + 1) 255 ∧ u.odo.lastPassed = some m.id ∧
          (s.notice.alerts.length = 21 → (u.notice.entry .markerMissed).latched = true)) ∧
        (¬behind → u.odo.missed = s.odo.missed ∧ u.odo.lastPassed = waiting.odo.lastPassed)) ∧
      (s.odo.capture ≠ none ∨ waiting.expectedToward d = none →
        u.odo.missed = s.odo.missed ∧ u.odo.lastPassed = waiting.odo.lastPassed) ∧
      (u.odo.capture = s.odo.capture.map fun k =>
        match waiting.expectedToward d with
        | some m => if ⟨d, m⟩ ∈ k.waiting then k else { k with waiting := k.waiting ++ [⟨d, m⟩] }
        | none => k) ∧
      (inside → s.odo.localisation = .degraded → u.odo.localisation = .degraded) ∧
      (inside → s.odo.localisation = .localised →
        let tested := (grown ≠ s.odo.uncertainty ∧ (s.cfg.uMax ≤ grown ∨ 2 ≤ s.odo.missed)) ∨
          (apart ∧ (s.cfg.uMax ≤ u.odo.uncertainty ∨ 2 ≤ s.odo.missed))
        (tested → u.odo.localisation = .degraded) ∧
        (u.odo.missed ≠ s.odo.missed → 2 ≤ u.odo.missed → u.odo.localisation = .degraded) ∧
        (¬tested → u.odo.missed < 2 ∨ (u.odo.missed = s.odo.missed ∧ s.odo.missed < 255) →
          u.odo.localisation = .localised)) ∧
      (s.notice.alerts.length = 21 →
        (u.notice.entry .positionDegraded).active = (decide (u.odo.localisation = .degraded) || u.odo.lossFlag) ∧
        (u.notice.entry .odometryDisagree).active = u.odo.disagree ∧
        (u.notice.entry .engagementUnproven).active = u.odo.engagement.isUnproven)) ∧
  (∀ (g : Nat) (o : Odometry), o.credit < 1000 →
    let u := o.growUncertainty g
    u = { o with uncertainty := u.uncertainty, credit := u.credit } ∧ u.credit < 1000 ∧
    (u.uncertainty < 65535 →
      (u.uncertainty : Int) * 1000 - u.credit = (o.uncertainty : Int) * 1000 - o.credit + g))

/-- The events that fall due: RING_ENTRY_STALE marks the entries of age 2,000,000 µs, STANDSTILL_DECLARED declares
standstill when the ring shows it, AGREEMENT_SPAN_COMPLETE compares a span of 10 m, with ODOMETRY_DISAGREE and
POSITION_DEGRADED after it; none acts before it is due (log 5). -/
def Obligations.DueOdometryEventsAct : Prop :=
  ∀ (t : Time) (s : State),
    (let mark := fun e : RingEntry => (⟨e.time, e.dir, e.stale || decide (2000000 ≤ Time.since t e.time)⟩ : RingEntry)
     exec (.ringEntryStale t) s =
       .next
         (State.finish
           { s.advance t with
             odo := { s.odo with pinRing := s.odo.pinRing.map mark, whlRing := s.odo.whlRing.map mark } })) ∧
    (standsStill t s.cfg s.referenceRing = true → s.odo.standstill = false →
      exec (.standstillDeclared t) s =
        .next
          (State.finish
            { s.advance t with
              odo := { s.odo with
                speed := 0
                standstill := true
                movementUm := 0
                direction :=
                  match s.sup.drive.selector, s.referenceRing.getLast? with
                  | .up, _ => .up
                  | .down, _ => .down
                  | .neutral, some e => e.dir
                  | .neutral, none => .up } })) ∧
    (standsStill t s.cfg s.referenceRing = false ∨ s.odo.standstill = true →
      exec (.standstillDeclared t) s = .next (s.advance t).finish) ∧
    (s.odo.span.travel < 10000000 → exec (.agreementSpanComplete t) s = .next (s.advance t).finish) ∧
    (10000000 ≤ s.odo.span.travel → s.link.buffer = [] →
      let diff := ((s.odo.span.pin - s.odo.span.whl).natAbs + 999) / 1000
      ∃ u : State,
        exec (.agreementSpanComplete t) s = .next u ∧
        u = { s.advance t with
              odo := u.odo, notice := u.notice, link := { s.link with tx := u.link.tx, waiting := u.link.waiting } } ∧
        (s.cfg.agreeTol < diff →
          u.odo =
            { s.odo with
              disagree := true
              uncertainty := min (s.odo.uncertainty + diff) 65535
              span := ⟨0, 0, 0⟩
              localisation :=
                if s.odo.localisation = .localised ∧
                    (s.cfg.uMax ≤ min (s.odo.uncertainty + diff) 65535 ∨ 2 ≤ s.odo.missed) then .degraded
                else s.odo.localisation }) ∧
        (diff ≤ s.cfg.agreeTol → u.odo = { s.odo with disagree := false, span := ⟨0, 0, 0⟩ }) ∧
        (s.notice.alerts.length = 21 →
          (u.notice.entry .odometryDisagree).active = decide (s.cfg.agreeTol < diff) ∧
          ∀ k, u.notice.entry k = (s.notice.entry k).follow (u.odo.shows k)))

/-- MARKER_DETECTOR_EDGE: with no active bank or an UNLOCALISED record nothing, also while a capture pends (log 42); while
a capture is pending a rejection with its log entry, of the newest 8, and MARKER_UNEXPECTED; otherwise a capture of the
values at the edge, with the travel interpolated from the two newest entries of the reference ring. What it reads: the
segments of the active bank; the segment at the pinion point, the last whose start is at or below the point moved into
the line; the reference counter; the expected marker, the first in the direction of travel, other than the last passed
one, that the reader point has not left behind its window and u. -/
def Obligations.MarkerEdgeIsCapturedOrRejected : Prop :=
  (∀ (t : Time) (s : State), s.odo.log.length ≤ 8 →
    (s.line.active = none ∨ s.odo.localisation = .unlocalised →
      exec (.markerDetectorEdge t) s = .next (s.advance t).finish) ∧
    (s.line.active ≠ none → s.odo.localisation ≠ .unlocalised → s.odo.capture ≠ none →
      exec (.markerDetectorEdge t) s =
        .next
          (State.finish
            (State.raise .markerUnexpected
              { s.advance t with
                odo := { s.odo with
                  log := s.odo.log.drop (s.odo.log.length - 7) ++
                    [⟨t, 0, s.odo.position, s.odo.position, false⟩] } }))) ∧
    (s.line.active ≠ none → s.odo.localisation ≠ .unlocalised → s.odo.capture = none →
      let len : Nat := match s.reference with
        | .pinion => s.cfg.lPin
        | .wheel => s.cfg.lWhl
      ∃ k : Capture,
        exec (.markerDetectorEdge t) s =
          .next (State.finish { s.advance t with odo := { s.odo with capture := some k } }) ∧
        k.edgeTime = t ∧ k.edgeUm = s.odo.position * 1000 + s.odo.remainder ∧ k.uncertainty = s.odo.uncertainty ∧
        k.count = (match s.reference with | .pinion => s.odo.pinCount | .wheel => s.odo.whlCount) ∧
        k.newest = s.referenceRing.getLast? ∧ k.dir = s.markerDir ∧ k.expected = s.expectedMarker ∧ k.waiting = [] ∧
        (s.referenceRing.length ≤ 1 → k.before = none ∧ k.travel = 0) ∧
        (∀ older b n, s.referenceRing = older ++ [b, n] →
          k.before = some b ∧
          k.travel =
            (if n.stale = true ∨ b.stale = true then 0
            else if n.time = b.time then len
            else min len (len * Time.since t n.time / Time.since n.time b.time))))) ∧
  (∀ s : State,
    let bank : Option Bank := s.line.active.map fun n => match n with
      | .a => s.line.a
      | .b => s.line.b
    let reader : Int := (s.odo.position : Int) - s.cfg.readerOffset
    let meets := fun (d : Dir) (m : Marker) => s.odo.lastPassed ≠ some m.id ∧
      match d with
      | .up => reader - ((m.window : Int) + s.odo.uncertainty) ≤ m.position
      | .down => (m.position : Int) ≤ reader + ((m.window : Int) + s.odo.uncertainty)
    (∀ v : SegView, v ∈ s.views ↔
      ∃ b h, bank = some b ∧ b.header = some h ∧
        let places := b.places.take h.count
        places[v.index]? = some (some v.seg) ∧ v.start = v.seg.start ∧
        (v.last = true ↔ places.length = v.index + 1) ∧
        v.stop = match places[v.index + 1]? with
          | some (some g) => g.start
          | _ => h.lineEnd) ∧
    (∀ v : SegView, s.pinionSegment = some v ↔
      s.odo.localisation ≠ .unlocalised ∧ v ∈ s.views ∧
        ∃ b h, bank = some b ∧ b.header = some h ∧
          let point := min ((s.odo.position : Int) - s.cfg.pinionOffset).toNat h.lineEnd
          v.start ≤ point ∧ ∀ w ∈ s.views, w.start ≤ point → w.index ≤ v.index) ∧
    (s.reference = .pinion ↔ ∃ v, s.pinionSegment = some v ∧ v.seg.kind = .rack) ∧
    s.referenceRing = (match s.reference with | .pinion => s.odo.pinRing | .wheel => s.odo.whlRing) ∧
    s.markerDir = (match s.referenceRing.getLast? with | some e => e.dir | none => s.odo.direction) ∧
    s.expectedMarker = s.expectedToward s.markerDir ∧
    (∀ d m, s.expectedToward d = some m ↔
      ∃ v ∈ s.views, v.seg.marker = some m ∧ meets d m ∧
        ∀ w ∈ s.views, ∀ n, w.seg.marker = some n → meets d n →
          match d with
          | .up => v.index ≤ w.index
          | .down => w.index ≤ v.index))

/-- MATCH_COMPLETION always completes. Without a capture it does nothing; a capture of a record lost since is dropped with
the tests that wait for it (log 16). A matching capture corrects the position by the difference the edge showed,
localises the record and posts the MARKER report with the correction in mm; a correction off the line is clamped and
loses the record (log 15). Another capture is logged and MARKER_UNEXPECTED raised without moving the position. Then the
missed tests that waited for the capture are made at the position as corrected or left, the oldest first, that of the
last passed marker excluded: each marker left behind is missed, and the second missed one degrades the record (logs 16
and 43). Every alert entry is given: MARKER_UNEXPECTED and MARKER_MISSED by what is raised, POSITION_DEGRADED after the
acceptance and again after the missed tests, ENGAGEMENT_UNPROVEN inactive after an accepted marker; the others stand. -/
def Obligations.MatchCompletionCorrectsTheRecord : Prop :=
  ∀ (t : Time) (s : State), s.odo.log.length ≤ 8 →
    (s.odo.capture = none → exec (.matchCompletion t) s = .next (s.advance t).finish) ∧
    (s.odo.capture ≠ none → s.odo.localisation = .unlocalised ∨ s.lineEnd = none →
      exec (.matchCompletion t) s = .next (State.finish { s.advance t with odo := { s.odo with capture := none } })) ∧
    (∀ (k : Capture) (lineEnd : Nat), s.odo.capture = some k → s.odo.localisation ≠ .unlocalised →
      s.lineEnd = some lineEnd →
      let edge : Int := (k.edgeUm : Int) + (if k.dir = .up then (k.travel : Int) else -(k.travel : Int))
      let correction := fun m : Marker => ((m.position : Int) + s.cfg.readerOffset) * 1000 - edge
      let matching := fun m : Marker => k.expected = some m ∧ (correction m).natAbs ≤ (m.window + k.uncertainty) * 1000
      let log := s.odo.log.drop (s.odo.log.length - 7)
      let missedAt := fun (last : Option Nat) (position u : Nat) =>
        k.waiting.filter fun w =>
          let reader : Int := (position : Int) - s.cfg.readerOffset
          decide (last ≠ some w.marker.id) &&
            match w.dir with
            | .up => decide ((w.marker.position : Int) + w.marker.window + u < reader)
            | .down => decide (reader < (w.marker.position : Int) - w.marker.window - u)
      let latest := fun (last : Option Nat) (l : List WaitingTest) => match l.getLast? with
        | some w => some w.marker.id
        | none => last
      let raised := fun (e : AlertEntry) (n : Nat) =>
        if n = 0 then e else { e with latched := true, count := min (e.count + n) 255 }
      let alerts := fun l : List ReportBody => ∀ y ∈ l, ∃ kind cls forced latched, y = .alert kind cls forced latched
      (∀ m, matching m →
        let place : Int := ((s.odo.position * 1000 + s.odo.remainder : Nat) : Int) + correction m
        let inside := 0 ≤ place ∧ place ≤ (lineEnd : Int) * 1000
        let position : Nat := if place < 0 then 0 else if (lineEnd : Int) * 1000 < place then lineEnd else place.toNat / 1000
        let u : Nat := if inside then s.cfg.markerAccuracy else 65535
        let missed := missedAt (some m.id) position u
        ∃ x : State,
          exec (.matchCompletion t) s = .next x.finish ∧
          x = { s.advance t with odo := x.odo, notice := x.notice } ∧
          x.odo =
            { s.odo with
              position := position, remainder := if inside then place.toNat % 1000 else 0
              uncertainty := u, credit := 0, missed := min missed.length 255, distance := 0, distanceRem := 0
              lastAccepted := some m.id, lastPassed := latest (some m.id) missed, capture := none
              lossFlag := decide ¬inside
              localisation :=
                if ¬inside then .unlocalised
                else if s.cfg.markerAccuracy < s.cfg.uMax ∧ missed.length < 2 then .localised
                else .degraded
              log := log ++ [⟨k.edgeTime, m.id, s.odo.position, position, true⟩]
              engagement := match s.odo.engagement with
                | .armed i p q _ => if x.pinionSegment.map SegView.index = some i then .armed i p q none else .idle
                | _ => .idle
              span := if x.reference = .pinion then s.odo.span else ⟨0, 0, 0⟩ } ∧
          (s.notice.alerts.length = 21 →
            (x.notice.entry .engagementUnproven).active = false ∧
            ∀ kind, x.notice.entry kind =
              let e := s.notice.entry kind
              let accepted := e.follow (some (decide (¬inside ∨ s.cfg.uMax ≤ s.cfg.markerAccuracy)))
              match kind with
              | .markerMissed => raised e missed.length
              | .positionDegraded => accepted.follow (x.odo.shows kind)
              | _ => e.follow (x.odo.shows kind)) ∧
          (s.notice.queue.length ≤ 20 →
            ∃ before after,
              x.notice.queue.map Report.body =
                s.notice.queue.map Report.body ++ before ++ [.marker m.id ((correction m).tdiv 1000)] ++ after ∧
              alerts before ∧ alerts after ∧ (missed = [] → after = []))) ∧
      ((∀ m, ¬matching m) →
        let missed := missedAt s.odo.lastPassed s.odo.position s.odo.uncertainty
        ∃ x : State,
          exec (.matchCompletion t) s = .next x.finish ∧
          x = { s.advance t with odo := x.odo, notice := x.notice } ∧
          x.odo =
            { s.odo with
              capture := none, log := log ++ [⟨k.edgeTime, 0, s.odo.position, s.odo.position, false⟩]
              missed := if missed = [] then s.odo.missed else min (s.odo.missed + missed.length) 255
              lastPassed := latest s.odo.lastPassed missed
              localisation :=
                if s.odo.localisation = .localised ∧ missed ≠ [] ∧ 2 ≤ s.odo.missed + missed.length then .degraded
                else s.odo.localisation } ∧
          (s.notice.alerts.length = 21 →
            ∀ kind, x.notice.entry kind =
              let e := s.notice.entry kind
              let first := e.follow
                (some (decide (s.odo.localisation = .degraded ∨ s.odo.lossFlag = true ∨ 1 ≤ s.odo.missed)))
              match kind with
              | .markerUnexpected => raised e 1
              | .markerMissed => raised e missed.length
              | .positionDegraded => if missed = [] then e else first.follow (x.odo.shows kind)
              | _ => if missed = [] then e else e.follow (x.odo.shows kind))))

/-- SET POSITION is taken in PARKED and SHUNT at standstill with an active bank, for a position on its line: the record
takes the position and the greater of the given uncertainty and the marker accuracy. An ARMED check whose segment no
longer holds the pinion point returns to the state before it was armed, and an UNPROVEN one is kept, as is
ENGAGEMENT_UNPROVEN; POSITION_DEGRADED follows the record, and every other alert entry stands. A position beyond the line
end is BAD_FIELD 1; in any other case REFUSED_STATE; then nothing changes. -/
def Obligations.SetPositionPlacesTheCar : Prop :=
  ∀ (t : Time) (tag : Byte) (position : BitVec 24) (u : BitVec 16) (s : State), s.linkReady →
    let mayPlace := (s.sup.mode = .parked ∨ s.sup.mode = .shunt) ∧ s.odo.standstill = true
    (∀ lineEnd, mayPlace → s.lineEnd = some lineEnd → position.toNat ≤ lineEnd →
      ∃ x : State,
        exec (.setPosition t tag position u) s = .next (x.replied 0x10 tag (.done .nothing)) ∧
        x = { s.advance t with odo := x.odo, notice := x.notice } ∧
        x.odo =
          { s.odo with
            position := position.toNat
            remainder := 0
            uncertainty := max u.toNat s.cfg.markerAccuracy
            credit := 0
            missed := 0
            lastPassed := none
            lastAccepted := none
            distance := 0
            distanceRem := 0
            capture := none
            span := ⟨0, 0, 0⟩
            localisation := if max u.toNat s.cfg.markerAccuracy < s.cfg.uMax then .localised else .degraded
            lossFlag := false
            engagement := match s.odo.engagement with
              | .armed i p q kept =>
                if x.pinionSegment.map SegView.index = some i then .armed i p q kept
                else
                  match kept with
                  | none => .idle
                  | some k => .unproven k
              | e => e } ∧
        (x.odo.shows .engagementUnproven = s.odo.shows .engagementUnproven) ∧
        (s.notice.alerts.length = 21 → ∀ k, x.notice.entry k = (s.notice.entry k).follow (x.odo.shows k))) ∧
    (∀ lineEnd, mayPlace → s.lineEnd = some lineEnd → lineEnd < position.toNat →
      exec (.setPosition t tag position u) s = .next ((s.advance t).replied 0x10 tag (.badField 1))) ∧
    (¬mayPlace ∨ s.lineEnd = none →
      exec (.setPosition t tag position u) s = .next ((s.advance t).replied 0x10 tag .refusedState))

/-! ## Supervision -/

/-- A SUPERVISION_PASS in SHUNT or LINE that meets a cause trips the car: TRIPPED at EMERGENCY with a trip record of the
first cause in the cause order and all causes met, and all three brakes demanded. Each cause is met exactly as its rule
says, but for BRAKE_EFFORT, which EffortWindowIsJudged states. A pass in TRIPPED keeps mode, level and the record's
first fields; the overrun, the open entrance, the engagement failure and the output fault it meets join the cause set,
in its order, and each that joins raises TRIP again. The entry raises TRIP and then reports MODE CHANGE before
INTERVENTION, its ALERT before both (log 39); a pass that meets a cause leaves a due effort window
unjudged (log 53). -/
def Obligations.PassTripsOnACause : Prop :=
  ∀ (t : Time) (s : State), s.link.buffer = [] →
    let p := (s.advance t).odometryPass
    let r := p.passResults.1
    let passed := fun q : Nat => match r.dir with
      | .up => q < r.front
      | .down => r.front < q
    let overrun := (∃ a, s.route.authority = some a ∧ a.dir = r.dir ∧ passed a.endPos) ∨
      ((∀ a, s.route.authority = some a → a.dir ≠ r.dir) ∧
        ∃ q, s.sup.stopPoint = some q ∧ q.dir = r.dir ∧ passed q.position)
    let openMoving := s.ent.allLocked = false ∧ s.cfg.entranceMoving < p.movement.natAbs
    (s.sup.mode = .shunt ∨ s.sup.mode = .line →
      let causes := p.causesRunning r (p.overrun r).2
      (.overspeed ∈ causes ↔ r.permitted + s.cfg.mE < r.speed) ∧
      (.authorityOverrun ∈ causes ↔ s.sup.mode = .line ∧ overrun) ∧
      (.entranceOpenMoving ∈ causes ↔ openMoving) ∧
      (.rollaway ∈ causes ↔
        match s.sup.drive.selector with
        | .neutral => s.cfg.rollaway < p.movement.natAbs
        | .up => p.movement < -(s.cfg.rollaway : Int)
        | .down => (s.cfg.rollaway : Int) < p.movement) ∧
      (.rackEngagement ∈ causes ↔ s.sup.engagementFailure = true) ∧
      (.outputFault ∈ causes ↔ s.sup.outputFault = true) ∧
      .brakeEffort ∉ causes ∧ causes.Pairwise (fun a b => a.number < b.number) ∧
      (∀ first more, causes = first :: more →
        ∃ u : State,
          exec (.supervisionPass t) s = .next u ∧
          u = { s.advance t with
                odo := p.odo, sup := u.sup, notice := u.notice
                link := { s.link with tx := u.link.tx, waiting := u.link.waiting } } ∧
          u.sup.mode = .tripped ∧ u.sup.level = .emergency ∧ u.sup.modeBefore = some s.sup.mode ∧
          u.sup.trip = some ⟨first, s.odo.position, r.speed, r.permitted, t, s.sup.mode, causes⟩ ∧
          u.sup.effort = .idle ∧ u.sup.engagementFailure = false ∧ u.sup.outputFault = false ∧
          64 ≤ u.sup.demands.service ∧ u.sup.demands.band = .apply ∧ u.sup.demands.emergency = .apply ∧
          (s.notice.alerts.length = 21 →
            (u.notice.entry .trip).latched = true ∧
            (u.notice.entry .trip).count = min ((s.notice.entry .trip).count + 1) 255 ∧
            (u.notice.entry .overspeedWarning).active = false ∧
            (u.notice.entry .serviceIntervention).active = false) ∧
          (s.link.tx ≠ none → s.notice.alerts.length = 21 → s.notice.queue.length ≤ 20 →
            ∃ alerts : List ReportBody,
              (∀ y ∈ alerts, ∃ kind cls forced latched, y = .alert kind cls forced latched) ∧
              u.notice.queue.map Report.body =
                s.notice.queue.map Report.body ++ alerts ++ [.modeChange s.sup.mode .tripped .trip] ++
                  (if s.sup.level = .emergency then []
                  else [.intervention s.sup.level .emergency r.speed r.permitted])))) ∧
    (∀ tr, s.sup.mode = .tripped → s.sup.trip = some tr → tr.causes.Pairwise (fun a b => a.number < b.number) →
      s.notice.alerts.length = 21 →
      ∃ (u : State) (causes : List Cause),
        exec (.supervisionPass t) s = .next u ∧ u.sup.mode = .tripped ∧ u.sup.level = s.sup.level ∧
        u.sup.trip = some { tr with causes := causes } ∧
        (∀ c, c ∈ causes ↔ c ∈ tr.causes ∨
          match c with
          | .authorityOverrun => s.sup.modeBefore = some .line ∧ overrun
          | .entranceOpenMoving => openMoving
          | .rackEngagement => s.sup.engagementFailure = true
          | .outputFault => s.sup.outputFault = true
          | _ => False) ∧
        causes.Pairwise (fun a b => a.number < b.number) ∧
        (u.notice.entry .trip).count =
          (if causes.length = tr.causes.length then (s.notice.entry .trip).count
          else min ((s.notice.entry .trip).count + (causes.length - tr.causes.length)) 255) ∧
        (u.notice.entry .trip).latched =
          ((s.notice.entry .trip).latched || decide (tr.causes.length < causes.length)) ∧
        u.sup.engagementFailure = false ∧ u.sup.outputFault = false)

/-- A SUPERVISION_PASS in SHUNT or LINE that meets no cause, nor BRAKE_EFFORT, keeps the mode and sets the level: SERVICE
above the permitted speed by more than m_s, held until v is m_r below it; WARNING above it; else NONE. Its condition
alerts follow, and a change of level posts its INTERVENTION report before theirs (log 47). The effort monitor starts at a
pass that demands full service of a moving car, ends at one that does not, runs on within its window, and starts the next
window when the deceleration sufficed. -/
def Obligations.PassSetsTheLevel : Prop :=
  ∀ (t : Time) (s : State), s.link.buffer = [] → s.sup.mode = .shunt ∨ s.sup.mode = .line →
    s.notice.alerts.length = 21 →
    let p := (s.advance t).odometryPass
    let r := p.passResults.1
    let level : Level :=
      if s.sup.level = .service then (if r.speed + s.cfg.mR ≤ r.permitted then .none else .service)
      else if r.permitted + s.cfg.mS < r.speed then .service
      else if r.permitted < r.speed then .warning
      else .none
    let demand :=
      max s.sup.drive.brake (max (if level = .service then 64 else 0) (if s.ent.allLocked then 0 else s.cfg.holdLevel))
    let judged := fun start : Time => 64 ≤ demand ∧ 0 < r.speed ∧ s.cfg.tCheck * 1000 ≤ Time.since t start
    let brakes := fun (start : Time) (v0 : Nat) =>
      (((s.cfg.kEff * r.netService + 99) / 100 : Nat) : Int) ≤
        (((v0 : Int) - r.speed) * 1000).fdiv ((Time.since t start / 1000 : Nat) : Int)
    p.causesRunning r (p.overrun r).2 = [] →
    (∀ start v0, s.sup.effort = .running start v0 → judged start → brakes start v0) →
    ∃ u : State,
      exec (.supervisionPass t) s = .next u ∧ u.sup.mode = s.sup.mode ∧ u.sup.trip = s.sup.trip ∧
      u.sup.level = level ∧ u.sup.demands.service = demand ∧
      (u.notice.entry .overspeedWarning).active = decide (r.permitted < r.speed) ∧
      (u.notice.entry .serviceIntervention).active = decide (level = .service) ∧
      (s.sup.effort = .idle → u.sup.effort = (if demand = 64 ∧ 0 < r.speed then .running t r.speed else .idle)) ∧
      (∀ start v0, s.sup.effort = .running start v0 →
        (demand < 64 ∨ r.speed = 0 → u.sup.effort = .idle) ∧
        (64 ≤ demand → 0 < r.speed → Time.since t start < s.cfg.tCheck * 1000 → u.sup.effort = .running start v0) ∧
        (judged start → u.sup.effort = .running t r.speed)) ∧
      (s.link.tx ≠ none → s.notice.queue.length ≤ 20 →
        let alerts := fun (names : List AlertKind) (l : List ReportBody) =>
          ∀ y ∈ l, ∃ kind ∈ names, ∃ cls forced latched, y = .alert kind cls forced latched
        ∃ before after,
          alerts [.supervisionFault] before ∧ alerts [.overspeedWarning, .serviceIntervention] after ∧
          u.notice.queue.map Report.body =
            s.notice.queue.map Report.body ++ before ++
              (if s.sup.level = level then [] else [.intervention s.sup.level level r.speed r.permitted]) ++ after)

/-- Every SUPERVISION_PASS, in every mode, first forms the odometry verdicts: entries 2 s old go stale, the speed is
that of the fresh entries within W or falls with the age of the newest, standstill needs fewer than two in W and none
younger than t_still, the direction is that of the newest fresh entry or, standing, of the selector, and movement is 0
when standstill begins. It keeps the results and the position of its inputs, fixes, replaces or clears the stop point,
writes the first enabled fault it found, and sets and prepares the three brake demands from the mode and level it
leaves. In INIT, PARKED and TRIPPED it changes neither mode nor level. -/
def Obligations.PassSetsTheDemands : Prop :=
  ∀ (t : Time) (s : State), s.link.buffer = [] →
    let p := (s.advance t).odometryPass
    let r := p.passResults.1
    let mark := fun e : RingEntry => (⟨e.time, e.dir, e.stale || decide (2000000 ≤ Time.since t e.time)⟩ : RingEntry)
    let fresh := (s.referenceRing.map mark).filter fun e => !e.stale
    let inside := fresh.filter fun e => decide (Time.since t e.time < s.cfg.window * 1000)
    let len : Nat := match s.reference with
      | .pinion => s.cfg.lPin
      | .wheel => s.cfg.lWhl
    ∃ u : State,
      exec (.supervisionPass t) s = .next u ∧
      u = { s.advance t with
            odo := u.odo, sup := u.sup, notice := u.notice
            link := { s.link with tx := u.link.tx, waiting := u.link.waiting } } ∧
      u.odo = p.odo ∧
      u.odo =
        { s.odo with
          pinRing := s.odo.pinRing.map mark, whlRing := s.odo.whlRing.map mark
          speed := u.odo.speed, standstill := u.odo.standstill, direction := u.odo.direction
          movementUm := if u.odo.standstill = true ∧ s.odo.standstill = false then 0 else s.odo.movementUm } ∧
      (u.odo.standstill = true ↔
        inside.length < 2 ∧ ∀ e, fresh.getLast? = some e → s.cfg.tStill * 1000 ≤ Time.since t e.time) ∧
      (u.odo.standstill = true → u.odo.speed = 0) ∧
      (∀ young old : RingEntry, 2 ≤ inside.length → young ∈ inside → old ∈ inside →
        (∀ e ∈ inside, Time.since t young.time ≤ Time.since t e.time ∧ Time.since t e.time ≤ Time.since t old.time) →
        let span := Time.since t old.time - Time.since t young.time
        u.odo.speed =
          (if span = 0 then 15000 else min (((inside.length - 1) * len * 1000 + (span - 1)) / span) 15000)) ∧
      (∀ e, inside.length < 2 → u.odo.standstill = false → fresh.getLast? = some e →
        let age := Time.since t e.time
        u.odo.speed =
          (if age = 0 then s.odo.speed else min (min s.odo.speed ((len * 1000 + (age - 1)) / age)) 15000)) ∧
      (u.odo.standstill = false → ∀ e, fresh.getLast? = some e → u.odo.direction = e.dir) ∧
      (u.odo.standstill = true →
        u.odo.direction =
          match s.sup.drive.selector, s.referenceRing.getLast? with
          | .up, _ => .up
          | .down, _ => .down
          | .neutral, some e => e.dir
          | .neutral, none => .up) ∧
      u.sup.pass = r ∧ u.sup.inputPosition = s.odo.position ∧ u.sup.holdLevel = s.cfg.holdLevel ∧
      u.sup.drive = s.sup.drive ∧ u.sup.testStep = s.sup.testStep ∧
      (s.sup.mode = .line ∨ (s.sup.mode = .tripped ∧ s.sup.modeBefore = some .line) →
        u.sup.stopPoint =
          if s.route.authority.any fun a => a.dir == r.dir then none
          else
            match s.sup.stopPoint with
            | some q => if q.dir = r.dir then some q else some ⟨r.front, r.dir⟩
            | none => some ⟨r.front, r.dir⟩) ∧
      (¬(s.sup.mode = .line ∨ (s.sup.mode = .tripped ∧ s.sup.modeBefore = some .line)) →
        u.sup.stopPoint = s.sup.stopPoint) ∧
      (let enabled := fun k : FaultKind => s.cfg.enables.testBit (match k with
         | .unsurveyed => 0
         | .unbrakeable => 1
         | .test => 2)
       u.sup.faultSeen = (s.sup.faultSeen || decide (p.passResults.2 ≠ [])) ∧
       ((∀ f ∈ p.passResults.2, enabled f.1 = false) → u.sup.faultRecord = s.sup.faultRecord) ∧
       (∀ before f after, p.passResults.2 = before ++ f :: after → (∀ g ∈ before, enabled g.1 = false) →
         enabled f.1 = true →
         u.sup.faultRecord = some ⟨f.1, f.2, s.odo.position, t⟩ ∧
         (s.notice.alerts.length = 21 → (u.notice.entry .supervisionFault).latched = true))) ∧
      (let runs := u.sup.mode = .shunt ∨ u.sup.mode = .line
       u.sup.demands.service =
         max s.sup.drive.brake
           (max (if runs ∧ u.sup.level ≠ .service then 0 else 64) (if s.ent.allLocked then 0 else s.cfg.holdLevel)) ∧
       (u.sup.demands.band = .release ↔
         runs ∧ s.ent.allLocked = true ∧
           (u.odo.standstill = false ∨ s.sup.drive.traction = true ∨
             ∃ v, s.pinionSegment = some v ∧ v.seg.kind = .adhesion)) ∧
       (u.sup.demands.emergency = .release ↔ runs)) ∧
      u.sup.prepared = ⟨some u.sup.demands.service, some u.sup.demands.band, some u.sup.demands.emergency⟩ ∧
      (s.sup.mode = .init ∨ s.sup.mode = .parked ∨ s.sup.mode = .tripped →
        u.sup.mode = s.sup.mode ∧ u.sup.level = s.sup.level ∧ u.sup.effort = .idle ∧
        (s.sup.mode ≠ .tripped →
          u.sup.engagementFailure = s.sup.engagementFailure ∧ u.sup.outputFault = s.sup.outputFault ∧
          u.sup.trip = s.sup.trip))

/-- EFFORT_WINDOW_JUDGEMENT: when t_check has elapsed in SHUNT or LINE it is that pass, in which, with no other cause, full
service demanded and the car moving, a deceleration below k_eff of the net service retardation trips it with
BRAKE_EFFORT and a sufficient one starts the next window; before that it does nothing (log 6). -/
def Obligations.EffortWindowIsJudged : Prop :=
  ∀ (t start : Time) (v0 : Nat) (s : State), s.link.buffer = [] → s.sup.effort = .running start v0 →
    s.sup.mode = .shunt ∨ s.sup.mode = .line →
    (s.cfg.tCheck * 1000 ≤ Time.since t start →
      let p := (s.advance t).odometryPass
      let r := p.passResults.1
      let level := levelAfter s.cfg s.sup.level r.speed r.permitted
      let measured : Int := (((v0 : Int) - r.speed) * 1000).fdiv ((Time.since t start / 1000 : Nat) : Int)
      let required : Nat := (s.cfg.kEff * r.netService + 99) / 100
      ∃ u : State,
        exec (.effortWindowJudgement t) s = .next u ∧ exec (.supervisionPass t) s = .next u ∧
        (p.causesRunning r (p.overrun r).2 = [] → 0 < r.speed →
          64 ≤ serviceDemand s.cfg s.sup.mode level s.sup.drive.brake s.ent.allLocked →
          (measured < required →
            u.sup.mode = .tripped ∧
            u.sup.trip = some ⟨.brakeEffort, s.odo.position, r.speed, r.permitted, t, s.sup.mode, [.brakeEffort]⟩) ∧
          (required ≤ measured → u.sup.mode = s.sup.mode ∧ u.sup.effort = .running t r.speed))) ∧
    (Time.since t start < s.cfg.tCheck * 1000 → exec (.effortWindowJudgement t) s = .next (s.advance t).finish)

/-- SET MODE with PARKED, SHUNT or LINE: which changes are taken and what they leave, with the MODE CHANGE report before the
INTERVENTION report of a changed level (log 39), SERVICE_INTERVENTION as the level gives and every other entry; the mode it already is in is DONE with no effect; during a detector
test, and for every other change, REFUSED_STATE with no effect. -/
def Obligations.SetModeChangesTheMode : Prop :=
  ∀ (t : Time) (tag : Byte) (new : Mode) (c : Instr) (s : State), s.linkReady →
    (new = .parked ∧ c = .setModeParked t tag) ∨ (new = .shunt ∧ c = .setModeShunt t tag) ∨
      (new = .line ∧ c = .setModeLine t tag) →
    let allowed :=
      (s.sup.mode = .init ∧ new = .parked ∧ s.configured = true ∧ s.line.active ≠ none) ∨
      (s.sup.mode = .tripped ∧ new = .parked ∧ s.odo.standstill = true) ∨
      ((s.sup.mode = .parked ∨ s.sup.mode = .shunt ∨ s.sup.mode = .line) ∧ s.odo.standstill = true ∧
        (new = .line → s.odo.localisation ≠ .unlocalised))
    (s.sup.testStep ≠ 0 → exec c s = .next ((s.advance t).replied 0x01 tag .refusedState)) ∧
    (s.sup.testStep = 0 → s.sup.mode = new → exec c s = .next ((s.advance t).replied 0x01 tag (.done .nothing))) ∧
    (s.sup.testStep = 0 → s.sup.mode ≠ new → ¬allowed →
      exec c s = .next ((s.advance t).replied 0x01 tag .refusedState)) ∧
    (s.sup.testStep = 0 → s.sup.mode ≠ new → allowed →
      ∃ x : State,
        exec c s = .next (x.replied 0x01 tag (.done .nothing)) ∧
        x = { s.advance t with
              sup := { s.sup with
                mode := new
                modeBefore := if s.sup.mode = .tripped then none else s.sup.modeBefore
                effort := .idle
                stopPoint := none
                level :=
                  if (s.sup.mode = .shunt ∧ new = .line) ∨ (s.sup.mode = .line ∧ new = .shunt) then s.sup.level
                  else .none }
              notice := x.notice } ∧
        (s.notice.alerts.length = 21 →
          (x.notice.entry .serviceIntervention).active = decide (x.sup.level = .service) ∧
          ∀ k, x.notice.entry k =
            (s.notice.entry k).follow
              (if k = .serviceIntervention then some (decide (x.sup.level = .service)) else none)) ∧
        (s.notice.queue.length ≤ 21 →
          ∃ after,
            (∀ y ∈ after, ∃ cls forced latched, y = .alert .serviceIntervention cls forced latched) ∧
            x.notice.queue.map Report.body =
              s.notice.queue.map Report.body ++ [.modeChange s.sup.mode new .request] ++
                (if s.sup.level = x.sup.level then []
                else [.intervention s.sup.level x.sup.level s.sup.pass.speed s.sup.pass.permitted]) ++ after))

/-- Requests taken in every mode that set one thing each: DRIVE STATE, CLEAR FAULT RECORD, CLEAR RADIO COUNTERS and
UPLINK NOTE, with the requests they turn away; a selector out of range is named before the traction request (log 44).
The characters that a note may carry are the 64 of the note character set, each coded by its place in it. -/
def Obligations.SettingRequestsSetOneThing : Prop :=
  (∀ (b : Byte) (n : Nat),
    noteCode b = some n ↔
      (" 0123456789ABCDEFGHIJKLMNOPQRSTUVWXYZ.,:;-+/()!?'\"#%&*=<>@_[]$~^".toList.map Char.toNat)[n]? = some b.toNat) ∧
  ∀ (t : Time) (tag : Byte) (s : State), s.linkReady →
    (∀ selector traction brake : Byte,
      (selector.toNat ≤ 2 → traction.toNat ≤ 1 →
        exec (.driveState t tag selector traction brake) s =
          .next (State.replied 0x02 tag (.done .nothing)
            { s.advance t with
              sup := { s.sup with
                drive :=
                  ⟨if selector = 0#8 then .up else if selector = 1#8 then .down else .neutral,
                    decide (traction = 1#8), min brake.toNat 64⟩ } })) ∧
      (2 < selector.toNat →
        exec (.driveState t tag selector traction brake) s = .next ((s.advance t).replied 0x02 tag (.badField 1))) ∧
      (selector.toNat ≤ 2 → 1 < traction.toNat →
        exec (.driveState t tag selector traction brake) s = .next ((s.advance t).replied 0x02 tag (.badField 2)))) ∧
    exec (.clearFaultRecord t tag) s =
      .next (State.replied 0x05 tag (.done .nothing)
        { s.advance t with sup := { s.sup with faultRecord := none, faultSeen := false } }) ∧
    exec (.clearRadioCounters t tag) s =
      .next (State.replied 0x23 tag (.done .nothing)
        { s.advance t with
          radio := { s.radio with goodFrames := 0, crcErrors := 0, alignErrors := 0, huntRestarts := 0 } }) ∧
    (∀ text : List Byte,
      (text = [] ∨ 24 < text.length ∨ (∃ b ∈ text, noteCode b = none) →
        exec (.uplinkNote t tag text) s = .next ((s.advance t).replied 0x24 tag (.badField 1))) ∧
      (text ≠ [] → text.length ≤ 24 → (∀ b ∈ text, noteCode b ≠ none) → 4 ≤ s.radio.notes.length →
        exec (.uplinkNote t tag text) s = .next ((s.advance t).replied 0x24 tag .full)) ∧
      (text ≠ [] → text.length ≤ 24 → (∀ b ∈ text, noteCode b ≠ none) → s.radio.notes.length < 4 →
        exec (.uplinkNote t tag text) s =
          .next (State.replied 0x24 tag (.done .nothing)
            { s.advance t with radio := { s.radio with notes := s.radio.notes ++ [text] } })))

/-- RELEASE TRIP is taken in TRIPPED at standstill: the mode before trip returns at level NONE with no trip record, no stop
point and an idle effort monitor, MODE CHANGE with cause RELEASE is posted before INTERVENTION, SERVICE_INTERVENTION is
inactive and every other alert entry stands; else REFUSED_STATE. -/
def Obligations.ReleaseTripReturnsTheMode : Prop :=
  ∀ (t : Time) (tag : Byte) (s : State), s.linkReady →
    (∀ back, s.sup.mode = .tripped → s.odo.standstill = true → s.sup.modeBefore = some back →
      ∃ x : State,
        exec (.releaseTrip t tag) s = .next (x.replied 0x03 tag (.done .nothing)) ∧
        x = { s.advance t with
              sup := { s.sup with
                mode := back, modeBefore := none, trip := none, stopPoint := none, effort := .idle, level := .none }
              notice := x.notice } ∧
        (s.notice.alerts.length = 21 →
          ∀ k, x.notice.entry k =
            (s.notice.entry k).follow (if k = .serviceIntervention then some false else none)) ∧
        (s.sup.level ≠ .none → s.notice.queue.length ≤ 22 →
          x.notice.queue.map Report.body =
            s.notice.queue.map Report.body ++
              [.modeChange .tripped back .release, .intervention s.sup.level .none s.sup.pass.speed s.sup.pass.permitted])) ∧
    (s.sup.mode ≠ .tripped ∨ s.odo.standstill = false →
      exec (.releaseTrip t tag) s = .next ((s.advance t).replied 0x03 tag .refusedState))

/-- DETECTOR TEST is taken in PARKED at standstill: the test step advances, from 5 to 0, and is answered. Steps 3 and 0
clear every forced and latched flag and every raise count; each step then forces its kinds, of which those neither
forced nor active latch and count, step 4 raises MARKER_MISSED, and step 5, its TEST enable set, SUPERVISION_FAULT. Every
entry is given whole, no active flag changes, and each kind that latches anew posts its ALERT report with its forced mark,
in the order of R124's table (log 39). Step 5 makes a TEST fault, recorded with its time and the position of the latest
pass's inputs (log 40). Else REFUSED_STATE and nothing changes. -/
def Obligations.DetectorTestForcesTheStepsFlags : Prop :=
  ∀ (t : Time) (tag : Byte) (s : State), s.linkReady → s.notice.alerts.length = 21 → s.sup.testStep ≤ 5 →
    let n := (s.sup.testStep + 1) % 6
    (s.sup.mode = .parked → s.odo.standstill = true →
      ∃ x : State,
        exec (.detectorTest t tag) s = .next (x.replied 0x04 tag (.done (.step n))) ∧
        x = { s.advance t with
              sup := { s.sup with testStep := n, faultSeen := x.sup.faultSeen, faultRecord := x.sup.faultRecord }
              notice := x.notice } ∧
        (let forces : List AlertKind := match n with
           | 1 => [.overspeedWarning, .serviceIntervention]
           | 2 => [.radioDegraded, .radioLost]
           | 3 => [.entranceObstructed, .odometryDisagree]
           | 4 => [.positionDegraded]
           | _ => []
         let raises : List AlertKind := match n with
           | 4 => [.markerMissed]
           | 5 => if s.cfg.enables.testBit 2 then [.supervisionFault] else []
           | _ => []
         let before := fun k : AlertKind =>
           let e := s.notice.entry k
           if n = 3 ∨ n = 0 then ({ e with forced := false, latched := false, count := 0 } : AlertEntry) else e
         let latches := fun k : AlertKind =>
           k ∈ raises ∨ (k ∈ forces ∧ (before k).forced = false ∧ (before k).active = false)
         let news := (forces ++ raises).filter fun k => decide (latches k ∧ (before k).latched = false)
         (∀ k : AlertKind,
           let e := before k
           x.notice.entry k =
             { active := e.active
               forced := e.forced || decide (k ∈ forces)
               latched := e.latched || decide (latches k)
               count := if latches k then min (e.count + 1) 255 else e.count }) ∧
         (s.notice.queue.length ≤ 22 →
           ∃ sets : AlertKind → BitVec 24,
             x.notice.queue.map Report.body =
               s.notice.queue.map Report.body ++
                 (news.map fun k => .alert k k.cls (x.notice.entry k).forced (sets k)) ∧
             (∀ k, news.getLast? = some k → sets k = x.notice.latchedSet) ∧
             (∀ j k, news = [j, k] → sets j = x.notice.latchedSet &&& ~~~(1#24 <<< k.number)))) ∧
        (n = 5 → x.sup.faultSeen = true ∧
          x.sup.faultRecord =
            (if s.cfg.enables.testBit 2 then some ⟨.test, none, s.sup.inputPosition, t⟩ else s.sup.faultRecord)) ∧
        (n ≠ 5 → x.sup.faultSeen = s.sup.faultSeen ∧ x.sup.faultRecord = s.sup.faultRecord)) ∧
    (s.sup.mode ≠ .parked ∨ s.odo.standstill = false →
      exec (.detectorTest t tag) s = .next ((s.advance t).replied 0x04 tag .refusedState))

/-- The permitted speed of an entry with target speed `vt`, net service retardation `a` and effective distance: 0 when `a`
is unbrakeable; the target speed within the reaction distance; else the exact root of vt² + 2·a·d_eff rounded down, at
most 15,000, never below the target speed and never rising as the car nears the target. -/
def Obligations.PermittedSpeedOfAnEntry : Prop :=
  ∀ (c : ConfigRecord) (worst : Int) (distance reaction vt : Nat),
    let a := netService c worst
    let v := permittedAt c worst distance reaction vt
    let q : Int := (vt : Int) * vt + 2 * a * ((distance : Int) - reaction)
    (a < c.aFloor → v = 0) ∧
    ((c.aFloor : Int) ≤ a → distance ≤ reaction → v = vt) ∧
    ((c.aFloor : Int) ≤ a → reaction < distance → 225000000 ≤ q → v = 15000) ∧
    ((c.aFloor : Int) ≤ a → reaction < distance → q < 225000000 →
      (v : Int) * v ≤ q ∧ q < ((v : Int) + 1) * ((v : Int) + 1)) ∧
    ((c.aFloor : Int) ≤ a → vt ≤ 15000 → vt ≤ v ∧ v ≤ 15000 ∧
      ∀ nearer, nearer ≤ distance → permittedAt c worst nearer reaction vt ≤ v)

/-- The results of a pass. In SHUNT and LINE the ceiling is the least of the terms that apply at the car, each segment of
the car span with its gradient ceiling and engagement cap among them, and is given by the term named. The look-ahead
list is a staircase of at most 8 entries, ever farther and ever slower, all below the ceiling; each is a candidate
within the scan (merged, it takes the slowest beyond its place), no candidate is slower than the list before it allows,
and each is priced at the worst pull before it, the first of equal pulls giving its UNSURVEYED flag (log 21). The
permitted speed is the least of the ceiling and their permitted speeds, given by the nearest that has it. The faults are
those of the segments met, the kept RACK_ENTRY segment of an engagement cap not among them (log 22). In other modes all
is 0 or empty. The stretch and the car span that it reads are those of R33 and R12. -/
def Obligations.LookAheadListIsAStaircase : Prop :=
  (∀ (s : State) (d : Dir) (a b : Int) (lineEnd : Nat), s.lineEnd = some lineEnd →
    let lo := min a.toNat lineEnd
    let hi := min b.toNat lineEnd
    s.spanFrom lineEnd = min ((s.odo.position : Int) - s.cfg.carLength - s.odo.uncertainty).toNat lineEnd ∧
    s.spanTo lineEnd = min (s.odo.position + s.odo.uncertainty) lineEnd ∧
    (s.stretch d a b).Pairwise (fun v w => match d with
      | .up => v.index < w.index
      | .down => w.index < v.index) ∧
    ∀ v, v ∈ s.stretch d a b ↔
      v ∈ s.views ∧
        if lo = hi then v.start ≤ lo ∧ ∀ w ∈ s.views, w.start ≤ lo → w.index ≤ v.index
        else v.start ≤ hi ∧ (lo < v.stop ∨ v.last = true)) ∧
  ∀ s : State,
    let r := s.fullResults.1
    let d := s.odo.direction
    let lineEnd : Nat := s.lineEnd.getD 0
    let front : Nat := match d with
      | .up => min (s.odo.position + s.odo.uncertainty) lineEnd
      | .down => min ((s.odo.position : Int) - s.cfg.carLength - s.odo.uncertainty).toNat lineEnd
    let far : Nat → Int := fun q => match d with
      | .up => (q : Int) - front
      | .down => (front : Int) - q
    let pull : Segment → Int := fun g => match g.pull, d with
      | none, _ => 500
      | some p, .up => -p
      | some p, .down => p
    let net : Nat → Int → Int := fun full p => (full : Int) - ((9807 * p.toNat + 999) / 1000 : Nat)
    let own : Segment → Nat := fun g =>
      let a := net s.cfg.rEm (pull g)
      min (match d with | .up => g.limitUp | .down => g.limitDown)
        (if a < s.cfg.aFloor then 0 else min 15000 (Nat.sqrt (2 * a.toNat * s.cfg.dG)))
    let cap : Option Nat := s.odo.engagement.kept.bind fun i =>
      (s.views.find? fun v => v.index == i).map fun v => own v.seg
    let limit : Segment → Nat := fun g => match g.kind, cap with
      | .rack, some k => min (own g) k
      | _, _ => own g
    let span := s.stretch d (s.spanFrom lineEnd) (s.spanTo lineEnd)
    let way := fun q : Nat => match d with
      | .up => s.stretch d front q
      | .down => s.stretch d q front
    let worst := fun (vs : List SegView) (p : Int) (unsurveyed : Bool) =>
      (vs = [] → p = 0 ∧ unsurveyed = false) ∧
      ∀ before v after, vs = before ++ v :: after → (∀ w ∈ before, pull w.seg < pull v.seg) →
        (∀ w ∈ after, pull w.seg ≤ pull v.seg) → p = pull v.seg ∧ unsurveyed = v.seg.pull.isNone
    let held := s.route.authority.any fun a => a.dir == d
    let toEnd : Nat := match d with
      | .up => lineEnd - front
      | .down => front
    let authorityEnd : Nat := match s.route.authority with
      | some a => if a.dir = d then (far a.endPos).toNat else 0
      | none => 0
    let reach : Nat := min (min toEnd s.cfg.horizon) (if s.sup.mode = .line then authorityEnd else toEnd)
    let entry := fun v : SegView => match d with
      | .up => v.start
      | .down => v.stop
    let entered := fun v : SegView =>
      v ∈ s.views ∧ far (entry v) ≤ reach ∧ (d = .up → 0 < far (entry v)) ∧ (d = .down → 0 ≤ far (entry v))
    let edge := fun x : Restriction => match d with
      | .up => x.fromPos
      | .down => x.toPos
    let candidate := fun x : Target =>
      x.distance = (far x.position).toNat ∧ x.distance ≤ reach ∧
      match x.kind with
      | .segment => ∃ v, entered v ∧ x.source = some v.index ∧ x.position = entry v ∧ x.speed = limit v.seg
      | .restriction => ∃ y ∈ s.route.restrictions,
          0 < far (edge y) ∧ x.source = some y.id ∧ x.position = edge y ∧ x.speed = y.limit
      | .authorityEnd => s.sup.mode = .line ∧
          ((∃ a, s.route.authority = some a ∧ a.dir = d ∧ x.source = some a.seq.toNat ∧ x.speed = a.release.getD 0 ∧
              x.distance = (far a.endPos).toNat) ∨
            (held = false ∧ x.source = none ∧ x.speed = 0 ∧ x.distance = 0))
      | .lineEnd => s.sup.mode = .shunt ∧ x.source = none ∧ x.speed = 0 ∧
          x.position = (match d with | .up => lineEnd | .down => 0)
    let covered := fun (n : Int) (v : Nat) =>
      n ≤ reach → v < r.ceiling → ∃ x ∈ r.targets, (x.distance : Int) ≤ max n 0 ∧ x.speed ≤ v
    r.front = front ∧ r.dir = d ∧ r.speed = s.odo.speed ∧ r.reaction = (s.odo.speed * s.cfg.tR + 999) / 1000 ∧
    r.targets.length ≤ 8 ∧
    r.targets.Pairwise (fun a b => a.distance < b.distance ∧ b.speed < a.speed) ∧
    (∀ x ∈ r.targets, x.speed < r.ceiling ∧ r.permitted ≤ x.vPerm) ∧
    r.permitted ≤ r.ceiling ∧
    (r.giver = none → r.permitted = r.ceiling) ∧
    (∀ n, r.giver = some n →
      1 ≤ n ∧ r.permitted < r.ceiling ∧
      (∃ x, r.targets[n - 1]? = some x ∧ x.vPerm = r.permitted) ∧
      ∀ m x, m < n - 1 → r.targets[m]? = some x → r.permitted < x.vPerm) ∧
    r.ceiling ≤ s.cfg.vCar ∧ (∀ v ∈ span, r.ceiling ≤ limit v.seg) ∧
    (s.sup.mode = .shunt → r.ceiling ≤ s.cfg.vShunt) ∧
    (s.sup.mode = .line → s.radio.state = .lost → r.ceiling ≤ s.cfg.vRl) ∧
    (s.odo.localisation = .degraded → r.ceiling ≤ s.cfg.vRl) ∧
    (s.odo.localisation = .unlocalised → r.ceiling ≤ s.cfg.vShunt) ∧
    (∀ k, s.route.cap = some k → r.ceiling ≤ k) ∧
    (∀ x ∈ s.route.restrictions, x.fromPos ≤ s.spanTo lineEnd → s.spanFrom lineEnd ≤ x.toPos → r.ceiling ≤ x.limit) ∧
    (match r.term with
     | .mode => False
     | .segment => ∃ v ∈ span, r.termSource = some v.index ∧ r.ceiling = own v.seg
     | .engagementCap => ∃ v ∈ span, r.termSource = some v.index ∧ r.ceiling = limit v.seg ∧ limit v.seg < own v.seg
     | .restriction => ∃ x ∈ s.route.restrictions, r.termSource = some x.id ∧ r.ceiling = x.limit ∧
         x.fromPos ≤ s.spanTo lineEnd ∧ s.spanFrom lineEnd ≤ x.toPos
     | .overflowCap => s.route.cap = some r.ceiling
     | .carMaximum => r.ceiling = s.cfg.vCar
     | .shunt => s.sup.mode = .shunt ∧ r.ceiling = s.cfg.vShunt
     | .radioLost => s.sup.mode = .line ∧ s.radio.state = .lost ∧ r.ceiling = s.cfg.vRl
     | .positionDegraded => s.odo.localisation = .degraded ∧ r.ceiling = s.cfg.vRl
     | .unlocalised => s.odo.localisation = .unlocalised ∧ r.ceiling = s.cfg.vShunt) ∧
    worst span r.pull r.pullUnsurveyed ∧
    r.netService =
      (if net s.cfg.rSv r.pull < s.cfg.aFloor then 0 else (net s.cfg.rSv r.pull).toNat) ∧
    r.scanEnd.map Prod.fst = some (match d with | .up => front + reach | .down => front - reach) ∧
    (∀ v, entered v → covered (far (entry v)) (limit v.seg)) ∧
    (∀ y ∈ s.route.restrictions, 0 < far (edge y) → covered (far (edge y)) y.limit) ∧
    (∀ a, s.sup.mode = .line → s.route.authority = some a → a.dir = d → covered (far a.endPos) (a.release.getD 0)) ∧
    (s.sup.mode = .line → held = false → covered 0 0) ∧
    (s.sup.mode = .shunt → covered toEnd 0) ∧
    (r.merged = true → r.targets.length = 8) ∧
    (∀ x ∈ r.targets,
      (r.merged = false → candidate x) ∧
      (∃ y, candidate y ∧ y.kind = x.kind ∧ y.speed = x.speed ∧ y.source = x.source ∧ x.distance ≤ y.distance) ∧
      (∃ y, candidate y ∧ y.position = x.position ∧ y.distance = x.distance) ∧
      x.vPerm = permittedAt s.cfg x.worstPull x.distance r.reaction x.speed ∧
      worst (way x.position) x.worstPull x.unsurveyed) ∧
    (let faults := s.fullResults.2
     let ways := fun vs : List SegView => vs = span ∨ ∃ x ∈ r.targets, vs = way x.position
     faults.Nodup ∧ (∀ f ∈ faults, f.1 ≠ .test ∧ f.2 ≠ none) ∧
     (∀ i, (.unsurveyed, some i) ∈ faults ↔
       ∃ v : SegView, (entered v ∨ ∃ vs, ways vs ∧ v ∈ vs) ∧ v.index = i ∧ v.seg.pull = none) ∧
     (∀ i, (.unbrakeable, some i) ∈ faults ↔
       (∃ v : SegView, (entered v ∨ v ∈ span) ∧ v.index = i ∧ net s.cfg.rEm (pull v.seg) < s.cfg.aFloor) ∨
       ∃ before v after, ways (before ++ v :: after) ∧ (∀ w ∈ before, pull w.seg < pull v.seg) ∧
         (∀ w ∈ after, pull w.seg ≤ pull v.seg) ∧ v.index = i ∧ net s.cfg.rSv (pull v.seg) < s.cfg.aFloor)) ∧
    (s.sup.mode = .shunt ∨ s.sup.mode = .line → s.passResults = s.fullResults) ∧
    (s.sup.mode = .init ∨ s.sup.mode = .parked ∨ s.sup.mode = .tripped →
      s.passResults =
        ({ PassResults.powerOn with
           time := s.clock.now, mode := s.sup.mode, dir := d, speed := s.odo.speed
           front := if s.lineEnd = none then 0 else front }, []))

/-! ## Brake outputs -/

/-- SLOT_PERIOD_START on each of the three channels: the slot of the new slot number is taken, its level driven, its
freshness (and on a single channel its validity) spent, the applying run counted; a channel not written for more than 64
periods becomes ABSOLUTE; the first invalid slot under RELEASE starves the channel and is an output fault: OUTPUT_FAULT is
raised once for each channel that starves, with its ALERT report when it latches anew, and with none starving the alerts
stand. -/
def Obligations.SlotPeriodEmitsEachChannel : Prop :=
  ∀ (t : Time) (s : State), s.link.buffer = [] →
    let n := if s.brake.started then s.brake.slotNumber + 1#32 else s.brake.slotNumber
    let slot := fun c : Channel => (s.brake.channel c).slots.getD (n.toNat % 64) ⟨false, false, false⟩
    let starves := fun c : Channel =>
      (slot c).valid = false ∧ (s.brake.channel c).latest = .single .release ∧ (s.brake.channel c).starved = false
    ∃ u : State,
      exec (.slotPeriodStart t) s = .next u ∧
      u = { s.advance t with
            brake := u.brake, sup := { s.sup with outputFault := u.sup.outputFault }, notice := u.notice
            link := { s.link with tx := u.link.tx, waiting := u.link.waiting } } ∧
      u.brake.slotNumber = n ∧ u.brake.started = true ∧
      (u.sup.outputFault = true ↔ s.sup.outputFault = true ∨ ∃ c, starves c) ∧
      (let starved := ([.service, .band, .emergency] : List Channel).filter fun c => decide (starves c)
       let e := s.notice.entry .outputFault
       (starved = [] → u.notice.alerts = s.notice.alerts) ∧
       (starved ≠ [] → s.notice.alerts.length = 21 →
         u.notice.entry .outputFault = { e with latched := true, count := min (e.count + starved.length) 255 } ∧
         ∀ k, k ≠ .outputFault → u.notice.entry k = s.notice.entry k) ∧
       (s.link.tx ≠ none → s.notice.queue.length < 24 →
         u.notice.queue.map Report.body =
           s.notice.queue.map Report.body ++
             (if starved = [] ∨ e.latched = true then []
             else [.alert .outputFault .event e.forced u.notice.latchedSet]))) ∧
      ∀ c : Channel,
        let x := s.brake.channel c
        let level := (slot c).valid && (slot c).energised
        u.brake.channel c =
          { slots := x.slots.set (n.toNat % 64)
              (match c with
               | .service => { slot c with fresh := false }
               | _ => { slot c with valid := false, fresh := false })
            addressing := if 64 < (n - x.writeSlot).toInt then .absolute else x.addressing
            latest := x.latest
            writeSlot := x.writeSlot
            starved := x.starved || decide (starves c)
            run := if level = decide (c = .service) then min (x.run + 1) 64 else 0
            lastFault := if starves c then .starved else x.lastFault
            output := level
            defaultEmitted := !(slot c).valid }

/-- PATTERN_WRITE of a prepared demand: an ABSOLUTE write places 32 slots from 4 slots ahead; a RELATIVE one in the window
1 to 48 places up to 32 from the next start, none at distance 64 or beyond; another is a copy fault, which changes no slot
and, under a release demand, is an output fault. With nothing prepared (log 10) it does nothing. CHANNEL_IDLE makes the
addressing of an idle channel ABSOLUTE and does nothing else. -/
def Obligations.PatternWritesArePlacedInTheWindow : Prop :=
  (∀ (t : Time) (c : Channel) (d : Demand) (s : State), s.sup.prepared.demand c = some d →
    (s.brake.channel c).slots.length = 64 →
    let x := s.brake.channel c
    let n := s.brake.slotNumber
    let base := { s.sup with prepared := s.sup.prepared.without c }
    let placed := fun (start : BitVec 32) (k : Nat) (y : BrakeChannel) =>
      y = { x with slots := y.slots, addressing := .relative (start + BitVec.ofNat 32 k), latest := d, writeSlot := n
                   starved := false } ∧
      ∀ i, i < 64 → y.slots[i]? =
        if (i + 64 - start.toNat % 64) % 64 < k then
          some ⟨match d with
            | .duty q => decide (i < q)
            | .single .release => decide (i % 2 = 0)
            | .single .apply => false, true, true⟩
        else x.slots[i]?
    (x.addressing = .absolute →
      ∃ y, placed (n + 4#32) 32 y ∧ y.slots.length = 64 ∧
        exec (.patternWrite t c) s =
          .next (State.finish { s.advance t with sup := base, brake := s.brake.setChannel c y })) ∧
    (∀ next, x.addressing = .relative next → 1 ≤ (next - n).toInt → (next - n).toInt ≤ 48 →
      ∃ y, placed next (min 32 (64 - (next - n).toNat)) y ∧ y.slots.length = 64 ∧
        exec (.patternWrite t c) s =
          .next (State.finish { s.advance t with sup := base, brake := s.brake.setChannel c y })) ∧
    (∀ next, x.addressing = .relative next → (next - n).toInt < 1 ∨ 48 < (next - n).toInt →
      let y : BrakeChannel := { x with latest := d, writeSlot := n, lastFault := .copy, addressing := .absolute }
      let releases := match d with
        | .duty q => q < 64
        | .single .release => True
        | .single .apply => False
      (¬releases →
        exec (.patternWrite t c) s =
          .next (State.finish { s.advance t with sup := base, brake := s.brake.setChannel c y })) ∧
      (releases →
        exec (.patternWrite t c) s =
          .next (State.finish (State.raise .outputFault
            { s.advance t with sup := { base with outputFault := true }, brake := s.brake.setChannel c y }))))) ∧
  (∀ (t : Time) (c : Channel) (s : State), s.sup.prepared.demand c = none →
    exec (.patternWrite t c) s = .next (s.advance t).finish) ∧
  (∀ (t : Time) (c : Channel) (s : State),
    (64 < (s.brake.slotNumber - (s.brake.channel c).writeSlot).toInt →
      exec (.channelIdle t c) s =
        .next
          (State.finish
            { s.advance t with
              brake := s.brake.setChannel c { s.brake.channel c with addressing := .absolute } })) ∧
    ((s.brake.slotNumber - (s.brake.channel c).writeSlot).toInt ≤ 64 →
      exec (.channelIdle t c) s = .next (s.advance t).finish))

/-! ## Valley radio and route records -/

/-- The bits of the downlink, whichever command carries them (log 8): a run is received as its bits one after another, all
of one command before the link is settled, so that while a transmission runs a run is its parts in turn. In HUNT fewer
than 24 kept bits wait; at 24 an alignment word with a frame number of its parity is a find and begins CONFIRM; else the
search moves on one bit. A span of 384 bits ends with its count of near-blank spans, and CARRIER_BLANK holds at 3. The
alignment words are 0x47 0x9C for an even frame number and 0xB8 0x63 for an odd one, the number in the low 3 bits of the
third byte. -/
def Obligations.HuntBitsAreSearched : Prop :=
  (∀ (word high rest : List Bool) (b2 b1 b0 : Bool), word.length = 16 → high.length = 5 →
    let n := (if b2 then 4 else 0) + (if b1 then 2 else 0) + (if b0 then 1 else 0)
    findFrame (word ++ high ++ [b2, b1, b0] ++ rest) =
      if (word = bitsOfBytes [0x47, 0x9C] ∧ b0 = false) ∨ (word = bitsOfBytes [0xB8, 0x63] ∧ b0 = true) then some n
      else none) ∧
  (∀ (t captured : Time) (bits more : List Bool) (b : Bool) (s : State),
    let clock := s.clock.advance t
    let frame := clock.localMs - BitVec.ofNat 32 ((Time.since t captured - clock.subMs + 999) / 1000)
    let taken := fun capture : Time =>
      Host.Outcome.next (State.finish (bits.foldl (fun u x => State.receiveBit capture x u) (s.advance t)))
    let inParts := fun c : List Bool → Instr =>
      exec (c (bits ++ more)) s =
        match exec (c bits) s with
        | .next u => exec (c more) u
        | other => other
    exec (.huntFind t bits) s = taken clock.localMs ∧ exec (.blankSpanEnd t bits) s = taken clock.localMs ∧
    exec (.frameCompletion t captured bits) s = taken frame ∧
    exec (.searchPointAdvance t b) s = exec (.huntFind t [b]) s ∧
    (s.link.tx ≠ none → s.link.buffer = [] →
      inParts (.huntFind t) ∧ inParts (.blankSpanEnd t) ∧ inParts (.frameCompletion t captured))) ∧
  ∀ (t : Time) (b : Bool) (c : Instr) (s : State), s.link.buffer = [] → s.notice.alerts.length = 21 →
    c = .searchPointAdvance t b ∨ c = .huntFind t [b] ∨ c = .blankSpanEnd t [b] →
    s.radio.sync = .hunt → s.radio.bits.length ≤ 23 →
    let zeros := s.radio.spanZeros + (if b then 0 else 1)
    let ends := 383 ≤ s.radio.spanBits
    let blank := if ends then (if zeros ≤ 3 then min (s.radio.blankCount + 1) 3 else 0) else s.radio.blankCount
    let bits := s.radio.bits ++ [b]
    ∃ u : State,
      exec c s = .next u ∧
      u = { s.advance t with
            radio := u.radio, notice := u.notice, link := { s.link with tx := u.link.tx, waiting := u.link.waiting } } ∧
      u.radio.spanBits = (if ends then 0 else s.radio.spanBits + 1) ∧ u.radio.spanZeros = (if ends then 0 else zeros) ∧
      u.radio.state = s.radio.state ∧ u.radio.huntRestarts = s.radio.huntRestarts ∧
      (s.radio.bits.length < 23 →
        u.radio.sync = .hunt ∧ u.radio.bits = bits ∧ u.radio.searchPoint = s.radio.searchPoint ∧
        u.radio.blankCount = blank ∧ (ends → (u.notice.entry .carrierBlank).active = decide (blank = 3))) ∧
      (s.radio.bits.length = 23 → findFrame bits = none →
        u.radio.sync = .hunt ∧ u.radio.bits = bits.tail ∧ u.radio.searchPoint = s.radio.searchPoint + 1 ∧
        u.radio.blankCount = blank ∧
        (ends → (u.notice.entry .carrierBlank).active = decide (blank = 3))) ∧
      (∀ n, s.radio.bits.length = 23 → findFrame bits = some n →
        u.radio.sync = .confirm ∧ u.radio.expected = some ((n + 1) % 8) ∧ u.radio.confirmCount = 0 ∧
        u.radio.bits = bits ∧ u.radio.blankCount = 0 ∧ (u.notice.entry .carrierBlank).active = false)

/-- FRAME_COMPLETION, the last bit of a frame received (log 8). In LOCKED a bit short of the frame joins it, the last of the
alignment word with the captured time in local ms as the capture time. At the last bit a wrong word counts an alignment
error; a correct word with a bad CRC counts a CRC error; a good frame of another line does nothing but end a run of
settling; a good frame of the line in use settles the link or, settled, refreshes the radio state. Any word whose
judgement makes M wrong ones in the history then loses sync: the hunt restarts, one bit into that frame (log 51). In
CONFIRM the first correct word is counted, the second enters LOCKED with an empty history, and a wrong one counts an
alignment error and restarts the hunt. -/
def Obligations.LockedFramesAreJudged : Prop :=
  (∀ (t captured : Time) (b : Bool) (s : State), s.radio.sync = .locked → s.radio.bits.length < 383 →
    let received := fun (c : Instr) (capture : Time) =>
      exec c s =
        .next
          (State.finish
            { s.advance t with
              radio := { s.radio with
                bits := s.radio.bits ++ [b]
                captureMs := if s.radio.bits.length = 15 then capture else s.radio.captureMs } })
    let clock := s.clock.advance t
    let ago : Nat := Time.since t captured
    received (.frameCompletion t captured [b])
      (clock.localMs - BitVec.ofNat 32 ((ago - clock.subMs + 999) / 1000)) ∧
    received (.searchPointAdvance t b) clock.localMs ∧ received (.huntFind t [b]) clock.localMs ∧
    received (.blankSpanEnd t [b]) clock.localMs) ∧
  (∀ (t captured : Time) (b : Bool) (s : State), s.link.buffer = [] → s.radio.sync = .locked →
    s.radio.bits.length = 383 →
    let bits := s.radio.bits ++ [b]
    let f := bytesOfBits bits
    let correct := (findFrame bits).isSome = true ∧ findFrame bits = s.radio.expected
    let history := (s.radio.history ++ [decide correct]).drop (s.radio.history.length + 1 - s.cfg.wSync)
    let keeps := (history.filter fun c => !c).length < s.cfg.m
    let crc := crc16 ((f.drop 2).take 43) = byteAt f 45 ++ byteAt f 46
    let ownLine := s.lineId ≠ 0 ∧ beAt f 3 2 = s.lineId
    let good := correct ∧ crc ∧ ownLine ∧ s.radio.settled = true
    let empty := byteAt f 5 = 0#8 ∧ byteAt f 25 = 0#8
    let next : Radio := { s.radio with
      bits := [], searchPoint := s.radio.searchPoint + 384, history := history
      expected := s.radio.expected.map fun k => (k + 1) % 8 }
    ∃ u : State,
      exec (.frameCompletion t captured [b]) s = .next u ∧
      (¬good ∨ empty →
        u = { s.advance t with
              radio := u.radio, notice := u.notice
              link := { s.link with tx := u.link.tx, waiting := u.link.waiting } }) ∧
      (correct → keeps → ¬crc →
        u.radio = { next with
          crcErrors := min (s.radio.crcErrors + 1) 65535
          settling := if s.radio.settled then s.radio.settling else 0 }) ∧
      (correct → keeps → crc → ¬ownLine →
        u.radio = { next with settling := if s.radio.settled then s.radio.settling else 0 }) ∧
      (correct → keeps → crc → ownLine → s.radio.settled = false →
        u.radio = { next with
          goodFrames := min (s.radio.goodFrames + 1) 4294967295
          settling := s.radio.settling + 1, settled := decide (8 ≤ s.radio.settling + 1) }) ∧
      (good → keeps → empty →
        u.radio = { next with
          goodFrames := min (s.radio.goodFrames + 1) 4294967295
          state := .ok, lastGood := some (s.clock.advance t).localMs, unheard := (byteAt f 2).getLsbD 7 }) ∧
      (good → s.notice.alerts.length = 21 →
        let follows := fun (k : AlertKind) (b : Bool) =>
          let e := s.notice.entry k
          u.notice.entry k =
            if b = true ∧ e.active = false ∧ e.forced = false then
              { e with active := true, latched := true, count := min (e.count + 1) 255 }
            else { e with active := b }
        follows .radioDegraded false ∧ follows .radioLost false ∧
        follows .valleyUnheard ((byteAt f 2).getLsbD 7)) ∧
      (¬good → keeps → u.notice.alerts = s.notice.alerts) ∧
      (¬correct → keeps →
        u.radio = { next with
          alignErrors := min (s.radio.alignErrors + 1) 65535
          settling := if s.radio.settled then s.radio.settling else 0 }) ∧
      (¬keeps →
        u.radio.sync ≠ .locked ∧ u.radio.settled = false ∧ u.radio.settling = 0 ∧
        s.radio.searchPoint + 1 ≤ u.radio.searchPoint ∧
        u.radio.huntRestarts = min (s.radio.huntRestarts + 1) 255 ∧
        u.radio.alignErrors = (if correct then s.radio.alignErrors else min (s.radio.alignErrors + 1) 65535) ∧
        u.radio.crcErrors = (if correct ∧ ¬crc then min (s.radio.crcErrors + 1) 65535 else s.radio.crcErrors) ∧
        u.radio.goodFrames =
          (if correct ∧ crc ∧ ownLine then min (s.radio.goodFrames + 1) 4294967295 else s.radio.goodFrames) ∧
        (good →
          u.radio.state = .ok ∧ u.radio.lastGood = some (s.clock.advance t).localMs ∧
          u.radio.unheard = (byteAt f 2).getLsbD 7) ∧
        (¬good →
          u.radio.state = s.radio.state ∧ u.radio.lastGood = s.radio.lastGood ∧
          u.radio.unheard = s.radio.unheard))) ∧
  (∀ (t captured : Time) (b : Bool) (s : State), s.link.buffer = [] → s.radio.sync = .confirm →
    (s.radio.confirmCount = 0 ∧ s.radio.bits.length = 767) ∨ (s.radio.confirmCount = 1 ∧ s.radio.bits.length = 1151) →
    let bits := s.radio.bits ++ [b]
    let word := findFrame (bits.drop (384 * (s.radio.confirmCount + 1)))
    let correct := word.isSome = true ∧ word = s.radio.expected
    ∃ u : State,
      exec (.frameCompletion t captured [b]) s = .next u ∧
      u = { s.advance t with
            radio := u.radio, notice := u.notice, link := { s.link with tx := u.link.tx, waiting := u.link.waiting } } ∧
      (correct → s.radio.confirmCount = 0 →
        u.radio = { s.radio with
          bits := bits, expected := s.radio.expected.map fun k => (k + 1) % 8, confirmCount := 1 }) ∧
      (correct → s.radio.confirmCount = 1 →
        u.radio = { s.radio with
          sync := .locked, bits := [], searchPoint := s.radio.searchPoint + 1152, history := [], settling := 0
          settled := false, confirmCount := 0, expected := s.radio.expected.map fun k => (k + 1) % 8 }) ∧
      (¬correct →
        u.radio.sync ≠ .locked ∧ u.radio.settled = false ∧ s.radio.searchPoint + 1 ≤ u.radio.searchPoint ∧
        u.radio.state = s.radio.state ∧
        ∃ n, 1 ≤ n ∧ (s.radio.confirmCount = 0 → n = 1) ∧
          u.radio.huntRestarts = min (s.radio.huntRestarts + n) 255 ∧
          u.radio.alignErrors = min (s.radio.alignErrors + n) 65535))

/-- T_FREEZE_EXPIRY, T_LOST_EXPIRY and, of both, LOCAL_MS_ADVANCE: RADIO_OK becomes RADIO_DEGRADED at the age t_freeze of
the last good settled frame, and at t_lost RADIO_LOST with the valley-unheard value clear; before that nothing. The
conditions RADIO_DEGRADED, RADIO_LOST, VALLEY_UNHEARD and CARRIER_BLANK then follow the radio, and one that becomes active
latches unless it is forced. -/
def Obligations.RadioTimeoutsDegradeTheState : Prop :=
  ∀ (t : Time) (s : State), s.link.buffer = [] →
    let old := fun n : Nat => ∃ l, s.radio.lastGood = some l ∧ n ≤ Time.since (s.clock.advance t).localMs l
    let framed := fun u : State =>
      u = { s.advance t with
            radio := u.radio, notice := u.notice, link := { s.link with tx := u.link.tx, waiting := u.link.waiting } }
    let follows := fun (u : State) (k : AlertKind) (b : Bool) =>
      let e := s.notice.entry k
      u.notice.entry k =
        if b = true ∧ e.active = false ∧ e.forced = false then
          { e with active := true, latched := true, count := min (e.count + 1) 255 }
        else { e with active := b }
    let shown := fun u : State => s.notice.alerts.length = 21 →
      follows u .radioDegraded (decide (u.radio.state = .degraded)) ∧
      follows u .radioLost (decide (u.radio.state = .lost)) ∧ follows u .valleyUnheard u.radio.unheard ∧
      follows u .carrierBlank (decide (u.radio.blankCount = 3))
    (s.radio.state = .ok → old s.cfg.tFreeze →
      ∃ u, exec (.tFreezeExpiry t) s = .next u ∧ framed u ∧ u.radio = { s.radio with state := .degraded } ∧ shown u) ∧
    (s.radio.state ≠ .ok ∨ ¬old s.cfg.tFreeze → exec (.tFreezeExpiry t) s = .next (s.advance t).finish) ∧
    (s.radio.state ≠ .lost → old s.cfg.tLost →
      ∃ u, exec (.tLostExpiry t) s = .next u ∧ framed u ∧
        u.radio = { s.radio with state := .lost, unheard := false } ∧ shown u) ∧
    (s.radio.state = .lost ∨ ¬old s.cfg.tLost → exec (.tLostExpiry t) s = .next (s.advance t).finish) ∧
    (∃ u, exec (.localMsAdvance t) s = .next u ∧
      (s.radio.state ≠ .lost → old s.cfg.tLost →
        u.radio = { s.radio with state := .lost, unheard := false } ∧
        (s.radio.state = .degraded ∨ ¬old s.cfg.tFreeze → shown u) ∧
        (s.notice.alerts.length = 21 →
          (u.notice.entry .radioDegraded).active = false ∧ (u.notice.entry .radioLost).active = true ∧
          (u.notice.entry .valleyUnheard).active = false)) ∧
      (s.radio.state = .ok → ¬old s.cfg.tLost → old s.cfg.tFreeze →
        u.radio = { s.radio with state := .degraded } ∧ shown u) ∧
      (s.radio.state = .lost ∨ (¬old s.cfg.tLost ∧ (s.radio.state ≠ .ok ∨ ¬old s.cfg.tFreeze)) →
        u.radio = s.radio ∧
        ∀ k ∈ [AlertKind.radioDegraded, .radioLost, .valleyUnheard, .carrierBlank],
          u.notice.entry k = s.notice.entry k))

/-- AUTHORITY_EXPIRY, RESTRICTION_EXPIRY and, of both, LOCAL_MS_ADVANCE: with valley time known, the authority whose expiry
is reached is removed with AUTHORITY_EXPIRED, and every restriction whose expiry is reached leaves the list, which clears
the overflow cap, makes RESTRICTION_CAP inactive and raises the list version by 1 for each (log 18); while valley time is
unknown nothing expires. LOCAL_MS_ADVANCE does both and touches beside the route records only the radio and the alerts. -/
def Obligations.ReachedExpiriesRemoveRecords : Prop :=
  ∀ (t : Time) (s : State), s.link.buffer = [] →
    let reached := fun e : Option Time => expiryReached (s.advance t).valleyNow e
    let kept := s.route.restrictions.filter fun r => !reached r.expiry
    (∀ e, reached e = true ↔
      ∃ o x, s.radio.offset = some o ∧ e = some x ∧ ((s.clock.advance t).localMs + o - x).toNat < 2 ^ 31) ∧
    (∀ a, s.route.authority = some a → reached a.expiry = true →
      exec (.authorityExpiry t) s =
        .next
          (State.finish
            (State.raise .authorityExpired { s.advance t with route := { s.route with authority := none } }))) ∧
    (s.route.authority = none ∨ (∃ a, s.route.authority = some a ∧ reached a.expiry = false) →
      exec (.authorityExpiry t) s = .next (s.advance t).finish) ∧
    (kept = s.route.restrictions → exec (.restrictionExpiry t) s = .next (s.advance t).finish) ∧
    (kept ≠ s.route.restrictions →
      ∃ u : State,
        exec (.restrictionExpiry t) s = .next u ∧
        u = { s.advance t with
              route := { s.route with
                restrictions := kept
                cap := none
                version := s.route.version + BitVec.ofNat 8 (s.route.restrictions.length - kept.length) }
              notice := u.notice, link := { s.link with tx := u.link.tx, waiting := u.link.waiting } } ∧
        (s.notice.alerts.length = 21 →
          (u.notice.entry .restrictionCap).active = false ∧
          ∀ k, k ≠ .restrictionCap → u.notice.entry k = s.notice.entry k)) ∧
    (∃ u : State,
      exec (.localMsAdvance t) s = .next u ∧
      u = { s.advance t with
            radio := { s.radio with state := u.radio.state, unheard := u.radio.unheard }
            route := { s.route with
              authority := s.route.authority.filter fun a => !reached a.expiry
              restrictions := kept
              cap := if kept = s.route.restrictions then s.route.cap else none
              version := s.route.version + BitVec.ofNat 8 (s.route.restrictions.length - kept.length) }
            notice := u.notice, link := { s.link with tx := u.link.tx, waiting := u.link.waiting } } ∧
      (s.notice.alerts.length = 21 →
        let e := s.notice.entry .authorityExpired
        ((∃ a, s.route.authority = some a ∧ reached a.expiry = true) →
          u.notice.entry .authorityExpired = { e with latched := true, count := min (e.count + 1) 255 }) ∧
        ((∀ a, s.route.authority = some a → reached a.expiry = false) → u.notice.entry .authorityExpired = e) ∧
        (kept ≠ s.route.restrictions → (u.notice.entry .restrictionCap).active = false) ∧
        (kept = s.route.restrictions → u.notice.entry .restrictionCap = s.notice.entry .restrictionCap)))

/-- A good settled frame, also one whose judgement loses sync (log 51), delivers the telegrams of its two slots, each
by its kind and for this car or all cars; a malformed one is dropped, its restriction id acknowledged REFUSED. An
AUTHORITY with a newer seq and no expiry reached or unknown replaces the record, clamped to the line end, and is
reported. A RESTRICTION SET is refused, entered, or finds 16 sets and lowers the cap; a LIFT of a held id removes it
and clears the cap, both one rise of the list version (log 18). Each outcome joins the acknowledgement ring of 4. A
HOLD joins or leaves the stations, a VALLEY TIME sets the offset, raises VALLEY_TIME_JUMP beyond 500 ms and tests the
expiries, a CREW NOTICE (by its length, log 26) is reported. -/
def Obligations.RouteTelegramsAreTaken : Prop :=
  (∀ (t captured : Time) (b : Bool) (s : State), s.radio.sync = .locked → s.radio.bits.length = 383 →
    s.radio.settled = true →
    let bits := s.radio.bits ++ [b]
    let f := bytesOfBits bits
    let history := (s.radio.history ++ [true]).drop (s.radio.history.length + 1 - s.cfg.wSync)
    let keeps := (history.filter fun c => !c).length < s.cfg.m
    (findFrame bits).isSome = true → findFrame bits = s.radio.expected →
    crc16 ((f.drop 2).take 43) = byteAt f 45 ++ byteAt f 46 → s.lineId ≠ 0 → beAt f 3 2 = s.lineId →
    ∃ x : State,
      let y := State.deliver (decodeSlot s.cfg.carId ((f.drop 25).take 20))
        (State.deliver (decodeSlot s.cfg.carId ((f.drop 5).take 20)) x)
      x = { s.advance t with
            radio := { s.radio with
              bits := [], searchPoint := s.radio.searchPoint + 384, history := history
              expected := s.radio.expected.map fun k => (k + 1) % 8
              goodFrames := min (s.radio.goodFrames + 1) 4294967295
              state := .ok, lastGood := some (s.clock.advance t).localMs, unheard := (byteAt f 2).getLsbD 7 }
            notice := x.notice } ∧
      (keeps → exec (.frameCompletion t captured [b]) s = .next y.finish) ∧
      (¬keeps → s.link.buffer = [] →
        ∃ u : State,
          exec (.frameCompletion t captured [b]) s = .next u ∧ u.route = y.route ∧ u.radio.ring = y.radio.ring ∧
          u.radio.offset = y.radio.offset)) ∧
  (∀ (car : Nat) (slot : List Byte),
    let code := fun o : Nat => (byteAt slot o).toNat
    let time := fun o : Nat => BitVec.ofNat 32 (beAt slot o 4)
    decodeSlot car slot =
      if code 0 = 0 ∨ (code 1 ≠ 0 ∧ code 1 ≠ car) then .ignored
      else if code 0 = 1 then
        (if code 3 ≤ 1 ∧ code 7 ≤ 3 ∧ (code 7 % 2 = 1 → beAt slot 8 2 ≤ 1500) then
          .authority
            { seq := byteAt slot 2, dir := if code 3 = 0 then .up else .down, endPos := beAt slot 4 3
              release := if code 7 % 2 = 1 then some (beAt slot 8 2) else none
              expiry := if 2 ≤ code 7 then some (time 10) else none }
        else .malformed none)
      else if code 0 = 2 then
        (if code 2 = 0 then .malformed none
        else if code 11 ≤ 1 then
          .set
            { id := code 2, fromPos := beAt slot 3 3, toPos := beAt slot 6 3, limit := beAt slot 9 2
              expiry := if code 11 = 1 then some (time 12) else none }
        else .malformed (some (code 2)))
      else if code 0 = 3 then (if code 2 = 0 then .malformed none else .lift (code 2))
      else if code 0 = 4 then
        (if 1 ≤ code 2 ∧ code 2 ≤ 63 ∧ code 3 ≤ 1 then .hold (code 2) (decide (code 3 = 1)) else .malformed none)
      else if code 0 = 5 then .valleyTime (time 2)
      else if code 0 = 6 then
        (if code 2 ≤ 16 ∧ ∀ x ∈ (slot.drop 3).take (code 2), 32 ≤ x.toNat ∧ x.toNat ≤ 126 then
          .notice ((slot.drop 3).take (code 2))
        else .malformed none)
      else .malformed none) ∧
  (∀ s : State,
    let late := fun e : Option Time =>
      ∃ x, e = some x ∧ ∀ o, s.radio.offset = some o → (s.clock.localMs + o - x).toNat < 2 ^ 31
    let line := fun p : Nat => match s.lineEnd with
      | none => p
      | some e => min p e
    let acked := fun (id : Nat) (accepted : Bool) =>
      let others := s.radio.ring.filter fun x => decide (x.id ≠ id)
      { s.radio with ring := (if others.length < 4 then others else others.tail) ++ [⟨id, accepted⟩] }
    s.deliver .ignored = s ∧ s.deliver (.malformed none) = s ∧
    (∀ id, s.deliver (.malformed (some id)) = { s with radio := acked id false }) ∧
    (∀ a : Authority,
      let report := fun taken : Bool => ReportBody.authority a.seq (line a.endPos) taken
      (∀ h, s.route.authority = some h → a.seq = h.seq → s.deliver (.authority a) = s) ∧
      (∀ h, s.route.authority = some h → 128 ≤ (a.seq - h.seq).toNat →
        s.deliver (.authority a) = s.post (report false)) ∧
      (s.route.authority = none ∨
          (∃ h, s.route.authority = some h ∧ 1 ≤ (a.seq - h.seq).toNat ∧ (a.seq - h.seq).toNat ≤ 127) →
        (late a.expiry → s.deliver (.authority a) = s.post (report false)) ∧
        (¬late a.expiry →
          s.deliver (.authority a) =
            State.post (report true)
              { s with route := { s.route with authority := some { a with endPos := line a.endPos } } }))) ∧
    (∀ r : Restriction,
      let u := s.deliver (.set r)
      let limit := min r.limit 15000
      let known := ∃ x ∈ s.route.restrictions, x.id = r.id
      (line r.toPos ≤ r.fromPos ∨ late r.expiry →
        u = { s.raise .restrictionRefused with radio := acked r.id false }) ∧
      (r.fromPos < line r.toPos → ¬late r.expiry → known ∨ s.route.restrictions.length < 16 →
        u = { s with
              radio := acked r.id true
              route := { s.route with restrictions := u.route.restrictions, version := s.route.version + 1 } } ∧
        ∀ x, x ∈ u.route.restrictions ↔
          x = { r with toPos := line r.toPos, limit := limit } ∨ (x ∈ s.route.restrictions ∧ x.id ≠ r.id)) ∧
      (r.fromPos < line r.toPos → ¬late r.expiry → ¬known → 16 ≤ s.route.restrictions.length →
        let cap := match s.route.cap with
          | none => limit
          | some k => min k limit
        u = { s with
              radio := acked r.id false
              route := { s.route with
                cap := some cap
                version := if s.route.cap = some cap then s.route.version else s.route.version + 1 }
              notice := u.notice } ∧
        (s.notice.alerts.length = 21 → s.notice.queue.length ≤ 22 →
          (s.notice.entry .restrictionRefused).latched = false →
          s.notice.entry .restrictionCap = ⟨false, false, false, 0⟩ →
          ∃ forced refused both,
            u.notice.queue.map Report.body =
              s.notice.queue.map Report.body ++
                [.alert .restrictionRefused .event forced refused, .alert .restrictionCap .condition false both]))) ∧
    (∀ id,
      ((∀ x ∈ s.route.restrictions, x.id ≠ id) → s.deliver (.lift id) = { s with radio := acked id true }) ∧
      ((∃ x ∈ s.route.restrictions, x.id = id) →
        s.deliver (.lift id) =
          { s with
            radio := acked id true
            route := { s.route with
              restrictions := s.route.restrictions.filter fun x => decide (x.id ≠ id)
              cap := none
              version := s.route.version + 1 }
            notice := (s.deliver (.lift id)).notice } ∧
        (s.notice.alerts.length = 21 →
          ((s.deliver (.lift id)).notice.entry .restrictionCap).active = false))) ∧
    (∀ station hold,
      let u := s.deliver (.hold station hold)
      u = { s with route := { s.route with holds := u.route.holds } } ∧
      ∀ x, x ∈ u.route.holds ↔ (x = station ∧ hold = true) ∨ (x ∈ s.route.holds ∧ (x = station → hold = true))) ∧
    (∀ v : Time,
      let u := s.deliver (.valleyTime v)
      let new := v - s.radio.captureMs - BitVec.ofNat 32 s.cfg.transit
      let reached := fun e : Option Time => e.any fun x => decide ((s.clock.localMs + new - x).toNat < 2 ^ 31)
      let kept := s.route.restrictions.filter fun r => !reached r.expiry
      let jump := ∃ o, s.radio.offset = some o ∧ 500 < (new - o).toInt.natAbs
      u = { s with
            radio := { s.radio with offset := some new }
            route := { s.route with
              authority := s.route.authority.filter fun a => !reached a.expiry
              restrictions := kept
              cap := if kept = s.route.restrictions then s.route.cap else none
              version := s.route.version + BitVec.ofNat 8 (s.route.restrictions.length - kept.length) }
            notice := u.notice } ∧
      (s.notice.alerts.length = 21 →
        (jump → (u.notice.entry .valleyTimeJump).count = min ((s.notice.entry .valleyTimeJump).count + 1) 255 ∧
          (u.notice.entry .valleyTimeJump).latched = true) ∧
        (¬jump → u.notice.entry .valleyTimeJump = s.notice.entry .valleyTimeJump))) ∧
    (∀ text, s.deliver (.notice text) = s.post (.crewNotice text)))

/-- UPLINK_FRAME_BUILD: the frame has 48 bytes and passes the CRC check of its covered bytes, the frame number advances
modulo 8, the oldest note leaves the queue, nothing else changes. Its alignment word goes by the parity of the frame
number; byte 2 to the end of slot 1 are given by offset, width and value, most significant byte first; slot 2 is the
oldest note, 6 bits a character and 0 beyond its length, or all 0. The CRC of the nine characters 123456789 is 0x29B1,
and a run of bytes followed by its CRC, high byte first, has CRC 0. -/
def Obligations.UplinkFramesCarryTheirCrc : Prop :=
  (∀ (t : Time) (s : State), (∀ x ∈ s.radio.notes, x.length ≤ 24) →
    let bit := fun b : Bool => if b then 1 else 0
    let channel := fun c : Channel =>
      let x := s.brake.channel c
      bit x.defaultEmitted + 2 * bit (x.run == 64) + 4 * x.lastFault.code
    let six := fun n : Nat => [5, 4, 3, 2, 1, 0].map fun i => n.testBit i
    let contents : List (Nat × Nat × Nat) :=
      [(2, 1, s.radio.uplinkNumber), (3, 2, s.lineId), (5, 1, 0x81), (6, 1, s.cfg.carId), (7, 3, s.odo.position),
       (10, 2, s.odo.uncertainty), (12, 2, s.odo.speed),
       (14, 1, s.sup.mode.code + 8 * (s.sup.trip.map fun r => r.first.number).getD 0),
       (15, 1, channel .service + 16 * channel .band), (16, 1, channel .emergency),
       (17, 1, bit s.ent.allLocked + 2 * bit (s.ent.releaseLeft == .granted) + 4 * bit (s.ent.releaseRight == .granted) +
         8 * bit s.route.authority.isSome),
       (18, 1, (s.route.authority.map fun r => r.seq.toNat).getD 0),
       (19, 1, s.radio.ring.length + 16 * (s.radio.ring.zipIdx.map fun e => bit (!e.1.accepted) * 2 ^ e.2).sum),
       (24, 1, 0)] ++
      [0, 1, 2, 3].map fun i => (20 + i, 1, (s.radio.ring[i]?.map AckEntry.id).getD 0)
    ∃ f : List Byte,
      exec (.uplinkFrameBuild t) s =
        .next
          (State.finish
            { s.advance t with
              radio := { s.radio with
                uplinkFrame := f, uplinkNumber := (s.radio.uplinkNumber + 1) % 8, notes := s.radio.notes.tail } }) ∧
      f.length = 48 ∧ frameCrcOk f = true ∧ byteAt f 47 = 0xFF#8 ∧
      f.take 2 = (if s.radio.uplinkNumber % 2 = 0 then [0x47#8, 0x9C#8] else [0xB8#8, 0x63#8]) ∧
      (∀ x ∈ contents, beAt f x.1 x.2.1 = x.2.2 % 256 ^ x.2.1) ∧
      (s.radio.notes = [] → (f.drop 25).take 20 = List.replicate 20 0#8) ∧
      (∀ text rest, s.radio.notes = text :: rest →
        byteAt f 25 = 0x82#8 ∧ (byteAt f 26).toNat = text.length ∧
        bitsOfBytes ((f.drop 27).take 18) =
          (List.range 24).flatMap fun i => six ((text[i]?.bind noteCode).getD 0))) ∧
  crc16 [0x31, 0x32, 0x33, 0x34, 0x35, 0x36, 0x37, 0x38, 0x39] = 0x29B1#16 ∧
  (∀ bytes : List Byte, crc16 (bytes ++ be 2 (crc16 bytes).toNat) = 0#16)

/-! ## Entrances -/

/-- ENTRANCE_CYCLE. Each leaf's read is taken, good with an idle line and odd parity over its 13 bits, of which the first
12 are the position: a third failed read faults the leaf, the first successful one sets its state and its state time,
also where the state stays OPEN (log 37). A pending takeover is granted and its leaves, but for isolated ones, become
MANUAL (LEFT first, log 48; after stage 1 of the same cycle, log 49). Each leaf then steps by its state and phase. The
summary says whether all leaves count as locked, each side's release is formed by the five tests in order and clears the
return marks of a granted side, and the two condition alerts say what the leaves show. Each change of a leaf's state, each
grant and each release that changes between GRANTED and WITHHELD is reported, in stage order, and so is a first read that
sets the state as it was (log 37), but not one of a leaf in FAULT or MANUAL (log 56); the leaves of a grant report in
ascending order (log 55). The ALERT reports of the two conditions come last, ENTRANCE_OBSTRUCTED before ENTRANCE_FAULT
(log 57). Only the entrances, the alerts and the link change. -/
def Obligations.EntranceCycleFormsTheReleases : Prop :=
  (∀ x : LeafInput,
    (x.good = true ↔ x.idleHigh = true ∧ ((List.range 13).map fun i => x.burst.getLsbD i).count true % 2 = 1) ∧
    x.counts = (x.burst.extractLsb' 1 12).toNat) ∧
  ∀ (t : Time) (inputs : Eight LeafInput) (s : State), s.link.buffer = [] → s.notice.alerts.length = 21 →
    let holds := match s.pinionSegment with
      | some v => if v.seg.kind = .adhesion then decide (s.sup.holdLevel ≤ s.sup.demands.service) else s.brake.band.run == 64
      | none => s.brake.band.run == 64
    let lineEnd : Nat := s.lineEnd.getD 0
    let rear : Nat := min ((s.odo.position : Int) - s.cfg.carLength - s.odo.uncertainty).toNat lineEnd
    let front : Nat := min (s.odo.position + s.odo.uncertainty) lineEnd
    let extents := fun d : Side =>
      (s.views.filterMap fun v => v.seg.platform).filter fun p =>
        decide (s.odo.localisation ≠ .unlocalised ∧ p.fromPos ≤ rear ∧ front ≤ p.toPos) &&
          match p.side, d with
          | .both, _ => true
          | .left, .left => true
          | .right, .right => true
          | _, _ => false
    let release := fun d : Side =>
      if s.sup.mode = .init ∨ s.sup.mode = .tripped then Release.withheld .mode
      else if s.odo.standstill = false then .withheld .moving
      else if holds = false then .withheld .brake
      else if s.sup.mode = .parked then .granted
      else if extents d = [] then .withheld .platform
      else if ∃ p ∈ extents d, p.station ∈ s.route.holds then .withheld .hold
      else .granted
    let passive := fun x : LeafState => x = .isolated ∨ x = .manual ∨ x = .fault
    let enter := fun (st : LeafState) (ph : Option Phase) (r : LeafRecord) =>
      ({ r with
         state := st, phase := ph, stateTime := t, cause := none, stall := none, target := none
         returnMark := decide (st ≠ .closed) && r.returnMark
         motor := (leafOutputs st ph).1, lock := (leafOutputs st ph).2 } : LeafRecord)
    let fails := fun (c : LeafCause) (r : LeafRecord) =>
      ({ enter .fault none r with cause := some c, attempts := 0 } : LeafRecord)
    let shut := fun r : LeafRecord => r.failed = 0 ∧ ∃ p, r.position = some p ∧ p ≤ s.cfg.closedTol
    let open_ := fun r : LeafRecord => r.failed = 0 ∧ ∃ p, r.position = some p ∧ s.cfg.closedTol < p
    let since := fun r : LeafRecord => Time.since t r.stateTime
    let closing := fun r : LeafRecord =>
      ({ enter .closing (some .driving) r with stall := some (r.position.getD 0, t) } : LeafRecord)
    let marked := fun (i : Fin 8) (r : LeafRecord) =>
      ({ r with returnMark := r.returnMark && decide (release (leafSide i) ≠ .granted) } : LeafRecord)
    ∃ (u : State) (taken handed stepped : Fin 8 → LeafRecord),
      exec (.entranceCycle t inputs) s = .next u ∧
      u = { s.advance t with
            ent := u.ent, notice := u.notice, link := { s.link with tx := u.link.tx, waiting := u.link.waiting } } ∧
      u.ent.cycleTime = some t ∧ u.ent.closedTol = s.cfg.closedTol ∧
      (∀ d, u.ent.takeover d = if s.ent.takeover d = .pending then .granted else s.ent.takeover d) ∧
      (u.ent.allLocked = true ↔
        ∀ i, let r := u.ent.leaves.get i
          r.pending = false ∧
            (r.state = .closed ∨ r.state = .isolated ∨ (r.state = .manual ∧ shut r ∧ r.lockProven = true))) ∧
      u.ent.releaseLeft = release .left ∧ u.ent.releaseRight = release .right ∧
      (∀ i,
        let x := inputs.get i
        let old := s.ent.leaves.get i
        let bad : LeafRecord := { old with failed := min (old.failed + 1) 3, lockProven := x.lockProven }
        let good : LeafRecord :=
          { old with position := some x.counts, failed := 0, pending := false, lockProven := x.lockProven }
        (x.good = false → old.failed < 2 ∨ passive old.state → taken i = bad) ∧
        (x.good = false → 2 ≤ old.failed → ¬passive old.state → taken i = fails .sensor bad) ∧
        (x.good = true → old.pending = false ∨ passive old.state → taken i = good) ∧
        (x.good = true → old.pending = true → ¬passive old.state →
          (x.counts ≤ s.cfg.closedTol → x.lockProven = true → taken i = enter .closed none good) ∧
          (s.cfg.closedTol < x.counts ∨ x.lockProven = false → taken i = enter .opened none good))) ∧
      (∀ i,
        let r := taken i
        (s.ent.takeover (leafSide i) = .pending → r.state ≠ .isolated →
          handed i = { enter .manual none r with attempts := 0, returnMark := false }) ∧
        (s.ent.takeover (leafSide i) ≠ .pending ∨ r.state = .isolated → handed i = r)) ∧
      (∀ i,
        let r := handed i
        let y := stepped i
        u.ent.leaves.get i = marked i y ∧
        (r.state = .unlocking → r.lockProven = false → y = enter .opening none r) ∧
        (r.state = .unlocking → r.lockProven = true → 500000 ≤ since r → y = fails .unlockFailed r) ∧
        (r.state = .unlocking → r.lockProven = true → since r < 500000 → y = r) ∧
        (r.state = .opening →
          ((∃ p, r.failed = 0 ∧ r.position = some p ∧ s.cfg.openCount - 20 ≤ p) → y = enter .opened none r) ∧
          ((∀ p, r.failed = 0 → r.position = some p → p < s.cfg.openCount - 20) → y = r)) ∧
        (r.state = .warning → s.cfg.warningTime * 1000 ≤ since r → y = closing r) ∧
        (r.state = .warning → since r < s.cfg.warningTime * 1000 → y = r) ∧
        (r.state = .closing → r.phase = some .locking →
          (shut r → r.lockProven = true → y = enter .closed none r) ∧
          (¬shut r ∨ r.lockProven = false →
            (500000 ≤ since r → y = fails .lockNotProven r) ∧ (since r < 500000 → y = r))) ∧
        (r.state = .closing → r.phase = some .driving →
          (shut r → y = enter .closing (some .locking) r) ∧
          (r.failed ≠ 0 → y = r) ∧
          (∀ p start at_, r.failed = 0 → r.position = some p → s.cfg.closedTol < p → r.stall = some (start, at_) →
            (Time.since t at_ < 200000 → y = r) ∧
            (200000 ≤ Time.since t at_ → (s.cfg.stallMin : Int) ≤ (start : Int) - p → y = { r with stall := some (p, t) }) ∧
            (200000 ≤ Time.since t at_ → (start : Int) - p < s.cfg.stallMin → r.attempts ≤ 1 →
              y = { enter .reopening (some .driving) r with
                    attempts := r.attempts + 1, target := some (min (p + 300) (s.cfg.openCount - 20)) }) ∧
            (200000 ≤ Time.since t at_ → (start : Int) - p < s.cfg.stallMin → 2 ≤ r.attempts →
              y = { enter .obstructed none r with attempts := 3 }))) ∧
        (r.state = .reopening → r.phase = some .turning → y = enter .opening none r) ∧
        (r.state = .reopening → r.phase = some .driving →
          (∀ p q, r.failed = 0 → r.position = some p → r.target = some q → q ≤ p →
            y = enter .reopening (some .pause) r) ∧
          ((∀ p q, r.failed = 0 → r.position = some p → r.target = some q → p < q) → y = r)) ∧
        (r.state = .reopening → r.phase = some .pause →
          (1000000 ≤ since r → y = closing r) ∧ (since r < 1000000 → y = r)) ∧
        (r.state = .closed → r.lockProven = false ∨ open_ r → y = fails .forced r) ∧
        (r.state = .closed → r.lockProven = true → ¬open_ r → y = r) ∧
        (r.state = .opened ∨ r.state = .obstructed ∨ passive r.state → y = r)) ∧
      ((u.notice.entry .entranceObstructed).active = true ↔ ∃ i, (u.ent.leaves.get i).state = .obstructed) ∧
      ((u.notice.entry .entranceFault).active = true ↔
        ∃ i, (u.ent.leaves.get i).state = .fault ∨ (u.ent.leaves.get i).returnMark = true ∨
          ((u.ent.leaves.get i).state = .isolated ∧ open_ (u.ent.leaves.get i))) ∧
      (let all : List (Fin 8) := [0, 1, 2, 3, 4, 5, 6, 7]
       let shown := fun (i : Fin 8) (r : LeafRecord) => ReportBody.entrance i.val r.state r.cause
       let reads := all.flatMap fun i =>
         let old := s.ent.leaves.get i
         if (taken i).state ≠ old.state ∨ (old.pending = true ∧ (inputs.get i).good = true ∧ ¬passive old.state) then
           [shown i (taken i)]
         else []
       let grants := [Side.left, .right].flatMap fun d =>
         if s.ent.takeover d = .pending then
           ((all.filter fun i => leafSide i = d).flatMap fun i =>
             if (handed i).state ≠ (taken i).state then [shown i (handed i)] else []) ++ [.takeover d .granted]
         else []
       let steps := all.flatMap fun i =>
         if (stepped i).state ≠ (handed i).state then [shown i (stepped i)] else []
       let releases := [Side.left, .right].flatMap fun d =>
         if (s.ent.release d = .granted) ↔ (release d = .granted) then [] else [ReportBody.release d (release d)]
       let reports := reads ++ grants ++ steps ++ releases
       s.link.tx ≠ none → s.notice.queue.length + reports.length ≤ 22 →
         ∃ alerts,
           (alerts.map fun y => match y with
             | .alert kind _ _ _ => some kind
             | _ => none).Sublist [some AlertKind.entranceObstructed, some .entranceFault] ∧
           u.notice.queue.map Report.body = s.notice.queue.map Report.body ++ reports ++ alerts)

/-- The five leaf timeouts. Each acts on a leaf in its state once its time has passed (log 5): a leaf that does not unlock
or lock within 500 ms faults, a warning ends and a pause ends in closing, a stalled closing leaf reopens or, at the third
attempt, stands obstructed, and one that moved enough begins the next window. A changed state posts its ENTRANCE report,
a change of phase or window none, and no alert changes. Before that nothing changes, nor does a leaf at STALL_WINDOW_END
that is not CLOSING in phase DRIVING, not read, or sensed closed. -/
def Obligations.LeafTimeoutsMoveTheLeaf : Prop :=
  ∀ (t : Time) (i : Fin 8) (s : State), s.link.buffer = [] →
    let r := s.ent.leaves.get i
    let becomes := fun (c : Instr) (x : LeafRecord) =>
      ∃ u : State,
        exec c s = .next u ∧
        u = { s.advance t with
              ent := { s.ent with leaves := s.ent.leaves.set i x }
              notice := u.notice, link := { s.link with tx := u.link.tx, waiting := u.link.waiting } } ∧
        u.notice.alerts = s.notice.alerts ∧
        (s.link.tx ≠ none → s.notice.queue.length < 24 →
          u.notice.queue.map Report.body =
            s.notice.queue.map Report.body ++
              (if x.state = r.state then [] else [.entrance i.val x.state x.cause]))
    let since := Time.since t r.stateTime
    let closing : LeafRecord :=
      { r with
        state := .closing, phase := some .driving, stateTime := t, cause := none, target := none
        stall := some (r.position.getD 0, t), motor := .closing, lock := .released }
    let fault := fun x : LeafCause =>
      ({ r with
         state := .fault, phase := none, stateTime := t, cause := some x, attempts := 0, stall := none, target := none
         motor := .off, lock := .engaged } : LeafRecord)
    let unlockDue := r.state = .unlocking ∧ r.lockProven = true ∧ 500000 ≤ since
    let lockDue :=
      r.state = .closing ∧ r.phase = some .locking ∧ r.locked s.cfg.closedTol = false ∧ 500000 ≤ since
    let warningDue := r.state = .warning ∧ s.cfg.warningTime * 1000 ≤ since
    let pauseDue := r.state = .reopening ∧ r.phase = some .pause ∧ 1000000 ≤ since
    (unlockDue → becomes (.unlockTimeout t i) (fault .unlockFailed)) ∧
    (¬unlockDue → exec (.unlockTimeout t i) s = .next (s.advance t).finish) ∧
    (lockDue → becomes (.lockTimeout t i) (fault .lockNotProven)) ∧
    (¬lockDue → exec (.lockTimeout t i) s = .next (s.advance t).finish) ∧
    (warningDue → becomes (.warningTimeElapsed t i) closing) ∧
    (¬warningDue → exec (.warningTimeElapsed t i) s = .next (s.advance t).finish) ∧
    (pauseDue → becomes (.reopenPauseElapsed t i) closing) ∧
    (¬pauseDue → exec (.reopenPauseElapsed t i) s = .next (s.advance t).finish) ∧
    (∀ start at_ p, r.state = .closing → r.phase = some .driving → r.stall = some (start, at_) → r.position = some p →
      r.failed = 0 → s.cfg.closedTol < p →
      (200000 ≤ Time.since t at_ → (start : Int) - p < s.cfg.stallMin → r.attempts ≤ 1 →
        becomes (.stallWindowEnd t i)
          { r with
            state := .reopening, phase := some .driving, stateTime := t, cause := none, stall := none
            attempts := r.attempts + 1, target := some (min (p + 300) (s.cfg.openCount - 20))
            motor := .opening, lock := .released }) ∧
      (200000 ≤ Time.since t at_ → (start : Int) - p < s.cfg.stallMin → 2 ≤ r.attempts →
        becomes (.stallWindowEnd t i)
          { r with
            state := .obstructed, phase := none, stateTime := t, cause := none, stall := none, target := none
            attempts := 3, motor := .off, lock := .released }) ∧
      (200000 ≤ Time.since t at_ → (s.cfg.stallMin : Int) ≤ (start : Int) - p →
        becomes (.stallWindowEnd t i) { r with stall := some (p, t) }) ∧
      (Time.since t at_ < 200000 → exec (.stallWindowEnd t i) s = .next (s.advance t).finish)) ∧
    (r.state ≠ .closing ∨ r.phase ≠ some .driving ∨ r.failed ≠ 0 ∨ r.stall = none ∨
        (∀ p, r.position = some p → p ≤ s.cfg.closedTol) →
      exec (.stallWindowEnd t i) s = .next (s.advance t).finish)

/-- ENTRANCE COMMAND of a side. OPEN is taken with the side's release GRANTED and no takeover, CLOSE with no takeover; each
moves the leaves of that side by its table, leaves the other side alone, and is answered with the number of leaves it
moved; each moved leaf posts its ENTRANCE report, in ascending order (log 55), and no alert changes; else REFUSED_STATE;
a side code above 1 is BAD_FIELD 1; then nothing changes. A leaf counts as closed by the closed_tol of the latest cycle,
whose reads it judges. -/
def Obligations.EntranceCommandsMoveTheSide : Prop :=
  ∀ (t : Time) (tag side : Byte) (s : State), s.linkReady →
    let d : Side := if side = 0#8 then .left else .right
    let moved := fun (c : Instr) (f : LeafRecord → LeafRecord) =>
      ∃ x : State,
        exec c s =
          .next (x.replied 0x28 tag (.done (.leaves
            ((d.leaves.filter fun i => decide ((f (s.ent.leaves.get i)).state ≠ (s.ent.leaves.get i).state)).length)))) ∧
        x = { s.advance t with ent := { s.ent with leaves := x.ent.leaves }, notice := x.notice } ∧
        (∀ i, x.ent.leaves.get i = if leafSide i = d then f (s.ent.leaves.get i) else s.ent.leaves.get i) ∧
        x.notice.alerts = s.notice.alerts ∧
        (s.notice.queue.length ≤ 20 →
          x.notice.queue.map Report.body =
            s.notice.queue.map Report.body ++
              (([0, 1, 2, 3, 4, 5, 6, 7] : List (Fin 8)).filter fun i => decide (leafSide i = d)).flatMap fun i =>
                let y := f (s.ent.leaves.get i)
                if y.state = (s.ent.leaves.get i).state then [] else [.entrance i.val y.state y.cause])
    (side.toNat ≤ 1 → s.ent.takeover d = .none → s.ent.release d = .granted →
      moved (.entranceOpen t tag side) (LeafRecord.commandOpen t)) ∧
    (side.toNat ≤ 1 → s.ent.takeover d ≠ .none ∨ s.ent.release d ≠ .granted →
      exec (.entranceOpen t tag side) s = .next ((s.advance t).replied 0x28 tag .refusedState)) ∧
    (side.toNat ≤ 1 → s.ent.takeover d = .none →
      moved (.entranceClose t tag side) (LeafRecord.commandClose t s.ent.closedTol)) ∧
    (side.toNat ≤ 1 → s.ent.takeover d ≠ .none →
      exec (.entranceClose t tag side) s = .next ((s.advance t).replied 0x28 tag .refusedState)) ∧
    (2 ≤ side.toNat →
      exec (.entranceOpen t tag side) s = .next ((s.advance t).replied 0x28 tag (.badField 1)) ∧
      exec (.entranceClose t tag side) s = .next ((s.advance t).replied 0x28 tag (.badField 1))) ∧
    (∀ r : LeafRecord, r.pending = false →
      (r.state = .closed → (r.commandOpen t).state = .unlocking ∧ (r.commandOpen t).lock = .released) ∧
      (r.state = .warning ∨ r.state = .obstructed →
        (r.commandOpen t).state = .opening ∧ (r.commandOpen t).motor = .opening) ∧
      (r.state = .closing → r.phase = some .locking →
        (r.commandOpen t).state = .unlocking ∧ (r.commandOpen t).lock = .released) ∧
      (r.state = .closing → r.phase ≠ some .locking →
        (r.commandOpen t).state = .reopening ∧ (r.commandOpen t).phase = some .turning) ∧
      (r.state = .reopening → r.phase ≠ some .turning → (r.commandOpen t).state = .opening) ∧
      (r.state = .reopening → r.phase = some .turning → r.commandOpen t = r) ∧
      (r.state = .isolated ∨ r.state = .manual ∨ r.state = .fault ∨ r.state = .opened ∨ r.state = .opening ∨
        r.state = .unlocking → r.commandOpen t = r) ∧
      (r.state = .opened ∨ r.state = .opening ∨ r.state = .obstructed ∨ r.state = .reopening →
        (r.commandClose t s.ent.closedTol).state = .warning ∧ (r.commandClose t s.ent.closedTol).attempts = 0 ∧
        (r.commandClose t s.ent.closedTol).motor = .off) ∧
      (r.state = .isolated ∨ r.state = .manual ∨ r.state = .closed ∨ r.state = .warning ∨ r.state = .closing →
        r.commandClose t s.ent.closedTol = { r with attempts := 0 }) ∧
      (r.state = .unlocking →
        (r.commandClose t s.ent.closedTol).state = .closing ∧
        (r.commandClose t s.ent.closedTol).phase = some .locking ∧
        (r.commandClose t s.ent.closedTol).lock = .engaged) ∧
      (r.state = .fault → r.failed ≠ 0 → r.commandClose t s.ent.closedTol = { r with attempts := 0 }) ∧
      (r.state = .fault → r.failed = 0 →
        (r.commandClose t s.ent.closedTol).state =
          (if r.locked s.ent.closedTol then .closed else .warning)))

/-- ENTRANCE ISOLATE and takeover. ON isolates a leaf sensed closed, OFF returns one to the state its sensors show, each with
no takeover of its side; a TAKEOVER REQUEST waits for the next cycle; a TAKEOVER RETURN ends a pending takeover, or takes
back the MANUAL leaves of a granted one by their sensors, a leaf returned OPEN with its lock released also while its first
read is pending (log 54). Each leaf that changes its state posts its ENTRANCE report, in ascending order and before the
TAKEOVER report of the return (log 55), and no alert changes. What is turned away changes nothing. -/
def Obligations.IsolationAndTakeover : Prop :=
  (∀ (t : Time) (tag leaf : Byte) (i : Fin 8) (s : State), s.linkReady → leaf.toNat = i.val →
    let r := s.ent.leaves.get i
    let free := s.ent.takeover (leafSide i) = .none
    let becomes := fun (c : Instr) (y : LeafRecord) =>
      ∃ x : State,
        exec c s = .next (x.replied 0x29 tag (.done .nothing)) ∧
        x = { s.advance t with ent := { s.ent with leaves := s.ent.leaves.set i y }, notice := x.notice } ∧
        x.notice.alerts = s.notice.alerts ∧
        (s.notice.queue.length < 24 →
          x.notice.queue.map Report.body = s.notice.queue.map Report.body ++ [.entrance i.val y.state y.cause])
    let back := fun (st : LeafState) (c : Option LeafCause) (m : Lock) =>
      ({ r with
         state := st, phase := none, stateTime := t, cause := c, attempts := 0, stall := none, target := none
         returnMark := if st = .closed then false else r.returnMark, motor := .off, lock := m } : LeafRecord)
    (free → r.state ≠ .isolated → r.sensedClosed s.ent.closedTol = true →
      becomes (.isolateOn t tag leaf) { back .isolated none .engaged with returnMark := false }) ∧
    (free → r.state = .isolated → exec (.isolateOn t tag leaf) s = .next ((s.advance t).replied 0x29 tag (.done .nothing))) ∧
    (¬free ∨ (r.state ≠ .isolated ∧ r.sensedClosed s.ent.closedTol = false) →
      exec (.isolateOn t tag leaf) s = .next ((s.advance t).replied 0x29 tag .refusedState)) ∧
    (free → r.state = .isolated → r.failed = 3 → becomes (.isolateOff t tag leaf) (back .fault (some .sensor) .engaged)) ∧
    (free → r.state = .isolated → r.failed ≠ 3 → r.locked s.ent.closedTol = true →
      becomes (.isolateOff t tag leaf) (back .closed none .engaged)) ∧
    (free → r.state = .isolated → r.failed ≠ 3 → r.locked s.ent.closedTol = false →
      becomes (.isolateOff t tag leaf) (back .opened none .released)) ∧
    (free → r.state ≠ .isolated → exec (.isolateOff t tag leaf) s = .next ((s.advance t).replied 0x29 tag (.done .nothing))) ∧
    (¬free → exec (.isolateOff t tag leaf) s = .next ((s.advance t).replied 0x29 tag .refusedState))) ∧
  (∀ (t : Time) (tag leaf : Byte) (s : State), s.linkReady → 8 ≤ leaf.toNat →
    exec (.isolateOn t tag leaf) s = .next ((s.advance t).replied 0x29 tag (.badField 1)) ∧
    exec (.isolateOff t tag leaf) s = .next ((s.advance t).replied 0x29 tag (.badField 1))) ∧
  (∀ (t : Time) (tag side : Byte) (s : State), s.linkReady → side.toNat ≤ 1 →
    let d : Side := if side = 0#8 then .left else .right
    (s.ent.takeover d ≠ .granted →
      exec (.takeoverRequest t tag side) s =
        .next (State.replied 0x2A tag .accepted { s.advance t with ent := s.ent.setTakeover d .pending })) ∧
    (s.ent.takeover d = .granted →
      exec (.takeoverRequest t tag side) s = .next ((s.advance t).replied 0x2A tag (.done .nothing))) ∧
    (s.ent.takeover d = .none →
      exec (.takeoverReturn t tag side) s = .next ((s.advance t).replied 0x2B tag .refusedState)) ∧
    (s.ent.takeover d = .pending →
      exec (.takeoverReturn t tag side) s =
        .next (State.replied 0x2B tag (.done .nothing)
          (State.post (.takeover d .none) { s.advance t with ent := s.ent.setTakeover d .none }))) ∧
    (s.ent.takeover d = .granted →
      ∃ x : State,
        exec (.takeoverReturn t tag side) s = .next (x.replied 0x2B tag (.done .nothing)) ∧
        x = { s.advance t with ent := { s.ent.setTakeover d .none with leaves := x.ent.leaves }, notice := x.notice } ∧
        (∀ i,
          let r := s.ent.leaves.get i
          let y := x.ent.leaves.get i
          let back := fun (st : LeafState) (c : Option LeafCause) (mark : Bool) (m : Lock) =>
            ({ r with
               state := st, phase := none, stateTime := t, cause := c, attempts := 0, stall := none, target := none
               returnMark := mark, motor := .off, lock := m } : LeafRecord)
          (leafSide i ≠ d ∨ r.state ≠ .manual → y = r) ∧
          (leafSide i = d → r.state = .manual →
            (r.failed = 3 → y = back .fault (some .sensor) r.returnMark .engaged) ∧
            (r.failed ≠ 3 → r.locked s.ent.closedTol = true → y = back .closed none false .engaged) ∧
            (r.failed ≠ 3 → r.locked s.ent.closedTol = false →
              y = back .opened none (decide (s.ent.release d ≠ .granted)) .released))) ∧
        x.notice.alerts = s.notice.alerts ∧
        (s.notice.queue.length ≤ 19 →
          x.notice.queue.map Report.body =
            s.notice.queue.map Report.body ++
              ((([0, 1, 2, 3, 4, 5, 6, 7] : List (Fin 8)).filter fun i =>
                decide (leafSide i = d ∧ (s.ent.leaves.get i).state = .manual)).map fun i =>
                .entrance i.val (x.ent.leaves.get i).state (x.ent.leaves.get i).cause) ++
              [.takeover d .none]))) ∧
  (∀ (t : Time) (tag side : Byte) (s : State), s.linkReady → 2 ≤ side.toNat →
    exec (.takeoverRequest t tag side) s = .next ((s.advance t).replied 0x2A tag (.badField 1)) ∧
    exec (.takeoverReturn t tag side) s = .next ((s.advance t).replied 0x2B tag (.badField 1)))

/-! ## Configuration and restart -/

/-- CONFIGURE is taken in INIT, and in PARKED at standstill: a record that passes every check replaces the record and
sets the configured flag; the first failing check gives BAD_FIELD; in other modes REFUSED_STATE. A taken one touches
beside it only the capture, the span and the check of the Odometry Unit, the radio state and the alerts: a capture
goes with the reader offset or the increment of the reference counter before the CONFIGURE (log 29), an ARMED check
returns when its segment no longer holds the pinion point, the span restarts with a length, a sign or the reference
and runs on RACK only, and the radio state moves forward at once, in one move (log 34). The conditions of the Odometry
Unit follow it, those of the radio where its state moves, and every other alert entry stands. The checks are the ranges
of the 43 fields in their order, then the seven cross checks. -/
def Obligations.ConfigureReplacesTheRecord : Prop :=
  (∀ (t : Time) (tag : Byte) (record : ConfigRecord) (s : State), s.linkReady → recordFits record = true →
    let mayTake := s.sup.mode = .init ∨ (s.sup.mode = .parked ∧ s.odo.standstill = true)
    (mayTake → configBad record = none →
      ∃ x : State,
        exec (.configure t tag record) s = .next (x.replied 0x39 tag (.done .nothing)) ∧
        x = { s.advance t with
              cfg := record, configured := true
              odo := { s.odo with capture := x.odo.capture, span := x.odo.span, engagement := x.odo.engagement }
              radio := { s.radio with state := x.radio.state, unheard := x.radio.unheard }
              notice := x.notice } ∧
        (let pinion := s.cfg.lPin ≠ record.lPin ∨ s.cfg.pinSign ≠ record.pinSign
         let wheel := s.cfg.lWhl ≠ record.lWhl ∨ s.cfg.whlSign ≠ record.whlSign
         let old := fun n : Nat => s.radio.lastGood.any fun l => decide (n ≤ Time.since (s.clock.advance t).localMs l)
         x.odo.capture =
           (if s.cfg.readerOffset ≠ record.readerOffset ∨ (s.reference = .pinion ∧ pinion) ∨
               (s.reference = .wheel ∧ wheel) then none
           else s.odo.capture) ∧
         x.odo.engagement =
           (match s.odo.engagement with
            | .armed i p q kept =>
              if x.pinionSegment.map SegView.index = some i then .armed i p q kept
              else
                match kept with
                | none => .idle
                | some k => .unproven k
            | e => e) ∧
         x.odo.span =
           (if pinion ∨ wheel ∨ x.reference ≠ s.reference ∨ x.reference = .wheel then ⟨0, 0, 0⟩ else s.odo.span) ∧
         x.radio.state =
           (if s.radio.state = .lost ∨ old record.tLost = true then .lost
           else if s.radio.state = .ok ∧ old record.tFreeze = true then .degraded
           else s.radio.state) ∧
         x.radio.unheard =
           (if s.radio.state ≠ .lost ∧ old record.tLost = true then false else s.radio.unheard)) ∧
        (s.notice.alerts.length = 21 →
          ∀ k, x.notice.entry k =
            ((s.notice.entry k).follow (x.odo.shows k)).follow
              (if x.radio.state = s.radio.state then none else x.radio.shows k))) ∧
    (∀ n, mayTake → configBad record = some n →
      exec (.configure t tag record) s = .next ((s.advance t).replied 0x39 tag (.badField n))) ∧
    (¬mayTake → exec (.configure t tag record) s = .next ((s.advance t).replied 0x39 tag .refusedState))) ∧
  (∀ c : ConfigRecord,
    let field := fun n v lo hi : Nat => (n, decide (lo ≤ v ∧ v ≤ hi))
    let checks : List (Nat × Bool) :=
      [field 1 c.carId 1 254, field 2 c.carLength 4000 40000, field 3 c.pinionOffset 0 40000,
       field 4 c.readerOffset 0 40000, field 5 c.lPin 500 20000, field 6 c.lWhl 500 20000,
       (7, decide (c.pinSign = 1 ∨ c.pinSign = 255)), (8, decide (c.whlSign = 1 ∨ c.whlSign = 255)),
       field 9 c.pinRate 1 50, field 10 c.whlRate 1 50, field 11 c.uMax 1000 30000, field 12 c.markerAccuracy 50 1000,
       field 13 c.agreeTol 50 2000, field 14 c.engageTol 100 2000, field 15 c.window 50 500] ++
      [field 16 c.tStill 300 2000, field 17 c.rollaway 100 1000, field 18 c.entranceMoving 50 500,
       field 19 c.rSv 500 20000, field 20 c.rEm 500 20000, field 21 c.aFloor 100 2000, field 22 c.tR 200 3000,
       field 23 c.dG 2000 200000, field 24 c.vCar 1000 15000, field 25 c.vShunt 0 2500, field 26 c.vRl 0 5000,
       field 27 c.horizon 100000 5000000, field 28 c.mS 50 1000, field 29 c.mE 100 2000, field 30 c.mR 100 1000] ++
      [field 31 c.tCheck 500 5000, field 32 c.kEff 25 90, field 33 c.holdLevel 16 64, field 34 c.m 2 4,
       field 35 c.wSync 4 8, field 36 c.tFreeze 500 10000, field 37 c.tLost 2000 120000, field 38 c.transit 0 200,
       field 39 c.closedTol 1 200, field 40 c.openCount 500 4095, field 41 c.stallMin 5 200,
       field 42 c.warningTime 0 5000, field 43 c.enables 0 7] ++
      [(29, decide (c.mS < c.mE)), (20, decide (c.rSv ≤ c.rEm)), (37, decide (c.tFreeze < c.tLost)),
       (3, decide (c.pinionOffset ≤ c.carLength)), (4, decide (c.readerOffset ≤ c.carLength)),
       (34, decide (c.m < c.wSync)),
       (27, decide ((c.vCar * c.tR + 999) / 1000 + (c.vCar * c.vCar + (2 * c.aFloor - 1)) / (2 * c.aFloor) ≤ c.horizon))]
    configBad c = (checks.find? fun x => !x.2).map Prod.fst)

/-- RESTART is taken in PARKED at standstill with no detector test running: the framer, the route records and the Supervisor
take their values, the alert entries are cleared and the conditions that hold latch again; the odometry, the banks, the
brake channels, the entrances and the configuration stand. The results shown of the latest pass keep time, direction,
speed and front and are else those after power-on, the mode shown PARKED. The queued reports stand and the ALERT reports
of the conditions that latch follow them, the framer's before the Odometry Unit's (log 23). Else REFUSED_STATE and nothing
changes. -/
def Obligations.RestartClearsTheRunningBlocks : Prop :=
  ∀ (t : Time) (tag : Byte) (s : State), s.linkReady →
    let mayTake := s.sup.mode = .parked ∧ s.odo.standstill = true ∧ s.sup.testStep = 0
    (mayTake →
      ∃ x : State,
        exec (.restart t tag) s = .next (x.replied 0x3B tag (.done .nothing)) ∧
        x = { s.advance t with
              radio := { Radio.powerOn with uplinkFrame := s.radio.uplinkFrame }
              route := ⟨none, [], none, [], 0⟩
              sup := { s.sup with
                mode := .parked, modeBefore := none, drive := ⟨.neutral, false, 64⟩, level := .none, stopPoint := none
                trip := none, effort := .idle, demands := ⟨64, .apply, .apply⟩, testStep := 0, pass := x.sup.pass
                faultRecord := none, faultSeen := false }
              notice := x.notice } ∧
        x.notice.entry .radioLost = ⟨true, false, true, 1⟩ ∧
        (let shown := fun b : Bool => if b then (⟨true, false, true, 1⟩ : AlertEntry) else ⟨false, false, false, 0⟩
         x.notice.entry .positionDegraded = shown s.odo.isDegraded ∧
         x.notice.entry .odometryDisagree = shown s.odo.disagree ∧
         x.notice.entry .engagementUnproven = shown s.odo.engagement.isUnproven) ∧
        (∀ k : AlertKind, k ≠ .radioLost → k ≠ .positionDegraded → k ≠ .odometryDisagree → k ≠ .engagementUnproven →
          x.notice.entry k = ⟨false, false, false, 0⟩) ∧
        x.sup.pass =
          { time := s.sup.pass.time, mode := .parked, dir := s.sup.pass.dir, speed := s.sup.pass.speed
            front := s.sup.pass.front, reaction := 0, ceiling := 0, term := .mode, termSource := none, pull := 0
            pullUnsurveyed := false, netService := 0, scanEnd := none, merged := false, targets := [], permitted := 0
            giver := none } ∧
        (s.notice.queue.length ≤ 20 →
          let latching : List AlertKind := [.radioLost] ++
            (if s.odo.isDegraded then [.positionDegraded] else []) ++
            (if s.odo.disagree then [.odometryDisagree] else []) ++
            (if s.odo.engagement.isUnproven then [.engagementUnproven] else [])
          x.notice.nextNumber = s.notice.nextNumber + BitVec.ofNat 8 latching.length ∧ x.notice.drops = 0 ∧
          x.notice.queue =
            s.notice.queue ++ latching.zipIdx.map fun y =>
              ⟨s.notice.nextNumber + BitVec.ofNat 8 y.2, t, if y.2 = 0 then s.notice.drops else 0,
                .alert y.1 .condition false
                  (BitVec.ofNat 24 (((latching.take (y.2 + 1)).map fun k => 2 ^ k.number).sum))⟩)) ∧
    (¬mayTake → exec (.restart t tag) s = .next ((s.advance t).replied 0x3B tag .refusedState))

/-! ## Invariants of every step -/

/-- Every invariant below holds right after reset. -/
def Obligations.ResetMeetsTheInvariants : Prop :=
  State.reset.noticeInv ∧ State.reset.linkInv ∧ State.reset.supervisorInv ∧ State.reset.brakeInv ∧
  State.reset.lineInv ∧ State.reset.configInv ∧ State.reset.odometryInv ∧ State.reset.routeInv ∧ State.reset.leavesInv

/-- Every step keeps the alert entries and the report queue in order: 21 kinds, counts, drops and queue in range, the
waiting reports numbered without a break. -/
def Obligations.StepsKeepTheReportsNumbered : Prop :=
  ∀ s u : State, s.noticeInv → step s = .next u → u.noticeInv

/-- Every step keeps the link in order: at most 4 frames wait, a frame waits only behind a waiting reply, and a reply or a
report only behind a transmission. -/
def Obligations.StepsKeepTheLinkInOrder : Prop := ∀ s u : State, s.linkInv → step s = .next u → u.linkInv

/-- Every step keeps the mode, the level, the trip record and the test step consistent: EMERGENCY exactly in TRIPPED, a test
step in PARKED only. -/
def Obligations.StepsKeepModeAndLevelConsistent : Prop :=
  ∀ s u : State, s.supervisorInv → step s = .next u → u.supervisorInv

/-- Every step keeps each brake channel: 64 slots, SERVICE slots valid, the fresh slots of a single channel its valid ones,
the run at most 64. -/
def Obligations.StepsKeepTheBrakeSlots : Prop := ∀ s u : State, s.brakeInv → step s = .next u → u.brakeInv

/-- Every step keeps the banks sound: a bank that is CHECKED or ACTIVE passes every test, and exactly the active bank is
ACTIVE. -/
def Obligations.StepsKeepTheActiveBankSound : Prop := ∀ s u : State, s.lineInv → step s = .next u → u.lineInv

/-- Every step keeps the configuration record at its power-on values or at values that pass every range and cross check. -/
def Obligations.StepsKeepTheConfigurationValid : Prop :=
  ∀ s u : State, s.configInv → step s = .next u → u.configInv

/-- Every step keeps the odometry in range, and an UNLOCALISED record at the greatest uncertainty. -/
def Obligations.StepsKeepTheOdometryInRange : Prop :=
  ∀ s u : State, s.odometryInv → step s = .next u → u.odometryInv

/-- Every step keeps the restriction list ordered, without a repeated id, of at most 16 entries in range, and the hold set
ascending. -/
def Obligations.StepsKeepTheRestrictionsOrdered : Prop :=
  ∀ s u : State, s.routeInv → step s = .next u → u.routeInv

/-- Every step keeps each leaf's outputs those of its state and phase. -/
def Obligations.StepsKeepTheLeafOutputs : Prop := ∀ s u : State, s.leavesInv → step s = .next u → u.leavesInv

end
end

