-- ==== Sys2Proof/Laws/State.lean ====
section
/-! SUPPORT. The fields of the state under each named update: what an update of one block leaves of every other, each by
rfl, so that no proof unfolds a record update. -/

namespace Sys2Proof.Machine

/-! ### State.advance -/

@[simp] theorem State.advance_odo (s : State) (t : Time) : (s.advance t).odo = s.odo := rfl
@[simp] theorem State.advance_line (s : State) (t : Time) : (s.advance t).line = s.line := rfl
@[simp] theorem State.advance_radio (s : State) (t : Time) : (s.advance t).radio = s.radio := rfl
@[simp] theorem State.advance_route (s : State) (t : Time) : (s.advance t).route = s.route := rfl
@[simp] theorem State.advance_sup (s : State) (t : Time) : (s.advance t).sup = s.sup := rfl
@[simp] theorem State.advance_brake (s : State) (t : Time) : (s.advance t).brake = s.brake := rfl
@[simp] theorem State.advance_ent (s : State) (t : Time) : (s.advance t).ent = s.ent := rfl
@[simp] theorem State.advance_notice (s : State) (t : Time) : (s.advance t).notice = s.notice := rfl
@[simp] theorem State.advance_link (s : State) (t : Time) : (s.advance t).link = s.link := rfl
@[simp] theorem State.advance_cfg (s : State) (t : Time) : (s.advance t).cfg = s.cfg := rfl
@[simp] theorem State.advance_configured (s : State) (t : Time) : (s.advance t).configured = s.configured := rfl
@[simp] theorem State.advance_pending (s : State) (t : Time) : (s.advance t).pending = s.pending := rfl

/-! ### State.post -/

@[simp] theorem State.post_clock (s : State) (body : ReportBody) : (s.post body).clock = s.clock := rfl
@[simp] theorem State.post_odo (s : State) (body : ReportBody) : (s.post body).odo = s.odo := rfl
@[simp] theorem State.post_line (s : State) (body : ReportBody) : (s.post body).line = s.line := rfl
@[simp] theorem State.post_radio (s : State) (body : ReportBody) : (s.post body).radio = s.radio := rfl
@[simp] theorem State.post_route (s : State) (body : ReportBody) : (s.post body).route = s.route := rfl
@[simp] theorem State.post_sup (s : State) (body : ReportBody) : (s.post body).sup = s.sup := rfl
@[simp] theorem State.post_brake (s : State) (body : ReportBody) : (s.post body).brake = s.brake := rfl
@[simp] theorem State.post_ent (s : State) (body : ReportBody) : (s.post body).ent = s.ent := rfl
@[simp] theorem State.post_link (s : State) (body : ReportBody) : (s.post body).link = s.link := rfl
@[simp] theorem State.post_cfg (s : State) (body : ReportBody) : (s.post body).cfg = s.cfg := rfl
@[simp] theorem State.post_configured (s : State) (body : ReportBody) : (s.post body).configured = s.configured := rfl
@[simp] theorem State.post_pending (s : State) (body : ReportBody) : (s.post body).pending = s.pending := rfl

/-! ### State.raise -/

@[simp] theorem State.raise_clock (s : State) (k : AlertKind) : (s.raise k).clock = s.clock := rfl
@[simp] theorem State.raise_odo (s : State) (k : AlertKind) : (s.raise k).odo = s.odo := rfl
@[simp] theorem State.raise_line (s : State) (k : AlertKind) : (s.raise k).line = s.line := rfl
@[simp] theorem State.raise_radio (s : State) (k : AlertKind) : (s.raise k).radio = s.radio := rfl
@[simp] theorem State.raise_route (s : State) (k : AlertKind) : (s.raise k).route = s.route := rfl
@[simp] theorem State.raise_sup (s : State) (k : AlertKind) : (s.raise k).sup = s.sup := rfl
@[simp] theorem State.raise_brake (s : State) (k : AlertKind) : (s.raise k).brake = s.brake := rfl
@[simp] theorem State.raise_ent (s : State) (k : AlertKind) : (s.raise k).ent = s.ent := rfl
@[simp] theorem State.raise_link (s : State) (k : AlertKind) : (s.raise k).link = s.link := rfl
@[simp] theorem State.raise_cfg (s : State) (k : AlertKind) : (s.raise k).cfg = s.cfg := rfl
@[simp] theorem State.raise_configured (s : State) (k : AlertKind) : (s.raise k).configured = s.configured := rfl
@[simp] theorem State.raise_pending (s : State) (k : AlertKind) : (s.raise k).pending = s.pending := rfl

/-! ### State.setCondition -/

@[simp] theorem State.setCondition_clock (s : State) (k : AlertKind) (b : Bool) : (s.setCondition k b).clock = s.clock := rfl
@[simp] theorem State.setCondition_odo (s : State) (k : AlertKind) (b : Bool) : (s.setCondition k b).odo = s.odo := rfl
@[simp] theorem State.setCondition_line (s : State) (k : AlertKind) (b : Bool) : (s.setCondition k b).line = s.line := rfl
@[simp] theorem State.setCondition_radio (s : State) (k : AlertKind) (b : Bool) : (s.setCondition k b).radio = s.radio := rfl
@[simp] theorem State.setCondition_route (s : State) (k : AlertKind) (b : Bool) : (s.setCondition k b).route = s.route := rfl
@[simp] theorem State.setCondition_sup (s : State) (k : AlertKind) (b : Bool) : (s.setCondition k b).sup = s.sup := rfl
@[simp] theorem State.setCondition_brake (s : State) (k : AlertKind) (b : Bool) : (s.setCondition k b).brake = s.brake := rfl
@[simp] theorem State.setCondition_ent (s : State) (k : AlertKind) (b : Bool) : (s.setCondition k b).ent = s.ent := rfl
@[simp] theorem State.setCondition_link (s : State) (k : AlertKind) (b : Bool) : (s.setCondition k b).link = s.link := rfl
@[simp] theorem State.setCondition_cfg (s : State) (k : AlertKind) (b : Bool) : (s.setCondition k b).cfg = s.cfg := rfl
@[simp] theorem State.setCondition_configured (s : State) (k : AlertKind) (b : Bool) : (s.setCondition k b).configured = s.configured := rfl
@[simp] theorem State.setCondition_pending (s : State) (k : AlertKind) (b : Bool) : (s.setCondition k b).pending = s.pending := rfl

/-! ### State.force -/

@[simp] theorem State.force_clock (s : State) (k : AlertKind) : (s.force k).clock = s.clock := rfl
@[simp] theorem State.force_odo (s : State) (k : AlertKind) : (s.force k).odo = s.odo := rfl
@[simp] theorem State.force_line (s : State) (k : AlertKind) : (s.force k).line = s.line := rfl
@[simp] theorem State.force_radio (s : State) (k : AlertKind) : (s.force k).radio = s.radio := rfl
@[simp] theorem State.force_route (s : State) (k : AlertKind) : (s.force k).route = s.route := rfl
@[simp] theorem State.force_sup (s : State) (k : AlertKind) : (s.force k).sup = s.sup := rfl
@[simp] theorem State.force_brake (s : State) (k : AlertKind) : (s.force k).brake = s.brake := rfl
@[simp] theorem State.force_ent (s : State) (k : AlertKind) : (s.force k).ent = s.ent := rfl
@[simp] theorem State.force_link (s : State) (k : AlertKind) : (s.force k).link = s.link := rfl
@[simp] theorem State.force_cfg (s : State) (k : AlertKind) : (s.force k).cfg = s.cfg := rfl
@[simp] theorem State.force_configured (s : State) (k : AlertKind) : (s.force k).configured = s.configured := rfl
@[simp] theorem State.force_pending (s : State) (k : AlertKind) : (s.force k).pending = s.pending := rfl

/-! ### State.publishOdometry -/

@[simp] theorem State.publishOdometry_clock (s : State) : (s.publishOdometry).clock = s.clock := rfl
@[simp] theorem State.publishOdometry_odo (s : State) : (s.publishOdometry).odo = s.odo := rfl
@[simp] theorem State.publishOdometry_line (s : State) : (s.publishOdometry).line = s.line := rfl
@[simp] theorem State.publishOdometry_radio (s : State) : (s.publishOdometry).radio = s.radio := rfl
@[simp] theorem State.publishOdometry_route (s : State) : (s.publishOdometry).route = s.route := rfl
@[simp] theorem State.publishOdometry_sup (s : State) : (s.publishOdometry).sup = s.sup := rfl
@[simp] theorem State.publishOdometry_brake (s : State) : (s.publishOdometry).brake = s.brake := rfl
@[simp] theorem State.publishOdometry_ent (s : State) : (s.publishOdometry).ent = s.ent := rfl
@[simp] theorem State.publishOdometry_link (s : State) : (s.publishOdometry).link = s.link := rfl
@[simp] theorem State.publishOdometry_cfg (s : State) : (s.publishOdometry).cfg = s.cfg := rfl
@[simp] theorem State.publishOdometry_configured (s : State) : (s.publishOdometry).configured = s.configured := rfl
@[simp] theorem State.publishOdometry_pending (s : State) : (s.publishOdometry).pending = s.pending := rfl

/-! ### State.publishRadio -/

@[simp] theorem State.publishRadio_clock (s : State) : (s.publishRadio).clock = s.clock := by
  simp only [State.publishRadio, State.setCondition_clock]
@[simp] theorem State.publishRadio_odo (s : State) : (s.publishRadio).odo = s.odo := by
  simp only [State.publishRadio, State.setCondition_odo]
@[simp] theorem State.publishRadio_line (s : State) : (s.publishRadio).line = s.line := by
  simp only [State.publishRadio, State.setCondition_line]
@[simp] theorem State.publishRadio_radio (s : State) : (s.publishRadio).radio = s.radio := by
  simp only [State.publishRadio, State.setCondition_radio]
@[simp] theorem State.publishRadio_route (s : State) : (s.publishRadio).route = s.route := by
  simp only [State.publishRadio, State.setCondition_route]
@[simp] theorem State.publishRadio_sup (s : State) : (s.publishRadio).sup = s.sup := by
  simp only [State.publishRadio, State.setCondition_sup]
@[simp] theorem State.publishRadio_brake (s : State) : (s.publishRadio).brake = s.brake := by
  simp only [State.publishRadio, State.setCondition_brake]
@[simp] theorem State.publishRadio_ent (s : State) : (s.publishRadio).ent = s.ent := by
  simp only [State.publishRadio, State.setCondition_ent]
@[simp] theorem State.publishRadio_link (s : State) : (s.publishRadio).link = s.link := by
  simp only [State.publishRadio, State.setCondition_link]
@[simp] theorem State.publishRadio_cfg (s : State) : (s.publishRadio).cfg = s.cfg := by
  simp only [State.publishRadio, State.setCondition_cfg]
@[simp] theorem State.publishRadio_configured (s : State) : (s.publishRadio).configured = s.configured := by
  simp only [State.publishRadio, State.setCondition_configured]
@[simp] theorem State.publishRadio_pending (s : State) : (s.publishRadio).pending = s.pending := by
  simp only [State.publishRadio, State.setCondition_pending]

/-! ### State.publishCap -/

@[simp] theorem State.publishCap_clock (s : State) : (s.publishCap).clock = s.clock := rfl
@[simp] theorem State.publishCap_odo (s : State) : (s.publishCap).odo = s.odo := rfl
@[simp] theorem State.publishCap_line (s : State) : (s.publishCap).line = s.line := rfl
@[simp] theorem State.publishCap_radio (s : State) : (s.publishCap).radio = s.radio := rfl
@[simp] theorem State.publishCap_route (s : State) : (s.publishCap).route = s.route := rfl
@[simp] theorem State.publishCap_sup (s : State) : (s.publishCap).sup = s.sup := rfl
@[simp] theorem State.publishCap_brake (s : State) : (s.publishCap).brake = s.brake := rfl
@[simp] theorem State.publishCap_ent (s : State) : (s.publishCap).ent = s.ent := rfl
@[simp] theorem State.publishCap_link (s : State) : (s.publishCap).link = s.link := rfl
@[simp] theorem State.publishCap_cfg (s : State) : (s.publishCap).cfg = s.cfg := rfl
@[simp] theorem State.publishCap_configured (s : State) : (s.publishCap).configured = s.configured := rfl
@[simp] theorem State.publishCap_pending (s : State) : (s.publishCap).pending = s.pending := rfl

/-! ### State.publishLevel -/

@[simp] theorem State.publishLevel_clock (s : State) (b : Bool) : (s.publishLevel b).clock = s.clock := rfl
@[simp] theorem State.publishLevel_odo (s : State) (b : Bool) : (s.publishLevel b).odo = s.odo := rfl
@[simp] theorem State.publishLevel_line (s : State) (b : Bool) : (s.publishLevel b).line = s.line := rfl
@[simp] theorem State.publishLevel_radio (s : State) (b : Bool) : (s.publishLevel b).radio = s.radio := rfl
@[simp] theorem State.publishLevel_route (s : State) (b : Bool) : (s.publishLevel b).route = s.route := rfl
@[simp] theorem State.publishLevel_sup (s : State) (b : Bool) : (s.publishLevel b).sup = s.sup := rfl
@[simp] theorem State.publishLevel_brake (s : State) (b : Bool) : (s.publishLevel b).brake = s.brake := rfl
@[simp] theorem State.publishLevel_ent (s : State) (b : Bool) : (s.publishLevel b).ent = s.ent := rfl
@[simp] theorem State.publishLevel_link (s : State) (b : Bool) : (s.publishLevel b).link = s.link := rfl
@[simp] theorem State.publishLevel_cfg (s : State) (b : Bool) : (s.publishLevel b).cfg = s.cfg := rfl
@[simp] theorem State.publishLevel_configured (s : State) (b : Bool) : (s.publishLevel b).configured = s.configured := rfl
@[simp] theorem State.publishLevel_pending (s : State) (b : Bool) : (s.publishLevel b).pending = s.pending := rfl

/-! ### State.publishEntrances -/

@[simp] theorem State.publishEntrances_clock (s : State) : (s.publishEntrances).clock = s.clock := rfl
@[simp] theorem State.publishEntrances_odo (s : State) : (s.publishEntrances).odo = s.odo := rfl
@[simp] theorem State.publishEntrances_line (s : State) : (s.publishEntrances).line = s.line := rfl
@[simp] theorem State.publishEntrances_radio (s : State) : (s.publishEntrances).radio = s.radio := rfl
@[simp] theorem State.publishEntrances_route (s : State) : (s.publishEntrances).route = s.route := rfl
@[simp] theorem State.publishEntrances_sup (s : State) : (s.publishEntrances).sup = s.sup := rfl
@[simp] theorem State.publishEntrances_brake (s : State) : (s.publishEntrances).brake = s.brake := rfl
@[simp] theorem State.publishEntrances_ent (s : State) : (s.publishEntrances).ent = s.ent := rfl
@[simp] theorem State.publishEntrances_link (s : State) : (s.publishEntrances).link = s.link := rfl
@[simp] theorem State.publishEntrances_cfg (s : State) : (s.publishEntrances).cfg = s.cfg := rfl
@[simp] theorem State.publishEntrances_configured (s : State) : (s.publishEntrances).configured = s.configured := rfl
@[simp] theorem State.publishEntrances_pending (s : State) : (s.publishEntrances).pending = s.pending := rfl

/-! ### State.outputFault -/

@[simp] theorem State.outputFault_clock (s : State) : (s.outputFault).clock = s.clock := rfl
@[simp] theorem State.outputFault_odo (s : State) : (s.outputFault).odo = s.odo := rfl
@[simp] theorem State.outputFault_line (s : State) : (s.outputFault).line = s.line := rfl
@[simp] theorem State.outputFault_radio (s : State) : (s.outputFault).radio = s.radio := rfl
@[simp] theorem State.outputFault_route (s : State) : (s.outputFault).route = s.route := rfl
@[simp] theorem State.outputFault_brake (s : State) : (s.outputFault).brake = s.brake := rfl
@[simp] theorem State.outputFault_ent (s : State) : (s.outputFault).ent = s.ent := rfl
@[simp] theorem State.outputFault_link (s : State) : (s.outputFault).link = s.link := rfl
@[simp] theorem State.outputFault_cfg (s : State) : (s.outputFault).cfg = s.cfg := rfl
@[simp] theorem State.outputFault_configured (s : State) : (s.outputFault).configured = s.configured := rfl
@[simp] theorem State.outputFault_pending (s : State) : (s.outputFault).pending = s.pending := rfl

/-! ### State.degrade -/

@[simp] theorem State.degrade_clock (s : State) : (s.degrade).clock = s.clock := rfl
@[simp] theorem State.degrade_line (s : State) : (s.degrade).line = s.line := rfl
@[simp] theorem State.degrade_radio (s : State) : (s.degrade).radio = s.radio := rfl
@[simp] theorem State.degrade_route (s : State) : (s.degrade).route = s.route := rfl
@[simp] theorem State.degrade_sup (s : State) : (s.degrade).sup = s.sup := rfl
@[simp] theorem State.degrade_brake (s : State) : (s.degrade).brake = s.brake := rfl
@[simp] theorem State.degrade_ent (s : State) : (s.degrade).ent = s.ent := rfl
@[simp] theorem State.degrade_link (s : State) : (s.degrade).link = s.link := rfl
@[simp] theorem State.degrade_cfg (s : State) : (s.degrade).cfg = s.cfg := rfl
@[simp] theorem State.degrade_configured (s : State) : (s.degrade).configured = s.configured := rfl
@[simp] theorem State.degrade_pending (s : State) : (s.degrade).pending = s.pending := rfl

/-! ### State.missMarker -/

@[simp] theorem State.missMarker_clock (s : State) (m : Marker) : (s.missMarker m).clock = s.clock := rfl
@[simp] theorem State.missMarker_line (s : State) (m : Marker) : (s.missMarker m).line = s.line := rfl
@[simp] theorem State.missMarker_radio (s : State) (m : Marker) : (s.missMarker m).radio = s.radio := rfl
@[simp] theorem State.missMarker_route (s : State) (m : Marker) : (s.missMarker m).route = s.route := rfl
@[simp] theorem State.missMarker_sup (s : State) (m : Marker) : (s.missMarker m).sup = s.sup := rfl
@[simp] theorem State.missMarker_brake (s : State) (m : Marker) : (s.missMarker m).brake = s.brake := rfl
@[simp] theorem State.missMarker_ent (s : State) (m : Marker) : (s.missMarker m).ent = s.ent := rfl
@[simp] theorem State.missMarker_link (s : State) (m : Marker) : (s.missMarker m).link = s.link := rfl
@[simp] theorem State.missMarker_cfg (s : State) (m : Marker) : (s.missMarker m).cfg = s.cfg := rfl
@[simp] theorem State.missMarker_configured (s : State) (m : Marker) : (s.missMarker m).configured = s.configured := rfl
@[simp] theorem State.missMarker_pending (s : State) (m : Marker) : (s.missMarker m).pending = s.pending := rfl

/-! ### State.rejectEdge -/

@[simp] theorem State.rejectEdge_clock (s : State) (t : Time) : (s.rejectEdge t).clock = s.clock := rfl
@[simp] theorem State.rejectEdge_line (s : State) (t : Time) : (s.rejectEdge t).line = s.line := rfl
@[simp] theorem State.rejectEdge_radio (s : State) (t : Time) : (s.rejectEdge t).radio = s.radio := rfl
@[simp] theorem State.rejectEdge_route (s : State) (t : Time) : (s.rejectEdge t).route = s.route := rfl
@[simp] theorem State.rejectEdge_sup (s : State) (t : Time) : (s.rejectEdge t).sup = s.sup := rfl
@[simp] theorem State.rejectEdge_brake (s : State) (t : Time) : (s.rejectEdge t).brake = s.brake := rfl
@[simp] theorem State.rejectEdge_ent (s : State) (t : Time) : (s.rejectEdge t).ent = s.ent := rfl
@[simp] theorem State.rejectEdge_link (s : State) (t : Time) : (s.rejectEdge t).link = s.link := rfl
@[simp] theorem State.rejectEdge_cfg (s : State) (t : Time) : (s.rejectEdge t).cfg = s.cfg := rfl
@[simp] theorem State.rejectEdge_configured (s : State) (t : Time) : (s.rejectEdge t).configured = s.configured := rfl
@[simp] theorem State.rejectEdge_pending (s : State) (t : Time) : (s.rejectEdge t).pending = s.pending := rfl

/-! ### State.overflow -/

@[simp] theorem State.overflow_clock (s : State) (limit : Nat) : (s.overflow limit).clock = s.clock := rfl
@[simp] theorem State.overflow_odo (s : State) (limit : Nat) : (s.overflow limit).odo = s.odo := rfl
@[simp] theorem State.overflow_line (s : State) (limit : Nat) : (s.overflow limit).line = s.line := rfl
@[simp] theorem State.overflow_radio (s : State) (limit : Nat) : (s.overflow limit).radio = s.radio := rfl
@[simp] theorem State.overflow_sup (s : State) (limit : Nat) : (s.overflow limit).sup = s.sup := rfl
@[simp] theorem State.overflow_brake (s : State) (limit : Nat) : (s.overflow limit).brake = s.brake := rfl
@[simp] theorem State.overflow_ent (s : State) (limit : Nat) : (s.overflow limit).ent = s.ent := rfl
@[simp] theorem State.overflow_link (s : State) (limit : Nat) : (s.overflow limit).link = s.link := rfl
@[simp] theorem State.overflow_cfg (s : State) (limit : Nat) : (s.overflow limit).cfg = s.cfg := rfl
@[simp] theorem State.overflow_configured (s : State) (limit : Nat) : (s.overflow limit).configured = s.configured := rfl
@[simp] theorem State.overflow_pending (s : State) (limit : Nat) : (s.overflow limit).pending = s.pending := rfl

/-! ### State.placeRestriction -/

@[simp] theorem State.placeRestriction_clock (s : State) (r : Restriction) : (s.placeRestriction r).clock = s.clock := rfl
@[simp] theorem State.placeRestriction_odo (s : State) (r : Restriction) : (s.placeRestriction r).odo = s.odo := rfl
@[simp] theorem State.placeRestriction_line (s : State) (r : Restriction) : (s.placeRestriction r).line = s.line := rfl
@[simp] theorem State.placeRestriction_radio (s : State) (r : Restriction) : (s.placeRestriction r).radio = s.radio := rfl
@[simp] theorem State.placeRestriction_sup (s : State) (r : Restriction) : (s.placeRestriction r).sup = s.sup := rfl
@[simp] theorem State.placeRestriction_brake (s : State) (r : Restriction) : (s.placeRestriction r).brake = s.brake := rfl
@[simp] theorem State.placeRestriction_ent (s : State) (r : Restriction) : (s.placeRestriction r).ent = s.ent := rfl
@[simp] theorem State.placeRestriction_notice (s : State) (r : Restriction) : (s.placeRestriction r).notice = s.notice := rfl
@[simp] theorem State.placeRestriction_link (s : State) (r : Restriction) : (s.placeRestriction r).link = s.link := rfl
@[simp] theorem State.placeRestriction_cfg (s : State) (r : Restriction) : (s.placeRestriction r).cfg = s.cfg := rfl
@[simp] theorem State.placeRestriction_configured (s : State) (r : Restriction) : (s.placeRestriction r).configured = s.configured := rfl
@[simp] theorem State.placeRestriction_pending (s : State) (r : Restriction) : (s.placeRestriction r).pending = s.pending := rfl

/-! ### State.holdStation -/

@[simp] theorem State.holdStation_clock (s : State) (n : Nat) (b : Bool) : (s.holdStation n b).clock = s.clock := rfl
@[simp] theorem State.holdStation_odo (s : State) (n : Nat) (b : Bool) : (s.holdStation n b).odo = s.odo := rfl
@[simp] theorem State.holdStation_line (s : State) (n : Nat) (b : Bool) : (s.holdStation n b).line = s.line := rfl
@[simp] theorem State.holdStation_radio (s : State) (n : Nat) (b : Bool) : (s.holdStation n b).radio = s.radio := rfl
@[simp] theorem State.holdStation_sup (s : State) (n : Nat) (b : Bool) : (s.holdStation n b).sup = s.sup := rfl
@[simp] theorem State.holdStation_brake (s : State) (n : Nat) (b : Bool) : (s.holdStation n b).brake = s.brake := rfl
@[simp] theorem State.holdStation_ent (s : State) (n : Nat) (b : Bool) : (s.holdStation n b).ent = s.ent := rfl
@[simp] theorem State.holdStation_notice (s : State) (n : Nat) (b : Bool) : (s.holdStation n b).notice = s.notice := rfl
@[simp] theorem State.holdStation_link (s : State) (n : Nat) (b : Bool) : (s.holdStation n b).link = s.link := rfl
@[simp] theorem State.holdStation_cfg (s : State) (n : Nat) (b : Bool) : (s.holdStation n b).cfg = s.cfg := rfl
@[simp] theorem State.holdStation_configured (s : State) (n : Nat) (b : Bool) : (s.holdStation n b).configured = s.configured := rfl
@[simp] theorem State.holdStation_pending (s : State) (n : Nat) (b : Bool) : (s.holdStation n b).pending = s.pending := rfl

/-! ### State.acknowledgeId -/

@[simp] theorem State.acknowledgeId_clock (s : State) (id : Nat) (b : Bool) : (s.acknowledgeId id b).clock = s.clock := rfl
@[simp] theorem State.acknowledgeId_odo (s : State) (id : Nat) (b : Bool) : (s.acknowledgeId id b).odo = s.odo := rfl
@[simp] theorem State.acknowledgeId_line (s : State) (id : Nat) (b : Bool) : (s.acknowledgeId id b).line = s.line := rfl
@[simp] theorem State.acknowledgeId_route (s : State) (id : Nat) (b : Bool) : (s.acknowledgeId id b).route = s.route := rfl
@[simp] theorem State.acknowledgeId_sup (s : State) (id : Nat) (b : Bool) : (s.acknowledgeId id b).sup = s.sup := rfl
@[simp] theorem State.acknowledgeId_brake (s : State) (id : Nat) (b : Bool) : (s.acknowledgeId id b).brake = s.brake := rfl
@[simp] theorem State.acknowledgeId_ent (s : State) (id : Nat) (b : Bool) : (s.acknowledgeId id b).ent = s.ent := rfl
@[simp] theorem State.acknowledgeId_notice (s : State) (id : Nat) (b : Bool) : (s.acknowledgeId id b).notice = s.notice := rfl
@[simp] theorem State.acknowledgeId_link (s : State) (id : Nat) (b : Bool) : (s.acknowledgeId id b).link = s.link := rfl
@[simp] theorem State.acknowledgeId_cfg (s : State) (id : Nat) (b : Bool) : (s.acknowledgeId id b).cfg = s.cfg := rfl
@[simp] theorem State.acknowledgeId_configured (s : State) (id : Nat) (b : Bool) : (s.acknowledgeId id b).configured = s.configured := rfl
@[simp] theorem State.acknowledgeId_pending (s : State) (id : Nat) (b : Bool) : (s.acknowledgeId id b).pending = s.pending := rfl

/-! ### State.dropSpan -/

@[simp] theorem State.dropSpan_clock (s : State) : (s.dropSpan).clock = s.clock := rfl
@[simp] theorem State.dropSpan_line (s : State) : (s.dropSpan).line = s.line := rfl
@[simp] theorem State.dropSpan_radio (s : State) : (s.dropSpan).radio = s.radio := rfl
@[simp] theorem State.dropSpan_route (s : State) : (s.dropSpan).route = s.route := rfl
@[simp] theorem State.dropSpan_sup (s : State) : (s.dropSpan).sup = s.sup := rfl
@[simp] theorem State.dropSpan_brake (s : State) : (s.dropSpan).brake = s.brake := rfl
@[simp] theorem State.dropSpan_ent (s : State) : (s.dropSpan).ent = s.ent := rfl
@[simp] theorem State.dropSpan_notice (s : State) : (s.dropSpan).notice = s.notice := rfl
@[simp] theorem State.dropSpan_link (s : State) : (s.dropSpan).link = s.link := rfl
@[simp] theorem State.dropSpan_cfg (s : State) : (s.dropSpan).cfg = s.cfg := rfl
@[simp] theorem State.dropSpan_configured (s : State) : (s.dropSpan).configured = s.configured := rfl
@[simp] theorem State.dropSpan_pending (s : State) : (s.dropSpan).pending = s.pending := rfl

/-! ### State.armEngagement -/

@[simp] theorem State.armEngagement_clock (s : State) (v : SegView) : (s.armEngagement v).clock = s.clock := rfl
@[simp] theorem State.armEngagement_line (s : State) (v : SegView) : (s.armEngagement v).line = s.line := rfl
@[simp] theorem State.armEngagement_radio (s : State) (v : SegView) : (s.armEngagement v).radio = s.radio := rfl
@[simp] theorem State.armEngagement_route (s : State) (v : SegView) : (s.armEngagement v).route = s.route := rfl
@[simp] theorem State.armEngagement_sup (s : State) (v : SegView) : (s.armEngagement v).sup = s.sup := rfl
@[simp] theorem State.armEngagement_brake (s : State) (v : SegView) : (s.armEngagement v).brake = s.brake := rfl
@[simp] theorem State.armEngagement_ent (s : State) (v : SegView) : (s.armEngagement v).ent = s.ent := rfl
@[simp] theorem State.armEngagement_notice (s : State) (v : SegView) : (s.armEngagement v).notice = s.notice := rfl
@[simp] theorem State.armEngagement_link (s : State) (v : SegView) : (s.armEngagement v).link = s.link := rfl
@[simp] theorem State.armEngagement_cfg (s : State) (v : SegView) : (s.armEngagement v).cfg = s.cfg := rfl
@[simp] theorem State.armEngagement_configured (s : State) (v : SegView) : (s.armEngagement v).configured = s.configured := rfl
@[simp] theorem State.armEngagement_pending (s : State) (v : SegView) : (s.armEngagement v).pending = s.pending := rfl

/-! ### State.odometryPass -/

@[simp] theorem State.odometryPass_clock (s : State) : (s.odometryPass).clock = s.clock := rfl
@[simp] theorem State.odometryPass_line (s : State) : (s.odometryPass).line = s.line := rfl
@[simp] theorem State.odometryPass_radio (s : State) : (s.odometryPass).radio = s.radio := rfl
@[simp] theorem State.odometryPass_route (s : State) : (s.odometryPass).route = s.route := rfl
@[simp] theorem State.odometryPass_sup (s : State) : (s.odometryPass).sup = s.sup := rfl
@[simp] theorem State.odometryPass_brake (s : State) : (s.odometryPass).brake = s.brake := rfl
@[simp] theorem State.odometryPass_ent (s : State) : (s.odometryPass).ent = s.ent := rfl
@[simp] theorem State.odometryPass_notice (s : State) : (s.odometryPass).notice = s.notice := rfl
@[simp] theorem State.odometryPass_link (s : State) : (s.odometryPass).link = s.link := rfl
@[simp] theorem State.odometryPass_cfg (s : State) : (s.odometryPass).cfg = s.cfg := rfl
@[simp] theorem State.odometryPass_configured (s : State) : (s.odometryPass).configured = s.configured := rfl
@[simp] theorem State.odometryPass_pending (s : State) : (s.odometryPass).pending = s.pending := rfl

/-! ### State.setDemands -/

@[simp] theorem State.setDemands_clock (s : State) : (s.setDemands).clock = s.clock := rfl
@[simp] theorem State.setDemands_odo (s : State) : (s.setDemands).odo = s.odo := rfl
@[simp] theorem State.setDemands_line (s : State) : (s.setDemands).line = s.line := rfl
@[simp] theorem State.setDemands_radio (s : State) : (s.setDemands).radio = s.radio := rfl
@[simp] theorem State.setDemands_route (s : State) : (s.setDemands).route = s.route := rfl
@[simp] theorem State.setDemands_brake (s : State) : (s.setDemands).brake = s.brake := rfl
@[simp] theorem State.setDemands_ent (s : State) : (s.setDemands).ent = s.ent := rfl
@[simp] theorem State.setDemands_notice (s : State) : (s.setDemands).notice = s.notice := rfl
@[simp] theorem State.setDemands_link (s : State) : (s.setDemands).link = s.link := rfl
@[simp] theorem State.setDemands_cfg (s : State) : (s.setDemands).cfg = s.cfg := rfl
@[simp] theorem State.setDemands_configured (s : State) : (s.setDemands).configured = s.configured := rfl
@[simp] theorem State.setDemands_pending (s : State) : (s.setDemands).pending = s.pending := rfl

/-! ### State.idleChannel -/

@[simp] theorem State.idleChannel_clock (s : State) (c : Channel) : (s.idleChannel c).clock = s.clock := rfl
@[simp] theorem State.idleChannel_odo (s : State) (c : Channel) : (s.idleChannel c).odo = s.odo := rfl
@[simp] theorem State.idleChannel_line (s : State) (c : Channel) : (s.idleChannel c).line = s.line := rfl
@[simp] theorem State.idleChannel_radio (s : State) (c : Channel) : (s.idleChannel c).radio = s.radio := rfl
@[simp] theorem State.idleChannel_route (s : State) (c : Channel) : (s.idleChannel c).route = s.route := rfl
@[simp] theorem State.idleChannel_sup (s : State) (c : Channel) : (s.idleChannel c).sup = s.sup := rfl
@[simp] theorem State.idleChannel_ent (s : State) (c : Channel) : (s.idleChannel c).ent = s.ent := rfl
@[simp] theorem State.idleChannel_notice (s : State) (c : Channel) : (s.idleChannel c).notice = s.notice := rfl
@[simp] theorem State.idleChannel_link (s : State) (c : Channel) : (s.idleChannel c).link = s.link := rfl
@[simp] theorem State.idleChannel_cfg (s : State) (c : Channel) : (s.idleChannel c).cfg = s.cfg := rfl
@[simp] theorem State.idleChannel_configured (s : State) (c : Channel) : (s.idleChannel c).configured = s.configured := rfl
@[simp] theorem State.idleChannel_pending (s : State) (c : Channel) : (s.idleChannel c).pending = s.pending := rfl

/-! ### State.clearMark -/

@[simp] theorem State.clearMark_clock (s : State) (i : Fin 8) : (s.clearMark i).clock = s.clock := rfl
@[simp] theorem State.clearMark_odo (s : State) (i : Fin 8) : (s.clearMark i).odo = s.odo := rfl
@[simp] theorem State.clearMark_line (s : State) (i : Fin 8) : (s.clearMark i).line = s.line := rfl
@[simp] theorem State.clearMark_radio (s : State) (i : Fin 8) : (s.clearMark i).radio = s.radio := rfl
@[simp] theorem State.clearMark_route (s : State) (i : Fin 8) : (s.clearMark i).route = s.route := rfl
@[simp] theorem State.clearMark_sup (s : State) (i : Fin 8) : (s.clearMark i).sup = s.sup := rfl
@[simp] theorem State.clearMark_brake (s : State) (i : Fin 8) : (s.clearMark i).brake = s.brake := rfl
@[simp] theorem State.clearMark_notice (s : State) (i : Fin 8) : (s.clearMark i).notice = s.notice := rfl
@[simp] theorem State.clearMark_link (s : State) (i : Fin 8) : (s.clearMark i).link = s.link := rfl
@[simp] theorem State.clearMark_cfg (s : State) (i : Fin 8) : (s.clearMark i).cfg = s.cfg := rfl
@[simp] theorem State.clearMark_configured (s : State) (i : Fin 8) : (s.clearMark i).configured = s.configured := rfl
@[simp] theorem State.clearMark_pending (s : State) (i : Fin 8) : (s.clearMark i).pending = s.pending := rfl

/-! ### State.buildUplink -/

@[simp] theorem State.buildUplink_clock (s : State) : (s.buildUplink).clock = s.clock := rfl
@[simp] theorem State.buildUplink_odo (s : State) : (s.buildUplink).odo = s.odo := rfl
@[simp] theorem State.buildUplink_line (s : State) : (s.buildUplink).line = s.line := rfl
@[simp] theorem State.buildUplink_route (s : State) : (s.buildUplink).route = s.route := rfl
@[simp] theorem State.buildUplink_sup (s : State) : (s.buildUplink).sup = s.sup := rfl
@[simp] theorem State.buildUplink_brake (s : State) : (s.buildUplink).brake = s.brake := rfl
@[simp] theorem State.buildUplink_ent (s : State) : (s.buildUplink).ent = s.ent := rfl
@[simp] theorem State.buildUplink_notice (s : State) : (s.buildUplink).notice = s.notice := rfl
@[simp] theorem State.buildUplink_link (s : State) : (s.buildUplink).link = s.link := rfl
@[simp] theorem State.buildUplink_cfg (s : State) : (s.buildUplink).cfg = s.cfg := rfl
@[simp] theorem State.buildUplink_configured (s : State) : (s.buildUplink).configured = s.configured := rfl
@[simp] theorem State.buildUplink_pending (s : State) : (s.buildUplink).pending = s.pending := rfl

/-! ### State.enterConfirm -/

@[simp] theorem State.enterConfirm_clock (s : State) (n : Nat) : (s.enterConfirm n).clock = s.clock := by
  simp only [State.enterConfirm, State.publishRadio_clock]
@[simp] theorem State.enterConfirm_odo (s : State) (n : Nat) : (s.enterConfirm n).odo = s.odo := by
  simp only [State.enterConfirm, State.publishRadio_odo]
@[simp] theorem State.enterConfirm_line (s : State) (n : Nat) : (s.enterConfirm n).line = s.line := by
  simp only [State.enterConfirm, State.publishRadio_line]
@[simp] theorem State.enterConfirm_route (s : State) (n : Nat) : (s.enterConfirm n).route = s.route := by
  simp only [State.enterConfirm, State.publishRadio_route]
@[simp] theorem State.enterConfirm_sup (s : State) (n : Nat) : (s.enterConfirm n).sup = s.sup := by
  simp only [State.enterConfirm, State.publishRadio_sup]
@[simp] theorem State.enterConfirm_brake (s : State) (n : Nat) : (s.enterConfirm n).brake = s.brake := by
  simp only [State.enterConfirm, State.publishRadio_brake]
@[simp] theorem State.enterConfirm_ent (s : State) (n : Nat) : (s.enterConfirm n).ent = s.ent := by
  simp only [State.enterConfirm, State.publishRadio_ent]
@[simp] theorem State.enterConfirm_link (s : State) (n : Nat) : (s.enterConfirm n).link = s.link := by
  simp only [State.enterConfirm, State.publishRadio_link]
@[simp] theorem State.enterConfirm_cfg (s : State) (n : Nat) : (s.enterConfirm n).cfg = s.cfg := by
  simp only [State.enterConfirm, State.publishRadio_cfg]
@[simp] theorem State.enterConfirm_configured (s : State) (n : Nat) : (s.enterConfirm n).configured = s.configured := by
  simp only [State.enterConfirm, State.publishRadio_configured]
@[simp] theorem State.enterConfirm_pending (s : State) (n : Nat) : (s.enterConfirm n).pending = s.pending := by
  simp only [State.enterConfirm, State.publishRadio_pending]

/-! ### State.discardFrame -/

@[simp] theorem State.discardFrame_clock (s : State) : (s.discardFrame).clock = s.clock := rfl
@[simp] theorem State.discardFrame_odo (s : State) : (s.discardFrame).odo = s.odo := rfl
@[simp] theorem State.discardFrame_line (s : State) : (s.discardFrame).line = s.line := rfl
@[simp] theorem State.discardFrame_radio (s : State) : (s.discardFrame).radio = s.radio := rfl
@[simp] theorem State.discardFrame_route (s : State) : (s.discardFrame).route = s.route := rfl
@[simp] theorem State.discardFrame_sup (s : State) : (s.discardFrame).sup = s.sup := rfl
@[simp] theorem State.discardFrame_brake (s : State) : (s.discardFrame).brake = s.brake := rfl
@[simp] theorem State.discardFrame_ent (s : State) : (s.discardFrame).ent = s.ent := rfl
@[simp] theorem State.discardFrame_cfg (s : State) : (s.discardFrame).cfg = s.cfg := rfl
@[simp] theorem State.discardFrame_configured (s : State) : (s.discardFrame).configured = s.configured := rfl
@[simp] theorem State.discardFrame_pending (s : State) : (s.discardFrame).pending = s.pending := rfl

/-! ### State.awaitSync -/

@[simp] theorem State.awaitSync_clock (s : State) : (s.awaitSync).clock = s.clock := rfl
@[simp] theorem State.awaitSync_odo (s : State) : (s.awaitSync).odo = s.odo := rfl
@[simp] theorem State.awaitSync_line (s : State) : (s.awaitSync).line = s.line := rfl
@[simp] theorem State.awaitSync_radio (s : State) : (s.awaitSync).radio = s.radio := rfl
@[simp] theorem State.awaitSync_route (s : State) : (s.awaitSync).route = s.route := rfl
@[simp] theorem State.awaitSync_sup (s : State) : (s.awaitSync).sup = s.sup := rfl
@[simp] theorem State.awaitSync_brake (s : State) : (s.awaitSync).brake = s.brake := rfl
@[simp] theorem State.awaitSync_ent (s : State) : (s.awaitSync).ent = s.ent := rfl
@[simp] theorem State.awaitSync_notice (s : State) : (s.awaitSync).notice = s.notice := rfl
@[simp] theorem State.awaitSync_cfg (s : State) : (s.awaitSync).cfg = s.cfg := rfl
@[simp] theorem State.awaitSync_configured (s : State) : (s.awaitSync).configured = s.configured := rfl
@[simp] theorem State.awaitSync_pending (s : State) : (s.awaitSync).pending = s.pending := rfl

/-! ### State.transmissionEnd -/

@[simp] theorem State.transmissionEnd_clock (s : State) : (s.transmissionEnd).clock = s.clock := rfl
@[simp] theorem State.transmissionEnd_odo (s : State) : (s.transmissionEnd).odo = s.odo := rfl
@[simp] theorem State.transmissionEnd_line (s : State) : (s.transmissionEnd).line = s.line := rfl
@[simp] theorem State.transmissionEnd_radio (s : State) : (s.transmissionEnd).radio = s.radio := rfl
@[simp] theorem State.transmissionEnd_route (s : State) : (s.transmissionEnd).route = s.route := rfl
@[simp] theorem State.transmissionEnd_sup (s : State) : (s.transmissionEnd).sup = s.sup := rfl
@[simp] theorem State.transmissionEnd_brake (s : State) : (s.transmissionEnd).brake = s.brake := rfl
@[simp] theorem State.transmissionEnd_ent (s : State) : (s.transmissionEnd).ent = s.ent := rfl
@[simp] theorem State.transmissionEnd_notice (s : State) : (s.transmissionEnd).notice = s.notice := rfl
@[simp] theorem State.transmissionEnd_cfg (s : State) : (s.transmissionEnd).cfg = s.cfg := rfl
@[simp] theorem State.transmissionEnd_configured (s : State) : (s.transmissionEnd).configured = s.configured := rfl
@[simp] theorem State.transmissionEnd_pending (s : State) : (s.transmissionEnd).pending = s.pending := rfl

/-! ### What the changed field becomes -/

@[simp] theorem State.advance_clock (s : State) (t : Time) : (s.advance t).clock = s.clock.advance t := rfl
@[simp] theorem State.advance_now (s : State) (t : Time) : (s.advance t).now = t := rfl
@[simp] theorem Clock.advance_now (c : Clock) (t : Time) : (c.advance t).now = t := rfl
@[simp] theorem State.post_notice (s : State) (body : ReportBody) :
    (s.post body).notice = s.notice.post s.clock.now body := rfl
@[simp] theorem State.raise_notice (s : State) (k : AlertKind) :
    (s.raise k).notice = s.notice.latch s.clock.now k := rfl
@[simp] theorem State.setCondition_notice (s : State) (k : AlertKind) (b : Bool) :
    (s.setCondition k b).notice = s.notice.setActive s.clock.now k b := rfl
@[simp] theorem State.force_notice (s : State) (k : AlertKind) :
    (s.force k).notice = s.notice.force s.clock.now k := rfl
@[simp] theorem State.transmissionEnd_link (s : State) :
    s.transmissionEnd.link = { s.link with tx := none } := rfl
@[simp] theorem State.awaitSync_link (s : State) :
    s.awaitSync.link = { s.link with reception := .awaitSync } := rfl
@[simp] theorem State.discardFrame_link (s : State) :
    s.discardFrame.link = { s.link with reception := .awaitSync } := rfl
@[simp] theorem State.dropSpan_odo (s : State) : s.dropSpan.odo = { s.odo with span := Span.zero } := rfl
@[simp] theorem State.idleChannel_brake (s : State) (c : Channel) :
    (s.idleChannel c).brake = s.brake.setChannel c ((s.brake.channel c).idleAt s.brake.slotNumber) := rfl

/-! ### Channels, leaves and sides -/

@[simp] theorem Brake.channel_setChannel_self (b : Brake) (c : Channel) (x : BrakeChannel) :
    (b.setChannel c x).channel c = x := by cases c <;> rfl

theorem Brake.channel_setChannel_other (b : Brake) (c d : Channel) (x : BrakeChannel) (h : d ≠ c) :
    (b.setChannel c x).channel d = b.channel d := by cases c <;> cases d <;> first | rfl | exact absurd rfl h

@[simp] theorem Brake.setChannel_slotNumber (b : Brake) (c : Channel) (x : BrakeChannel) :
    (b.setChannel c x).slotNumber = b.slotNumber := by cases c <;> rfl

@[simp] theorem Brake.setChannel_started (b : Brake) (c : Channel) (x : BrakeChannel) :
    (b.setChannel c x).started = b.started := by cases c <;> rfl

@[simp] theorem Entrances.setRelease_leaves (e : Entrances) (d : Side) (r : Release) :
    (e.setRelease d r).leaves = e.leaves := by cases d <;> rfl

@[simp] theorem Entrances.setTakeover_closedTol (e : Entrances) (d : Side) (r : Takeover) :
    (e.setTakeover d r).closedTol = e.closedTol := by cases d <;> rfl

@[simp] theorem Entrances.setTakeover_leaves (e : Entrances) (d : Side) (r : Takeover) :
    (e.setTakeover d r).leaves = e.leaves := by cases d <;> rfl

@[simp] theorem Entrances.takeover_setTakeover_self (e : Entrances) (d : Side) (r : Takeover) :
    (e.setTakeover d r).takeover d = r := by cases d <;> rfl

@[simp] theorem Entrances.release_setRelease_self (e : Entrances) (d : Side) (r : Release) :
    (e.setRelease d r).release d = r := by cases d <;> rfl

end Sys2Proof.Machine

namespace Sys2Proof

@[simp] theorem Eight.get_set_self {α : Type} (x : Eight α) (i : Fin 8) (a : α) : (x.set i a).get i = a := by
  fin_cases i <;> rfl

theorem Eight.get_set_other {α : Type} (x : Eight α) (i j : Fin 8) (a : α) (h : j ≠ i) :
    (x.set i a).get j = x.get j := by
  fin_cases i <;> fin_cases j <;> first | rfl | exact absurd rfl h

/-- What holds of every one of the eight holds of the list, and the other way round. -/
theorem Eight.mem_toList {α : Type} (x : Eight α) (a : α) : a ∈ x.toList ↔ ∃ i, x.get i = a := by
  constructor
  · intro h
    simp only [Eight.toList, List.mem_cons, List.not_mem_nil, or_false] at h
    rcases h with h | h | h | h | h | h | h | h
    exacts [⟨0, h.symm⟩, ⟨1, h.symm⟩, ⟨2, h.symm⟩, ⟨3, h.symm⟩, ⟨4, h.symm⟩, ⟨5, h.symm⟩, ⟨6, h.symm⟩, ⟨7, h.symm⟩]
  · rintro ⟨i, rfl⟩
    fin_cases i <;> simp [Eight.toList, Eight.get]

end Sys2Proof
end

