-- ==== Sys2Proof/Laws/Blocks.lean ====
section
/-! SUPPORT. One law for each shared operation inside a block: the integer square root, rings and logs, the position
record, the slots of a brake channel, bank places, the restriction list, and a leaf entering a state. -/

namespace Sys2Proof.Machine

/-! ## Arithmetic (R10, R85, R96) -/

theorem isqrtBits_spec (b : Nat) : ∀ n r : Nat, r * r ≤ n → n < (r + 2 ^ b) * (r + 2 ^ b) →
    isqrtBits b n r * isqrtBits b n r ≤ n ∧ n < (isqrtBits b n r + 1) * (isqrtBits b n r + 1) := by
  induction b with
  | zero => intro n r h h'; exact ⟨h, h'⟩
  | succ b ih =>
    intro n r h h'
    unfold isqrtBits
    split
    · rename_i hle
      refine ih n _ hle ?_
      rw [show r + 2 ^ b + 2 ^ b = r + 2 ^ (b + 1) by rw [pow_succ]; ring]
      exact h'
    · rename_i hle
      exact ih n r h (by omega)

/-- The integer square root rounds down, for every value the part takes a root of. -/
theorem isqrt_spec {n : Nat} (h : n < 2 ^ 28) : isqrt n * isqrt n ≤ n ∧ n < (isqrt n + 1) * (isqrt n + 1) :=
  isqrtBits_spec 14 n 0 (by omega) (by simpa using h)

/-- A root rounded down is the greatest number whose square is not above. -/
theorem le_isqrt {n k : Nat} (h : n < 2 ^ 28) (hk : k * k ≤ n) : k ≤ isqrt n := by
  have := (isqrt_spec h).2
  by_contra hc
  have : (isqrt n + 1) * (isqrt n + 1) ≤ k * k := Nat.mul_le_mul (by omega) (by omega)
  omega

theorem isqrt_mono {m n : Nat} (h : m ≤ n) (hn : n < 2 ^ 28) : isqrt m ≤ isqrt n :=
  le_isqrt hn (le_trans (isqrt_spec (lt_of_le_of_lt h hn)).1 h)

theorem isqrt_lt {n k : Nat} (h : n < 2 ^ 28) (hk : n < k * k) : isqrt n < k := by
  by_contra hc
  have := (isqrt_spec h).1
  have : k * k ≤ isqrt n * isqrt n := Nat.mul_le_mul (by omega) (by omega)
  omega

theorem speedRoot_le (q : Nat) : speedRoot q ≤ 15000 := by
  unfold speedRoot
  split
  · decide
  · exact Nat.le_of_lt (isqrt_lt (by omega) (by omega))

theorem speedRoot_mono {p q : Nat} (h : p ≤ q) : speedRoot p ≤ speedRoot q := by
  have h15 : Config.maxSpeed = 15000 := rfl
  unfold speedRoot
  split <;> split
  · exact le_refl _
  · omega
  · rename_i hp _; have := speedRoot_le p; rwa [speedRoot, if_neg hp, ← h15] at this
  · exact isqrt_mono h (by omega)

/-- A division rounded up. -/
theorem ceilDiv_spec (a : Nat) {b : Nat} (hb : 0 < b) : a ≤ ceilDiv a b * b ∧ ceilDiv a b * b < a + b := by
  unfold ceilDiv
  have h1 := Nat.div_add_mod (a + (b - 1)) b
  have h2 := Nat.mod_lt (a + (b - 1)) hb
  rw [Nat.mul_comm] at h1
  omega

/-! ## Missed markers (R14) -/

/-- A test joins those that wait once, at the end; nothing else of the capture changes. -/
theorem Capture.await_spec (d : Dir) (m : Option Marker) (c : Capture) :
    c.await d m = { c with waiting := (c.await d m).waiting } ∧
    (∀ w, w ∈ (c.await d m).waiting ↔ w ∈ c.waiting ∨ ∃ x, m = some x ∧ w = ⟨d, x⟩) := by
  cases m with
  | none => simp [Capture.await]
  | some x =>
    by_cases h : (⟨d, x⟩ : WaitingTest) ∈ c.waiting
    · simp only [Capture.await, List.contains_iff_mem, h, if_true, true_and]
      intro w
      constructor
      · exact Or.inl
      · rintro (hw | ⟨y, hy, rfl⟩)
        · exact hw
        · cases hy; exact h
    · simp only [Capture.await, List.contains_iff_mem, h, if_false, true_and]
      simp

/-- A missed test changes the record only when the reader point has left the marker behind; then the marker is the last
passed one, the missed count rises, and two missed markers degrade a localised record. -/
theorem State.missedTest_odo (d : Dir) (m : Marker) (s : State) :
    (s.missedTest d (some m)).odo =
      if markerBeyond d s.readerPoint s.odo.uncertainty m = true then
        { s.odo with missed := min (s.odo.missed + 1) 255, lastPassed := some m.id }.degradeMissed
      else s.odo := by
  simp only [State.missedTest]
  split <;> rfl

@[simp] theorem State.missedTest_none (d : Dir) (s : State) : s.missedTest d none = s := rfl

/-- With no test waiting a resolution makes none. -/
@[simp] theorem State.waitingTests_nil {c : Capture} (h : c.waiting = []) (s : State) : s.waitingTests c = s := by
  simp [State.waitingTests, h]

/-! ## Rings and logs (R3, R17, R58) -/

theorem ringPush_length {ring : List RingEntry} (e : RingEntry) (h : ring.length ≤ 64) :
    (ringPush ring e).length ≤ 64 := by
  have : Config.ringSize = 64 := rfl
  unfold ringPush
  split <;> simp <;> omega

/-- A ring of at most 64 entries keeps the newest 63 and takes the new one. -/
theorem ringPush_eq {ring : List RingEntry} (e : RingEntry) (h : ring.length ≤ 64) :
    ringPush ring e = ring.drop (ring.length - 63) ++ [e] := by
  have : Config.ringSize = 64 := rfl
  unfold ringPush
  split
  · rw [show ring.length - 63 = 0 by omega]; rfl
  · rw [show ring.length - 63 = 1 by omega, List.drop_one]

/-- A log of at most 8 entries keeps the newest 7 and takes the new one. -/
theorem logPush_eq {log : List LogEntry} (e : LogEntry) (h : log.length ≤ 8) :
    logPush log e = log.drop (log.length - 7) ++ [e] := by
  have : Config.logSize = 8 := rfl
  unfold logPush
  split
  · rw [show log.length - 7 = 0 by omega]; rfl
  · rw [show log.length - 7 = 1 by omega, List.drop_one]

@[simp] theorem ringMark_length (t : Time) (ring : List RingEntry) : (ringMark t ring).length = ring.length := by
  simp [ringMark]

/-! ## The position record (R6, R8, R10) -/

theorem Odometry.placeAt_inside {e : Nat} {um : Int} (o : Odometry) (h0 : 0 ≤ um) (h1 : um ≤ (e : Int) * 1000) :
    o.placeAt e um = { o with position := um.toNat / 1000, remainder := um.toNat % 1000 } := by
  unfold Odometry.placeAt
  rw [if_neg (by omega), if_neg (by omega)]

theorem Odometry.placeAt_below {e : Nat} {um : Int} (o : Odometry) (h : um < 0) : o.placeAt e um = o.clampTo 0 := by
  simp [Odometry.placeAt, h]

theorem Odometry.placeAt_above {e : Nat} {um : Int} (o : Odometry) (h : (e : Int) * 1000 < um) :
    o.placeAt e um = o.clampTo e := by
  unfold Odometry.placeAt
  rw [if_neg (by omega), if_pos h]

/-- A clamp of a record that was localised or degraded loses it; an UNLOCALISED one only moves. -/
theorem Odometry.clampTo_cases (n : Nat) (o : Odometry) :
    (o.localisation = .unlocalised ∧ o.clampTo n = { o with position := n, remainder := 0 }) ∨
    (o.localisation ≠ .unlocalised ∧
      o.clampTo n =
        { o with position := n, remainder := 0, localisation := .unlocalised, uncertainty := 65535, lossFlag := true }) := by
  unfold Odometry.clampTo
  cases h : o.localisation <;> simp [Config.maxUncertainty]

/-- Movement since standstill stops at its limits. -/
theorem movementAdd_bounds (m um : Int) : -65535000 ≤ movementAdd m um ∧ movementAdd m um ≤ 65535000 := by
  unfold movementAdd; omega

/-- The degrade test changes the localisation only, and only from LOCALISED to DEGRADED. -/
theorem Odometry.degrade_cases (uMax : Nat) (o : Odometry) :
    o.degrade uMax = o ∨
    (o.localisation = .localised ∧ o.degrade uMax = { o with localisation := .degraded }) := by
  unfold Odometry.degrade
  split
  · exact Or.inr ⟨by simp_all, rfl⟩
  · exact Or.inl rfl

/-- The growth of u by `g` touches u and the credit only. -/
theorem Odometry.growUncertainty_frame (g : Nat) (o : Odometry) :
    o.growUncertainty g =
      { o with uncertainty := (o.growUncertainty g).uncertainty, credit := (o.growUncertainty g).credit } := by
  unfold Odometry.growUncertainty
  split <;> rfl

/-! ## Brake channels (R129, R132) -/

@[simp] theorem placeFrom_length (d : Demand) (first k : Nat) : ∀ (i : Nat) (l : List Slot),
    (placeFrom d first k i l).length = l.length := by
  intro i l
  induction l generalizing i with
  | nil => rfl
  | cons x xs ih => simp [placeFrom, ih]

/-- One slot of a placed write. -/
theorem placeFrom_get (d : Demand) (first k : Nat) : ∀ (i : Nat) (l : List Slot) (j : Nat),
    (placeFrom d first k i l)[j]? =
      l[j]?.map fun x => if (i + j + 64 - first) % 64 < k then ⟨patternAt d (i + j), true, true⟩ else x := by
  intro i l
  induction l generalizing i with
  | nil => intro j; simp [placeFrom]
  | cons x xs ih =>
    intro j
    cases j with
    | zero => simp [placeFrom]
    | succ j => simp [placeFrom, ih, Nat.add_comm, Nat.add_left_comm]

/-- A write is placed, or is a copy fault that changes no slot and makes the channel ABSOLUTE (R132 to R134). -/
theorem BrakeChannel.write_cases (d : Demand) (n : BitVec 32) (x : BrakeChannel) :
    (x.addressing = .absolute ∧ x.copyFault n = false ∧ x.write d n = (x.record d n).place d (n + 4#32) 32) ∨
    (∃ next, x.addressing = .relative next ∧ 1 ≤ slotDistance next n ∧ slotDistance next n ≤ 48 ∧
      x.copyFault n = false ∧
      x.write d n = (x.record d n).place d next (placedSlots (slotDistance next n).toNat)) ∨
    (∃ next, x.addressing = .relative next ∧ ¬(1 ≤ slotDistance next n ∧ slotDistance next n ≤ 48) ∧
      x.copyFault n = true ∧
      x.write d n = { x.record d n with lastFault := .copy, addressing := .absolute }) := by
  have h48 : (Config.writeWindow : Int) = 48 := rfl
  unfold BrakeChannel.write BrakeChannel.copyFault
  cases h : x.addressing with
  | absolute => exact Or.inl ⟨rfl, rfl, rfl⟩
  | relative next =>
    by_cases hw : 1 ≤ slotDistance next n ∧ slotDistance next n ≤ 48
    · refine Or.inr (Or.inl ⟨next, rfl, hw.1, hw.2, ?_, ?_⟩) <;> simp [inWindow, h48, hw]
    · refine Or.inr (Or.inr ⟨next, rfl, hw, ?_, ?_⟩)
      · simp only [inWindow, h48, Bool.not_eq_true', Bool.and_eq_false_iff, decide_eq_false_iff_not]
        by_contra hc
        push Not at hc
        exact hw hc
      · dsimp only
        rw [if_neg]
        simpa only [inWindow, h48, Bool.and_eq_true, decide_eq_true_eq] using hw

/-! ## Banks (R24 to R30) -/

@[simp] theorem LineStore.standbyBank_setStandby (l : LineStore) (b : Bank) (h : (l.setStandby b).standby = l.standby) :
    (l.setStandby b).standbyBank = b := by
  unfold LineStore.standbyBank
  rw [h]
  unfold LineStore.setStandby LineStore.setBank LineStore.bank
  cases l.standby <;> rfl

@[simp] theorem LineStore.setBank_active (l : LineStore) (n : BankName) (b : Bank) :
    (l.setBank n b).active = l.active := by
  cases n <;> rfl

theorem LineStore.bank_setBank_self (l : LineStore) (n : BankName) (b : Bank) : (l.setBank n b).bank n = b := by
  cases n <;> rfl

theorem LineStore.bank_setBank_other (l : LineStore) {m n : BankName} (b : Bank) (h : m ≠ n) :
    (l.setBank n b).bank m = l.bank m := by
  cases m <;> cases n <;> first | exact absurd rfl h | rfl

/-! ## The restriction list (R70, R71, R74) -/

theorem mem_insertRestriction (r x : Restriction) (l : List Restriction) :
    x ∈ insertRestriction r l ↔ x = r ∨ x ∈ l := by
  induction l with
  | nil => simp [insertRestriction]
  | cons y ys ih =>
    unfold insertRestriction
    split
    · simp
    · simp [ih]; tauto

@[simp] theorem insertRestriction_length (r : Restriction) (l : List Restriction) :
    (insertRestriction r l).length = l.length + 1 := by
  induction l with
  | nil => rfl
  | cons y ys ih => unfold insertRestriction; split <;> simp [ih]

theorem mem_withoutId (id : Nat) (x : Restriction) (l : List Restriction) :
    x ∈ withoutId id l ↔ x ∈ l ∧ x.id ≠ id := by
  simp [withoutId]

theorem mem_insertStation (n x : Nat) (l : List Nat) : x ∈ insertStation n l ↔ x = n ∨ x ∈ l := by
  induction l with
  | nil => simp [insertStation]
  | cons y ys ih =>
    unfold insertStation
    split
    · simp
    · split
      · simp_all
      · simp [ih]; tauto

/-! ## Leaves (R145, R148, R154) -/

/-- A leaf that enters a state has the outputs and the cleared fields of that state. -/
theorem LeafRecord.enter_spec (now : Time) (st : LeafState) (ph : Option Phase) (r : LeafRecord) :
    (r.enter now st ph).state = st ∧ (r.enter now st ph).phase = ph ∧ (r.enter now st ph).stateTime = now ∧
    ((r.enter now st ph).motor, (r.enter now st ph).lock) = leafOutputs st ph ∧ (r.enter now st ph).cause = none ∧
    (r.enter now st ph).failed = r.failed ∧ (r.enter now st ph).attempts = r.attempts ∧
    (r.enter now st ph).position = r.position ∧ (r.enter now st ph).pending = r.pending :=
  ⟨rfl, rfl, rfl, rfl, rfl, rfl, rfl, rfl, rfl⟩

/-- Entering a state keeps a leaf record in order: no fault cause unless FAULT sets one, a phase where one belongs. -/
theorem LeafRecord.inv_enter {now : Time} {st : LeafState} {ph : Option Phase} {r : LeafRecord} (i : r.inv)
    (hs : st ≠ .fault) (hp : ph.isSome = true ↔ st = .closing ∨ st = .reopening) : (r.enter now st ph).inv := by
  obtain ⟨-, -, -, hf, ha⟩ := i
  exact ⟨Or.inl rfl, by simp [LeafRecord.enter, hs], by simpa [LeafRecord.enter] using hp, hf, ha⟩

theorem LeafRecord.inv_enterFault {now : Time} {c : LeafCause} {r : LeafRecord} (i : r.inv) :
    (r.enterFault now c).inv := by
  obtain ⟨-, -, -, hf, -⟩ := i
  exact ⟨Or.inl rfl, by simp [LeafRecord.enterFault, LeafRecord.enter],
    by simp [LeafRecord.enterFault, LeafRecord.enter], hf, by simp [LeafRecord.enterFault]⟩

/-- A leaf put back changes that leaf and the notices only. -/
theorem State.putLeaf_ent (i : Fin 8) (r : LeafRecord) (s : State) :
    (s.putLeaf i r).ent = { s.ent with leaves := s.ent.leaves.set i r } := by
  unfold State.putLeaf
  split
  · rfl
  · simp [State.post]

/-! ## The Supervisor (R109, R110) -/

/-- A level set changes the level and the notices only. -/
theorem State.setLevel_sup (new : Level) (v p : Nat) (s : State) :
    (s.setLevel new v p).sup = { s.sup with level := new } := by
  unfold State.setLevel
  dsimp only
  split
  · rename_i h; rw [← h]
  · simp [State.post]

end Sys2Proof.Machine
end

