-- ==== Sys2Proof/Laws/Link.lean ====
section
/-! SUPPORT. What the hand-over of the transmitter, the settling of the link and the offering of a request do: the laws
that a claim about any command cites. -/

namespace Sys2Proof.Machine

/-! ### The bytes on the line (R182, R188) -/

/-- The bytes after the result code (R188): the readout of DONE, the field number of BAD_FIELD in one byte, else none. -/
theorem Result.rest_eq (r : Result) :
    r.rest = match r with
      | .done d => d.wire
      | .badField n => [BitVec.ofNat 8 n]
      | _ => [] := by
  cases r <;> simp [Result.rest, le]

theorem le_bytes_length (n v : Nat) : (le n v).length = n := by
  induction n generalizing v <;> simp [le, *]

/-- A frame on the line is its payload with four bytes before it and two after it (R182). -/
theorem TxFrame.wire_length (x : TxFrame) : x.wire.length = x.frame.payload.length + 6 := by
  simp [TxFrame.wire, frameBytes, le_bytes_length]

/-- A report fits the payload of a control frame. -/
theorem Report.payload_length_le (r : Report) : r.payload.length ≤ Config.maxPayload := by
  simp only [Report.payload, List.length_append, le_bytes_length, List.length_take, Config.maxPayload]
  omega

/-- The line is quiet exactly while the transmitter is idle. -/
theorem State.lineBytes_eq_nil {s : State} : s.lineBytes = [] ↔ s.link.tx = none := by
  unfold State.lineBytes
  split
  · simp [*]
  · rename_i x hx
    have := x.wire_length
    simp only [hx, reduceCtorEq, iff_false]
    intro h
    simp [h] at this

/-! ### The transmitter (R179) -/

theorem State.grantTransmitter_busy {s : State} {f : TxFrame} (h : s.link.tx = some f) : s.grantTransmitter = s := by
  simp [State.grantTransmitter, h]

theorem State.grantTransmitter_reply {s : State} {r : Reply} (h : s.link.tx = none) (w : s.link.waiting = some r) :
    s.grantTransmitter = { s with link := { s.link with tx := some (.reply r), waiting := none } } := by
  simp [State.grantTransmitter, h, w]

theorem State.grantTransmitter_report {s : State} {r : Report} {rest : List Report} (h : s.link.tx = none)
    (w : s.link.waiting = none) (q : s.notice.queue = r :: rest) :
    s.grantTransmitter =
      { s with link := { s.link with tx := some (.report r) }, notice := { s.notice with queue := rest } } := by
  simp [State.grantTransmitter, h, w, q]

theorem State.grantTransmitter_idle {s : State} (w : s.link.waiting = none) (q : s.notice.queue = []) :
    s.grantTransmitter = s := by
  cases h : s.link.tx <;> simp [State.grantTransmitter, h, w, q]

/-- The hand-over of the transmitter is one of these four (R179). -/
theorem State.grantTransmitter_cases (s : State) :
    s.grantTransmitter = s ∨
    (∃ r, s.link.tx = none ∧ s.link.waiting = some r ∧
      s.grantTransmitter = { s with link := { s.link with tx := some (.reply r), waiting := none } }) ∨
    (∃ r rest, s.link.tx = none ∧ s.link.waiting = none ∧ s.notice.queue = r :: rest ∧
      s.grantTransmitter =
        { s with link := { s.link with tx := some (.report r) }, notice := { s.notice with queue := rest } }) := by
  cases h : s.link.tx with
  | some f => exact .inl (State.grantTransmitter_busy h)
  | none =>
    cases w : s.link.waiting with
    | some r => exact .inr (.inl ⟨r, rfl, rfl, State.grantTransmitter_reply h w⟩)
    | none =>
      cases q : s.notice.queue with
      | nil => exact .inl (State.grantTransmitter_idle w q)
      | cons r rest => exact .inr (.inr ⟨r, rest, rfl, rfl, rfl, State.grantTransmitter_report h w q⟩)

/-- The hand-over touches the link and the report queue only. -/
theorem State.grantTransmitter_frame (s : State) :
    s.grantTransmitter = { s with link := s.grantTransmitter.link, notice := s.grantTransmitter.notice } := by
  rcases s.grantTransmitter_cases with h | ⟨r, _, _, h⟩ | ⟨r, rest, _, _, _, h⟩ <;> rw [h]

@[simp] theorem State.grantTransmitter_clock (s : State) : s.grantTransmitter.clock = s.clock := by
  rw [State.grantTransmitter_frame]
@[simp] theorem State.grantTransmitter_odo (s : State) : s.grantTransmitter.odo = s.odo := by
  rw [State.grantTransmitter_frame]
@[simp] theorem State.grantTransmitter_line (s : State) : s.grantTransmitter.line = s.line := by
  rw [State.grantTransmitter_frame]
@[simp] theorem State.grantTransmitter_radio (s : State) : s.grantTransmitter.radio = s.radio := by
  rw [State.grantTransmitter_frame]
@[simp] theorem State.grantTransmitter_route (s : State) : s.grantTransmitter.route = s.route := by
  rw [State.grantTransmitter_frame]
@[simp] theorem State.grantTransmitter_sup (s : State) : s.grantTransmitter.sup = s.sup := by
  rw [State.grantTransmitter_frame]
@[simp] theorem State.grantTransmitter_brake (s : State) : s.grantTransmitter.brake = s.brake := by
  rw [State.grantTransmitter_frame]
@[simp] theorem State.grantTransmitter_ent (s : State) : s.grantTransmitter.ent = s.ent := by
  rw [State.grantTransmitter_frame]
@[simp] theorem State.grantTransmitter_cfg (s : State) : s.grantTransmitter.cfg = s.cfg := by
  rw [State.grantTransmitter_frame]
@[simp] theorem State.grantTransmitter_configured (s : State) : s.grantTransmitter.configured = s.configured := by
  rw [State.grantTransmitter_frame]
@[simp] theorem State.grantTransmitter_pending (s : State) : s.grantTransmitter.pending = s.pending := by
  rw [State.grantTransmitter_frame]
@[simp] theorem State.grantTransmitter_buffer (s : State) : s.grantTransmitter.link.buffer = s.link.buffer := by
  rcases s.grantTransmitter_cases with h | ⟨r, _, _, h⟩ | ⟨r, rest, _, _, _, h⟩ <;> rw [h]
@[simp] theorem State.grantTransmitter_alerts (s : State) : s.grantTransmitter.notice.alerts = s.notice.alerts := by
  rcases s.grantTransmitter_cases with h | ⟨r, _, _, h⟩ | ⟨r, rest, _, _, _, h⟩ <;> rw [h]

/-! ### Settling (R186) -/

theorem State.settle_held {s : State} (h : s.linkHeld) (n : Nat) : s.settle n = s := by
  obtain ⟨hw, ht⟩ := h
  obtain ⟨r, hr⟩ := Option.isSome_iff_exists.mp hw
  obtain ⟨f, hf⟩ := Option.isSome_iff_exists.mp ht
  cases n with
  | zero => exact State.grantTransmitter_busy hf
  | succ n => simp [State.settle, State.grantTransmitter_busy hf, hr]

theorem State.settle_empty {s : State} (h : s.link.buffer = []) (n : Nat) : s.settle n = s.grantTransmitter := by
  cases n with
  | zero => rfl
  | succ n =>
    simp only [State.settle, State.grantTransmitter_buffer, h]
    cases s.grantTransmitter.link.waiting <;> rfl

/-- With an empty receive buffer a command ends with the hand-over of the transmitter. -/
theorem State.finish_empty {s : State} (h : s.link.buffer = []) : s.finish = s.grantTransmitter :=
  State.settle_empty h _

theorem State.finish_held {s : State} (h : s.linkHeld) : s.finish = s := State.settle_held h _

/-- A command with an empty receive buffer that its effect leaves empty. -/
theorem State.run_empty {t : Time} {f : State → State} {s : State} (h : (f (s.advance t)).link.buffer = []) :
    s.run t f = (f (s.advance t)).grantTransmitter :=
  State.finish_empty h

/-! ### Requests (R185, R186) -/

/-- A request at a ready link is dispatched at once and answered. -/
theorem State.request_ready {s : State} (h : s.linkReady) (t : Time) (kind tag : Byte) (p : List Byte) :
    s.request t kind tag p = (State.answer ⟨kind, tag, p⟩ (s.advance t)).grantTransmitter := by
  obtain ⟨clock, odo, line, radio, route, sup, brake, ent, notice, ⟨rate, reception, buffer, waiting, tx⟩, cfg, configured,
    pending⟩ := s
  obtain ⟨hb, hw, hq⟩ := h
  simp only at hb hw hq
  subst hb hw
  cases tx with
  | some f => rfl
  | none =>
    obtain ⟨alerts, queue, nextNumber, drops⟩ := notice
    simp only [forall_const] at hq
    subst hq
    rfl

/-- A request whose answer is known: its effect, then its reply given. -/
theorem State.request_replied {s u : State} {r : Result} (h : s.linkReady) (t : Time) (kind tag : Byte)
    (p : List Byte) (j : (s.advance t).judge ⟨kind, tag, p⟩ = (r, u)) :
    s.request t kind tag p = u.replied kind tag r := by
  rw [State.request_ready h]
  simp only [State.answer, j]
  rfl

/-- A request while a reply waits behind a transmission joins a buffer that has a place, and changes nothing else. -/
theorem State.request_held {s : State} (h : s.linkHeld) (b : s.link.buffer.length < 4) (t : Time) (kind tag : Byte)
    (p : List Byte) :
    s.request t kind tag p =
      { s.advance t with link := { s.link with buffer := s.link.buffer ++ [⟨kind, tag, p⟩] } } := by
  have off : State.offer ⟨kind, tag, p⟩ (s.advance t) =
      { s.advance t with link := { s.link with buffer := s.link.buffer ++ [⟨kind, tag, p⟩] } } := by
    simp [State.offer, b, Config.receiveBuffer]
  simp only [State.request, State.run, off]
  exact State.finish_held h

/-- A request that finds the receive buffer full is discarded with LINK_FRAME_BAD. -/
theorem State.request_full {s : State} (h : s.linkHeld) (b : 4 ≤ s.link.buffer.length) (t : Time) (kind tag : Byte)
    (p : List Byte) : s.request t kind tag p = (s.advance t).raise .linkFrameBad := by
  have off : State.offer ⟨kind, tag, p⟩ (s.advance t) = (s.advance t).raise .linkFrameBad := by
    simp [State.offer, Config.receiveBuffer, Nat.not_lt.mpr b]
  simp only [State.request, State.run, off]
  exact State.finish_held h

end Sys2Proof.Machine
end

