-- ==== Sys2Proof/Laws/Request.lean ====
section
/-! SUPPORT. What a request command does at a ready link, by the owner's rule of its request, and the byte coding of its
fields: the laws that a claim about a request cites. -/

namespace Sys2Proof.Machine

/-! ### Byte codings (R182) -/

@[simp] theorem le_length (n x : Nat) : (le n x).length = n := by
  induction n generalizing x with
  | zero => rfl
  | succ n ih => simp [le, ih]

@[simp] theorem be_length (n x : Nat) : (be n x).length = n := by simp [be]

/-- The bytes of a number give the number back, as far as they reach. -/
theorem ofLe_le (n x : Nat) : ofLe (le n x) = x % 256 ^ n := by
  induction n generalizing x with
  | zero => simp [le, ofLe, Nat.mod_one]
  | succ n ih =>
    simp only [le, ofLe, ih, BitVec.toNat_ofNat]
    conv_rhs => rw [pow_succ', Nat.mod_mul]

theorem ofBe_be (n x : Nat) : ofBe (be n x) = x % 256 ^ n := by
  simp [ofBe, be, ofLe_le]

/-- A field that stands behind a run of bytes is read at the run's length. -/
theorem leAt_append (a b : List Byte) (n x : Nat) (rest : List Byte) (h : b = le n x ++ rest) :
    leAt (a ++ b) a.length n = x % 256 ^ n := by
  subst h
  simp [leAt, slice, ofLe_le]

/-- One byte of a payload. -/
theorem leAt_one (p : List Byte) (i : Nat) (b : Byte) (h : p[i]? = some b) : leAt p i 1 = b.toNat := by
  obtain ⟨hi, rfl⟩ := List.getElem?_eq_some_iff.mp h
  simp [leAt, slice, List.take_one_drop_eq_of_lt_length hi, ofLe]

/-! ### The catalogue (10 §10.4) -/

/-- Every request is found by its KIND. -/
theorem requestOf_kind (r : Request) : requestOf r.kind = some r := by cases r <;> rfl

theorem State.judge_perform {s : State} {r : Request} {tag : Byte} {p : List Byte}
    (l : r.lengthOk p.length = true) : s.judge ⟨r.kind, tag, p⟩ = s.perform r p := by
  simp [State.judge, requestOf_kind, l]

/-- A request at a ready link, its payload of the right length: the owner's rule, then the reply. -/
theorem State.request_perform {s u : State} {r : Request} {res : Result} {p : List Byte} (h : s.linkReady)
    (l : r.lengthOk p.length = true) (t : Time) (tag : Byte) (j : (s.advance t).perform r p = (res, u)) :
    s.request t r.kind tag p = u.replied r.kind tag res :=
  State.request_replied h t r.kind tag p (by rw [State.judge_perform l]; exact j)

/-- A request that the owner answers without an effect. -/
theorem State.request_unchanged {s : State} {r : Request} {res : Result} {p : List Byte} (h : s.linkReady)
    (l : r.lengthOk p.length = true) (t : Time) (tag : Byte)
    (j : (s.advance t).perform r p = (res, s.advance t)) :
    s.request t r.kind tag p = (s.advance t).replied r.kind tag res :=
  State.request_perform h l t tag j

/-! ### The frames of the request commands -/

/-- A request command offers its frame at its time, and nothing else. -/
theorem exec_request {c : Instr} {t : Time} {f : Frame} {s : State} (h : requestFrame c = some (t, f)) :
    exec c s = .next (s.request t f.kind f.tag f.payload) := by
  cases c <;> simp only [requestFrame, Option.some.injEq, Prod.mk.injEq, reduceCtorEq] at h <;>
    (obtain ⟨rfl, rfl⟩ := h; rfl)

end Sys2Proof.Machine
end

