-- ==== Sys2Proof/Laws/Frames.lean ====
section
/-! SUPPORT. Which blocks each operation touches. A view gathers the blocks that a family of operations leaves alone; each
operation has one law that it keeps the view of its family, so that a claim about what a command leaves alone cites it
and unfolds nothing. -/

namespace Sys2Proof.Machine

/-- A fold of operations that keep a view of the state keeps it. -/
theorem foldl_keeps {α β : Type} (v : State → β) (g : State → α → State) (h : ∀ s a, v (g s a) = v s) :
    ∀ (l : List α) (s : State), v (l.foldl g s) = v s
  | [], _ => rfl
  | a :: l, s => by rw [List.foldl_cons, foldl_keeps v g h l, h]

/-! ### Views -/

/-- What the odometry and the supervision pass leave alone: all but odo, sup and notice. -/
abbrev State.outsideOdo (s : State) :=
  (s.clock, s.line, s.radio, s.route, s.brake, s.ent, s.link, s.cfg, s.configured, s.pending)

/-- What the radio and the route records leave alone: all but radio, route and notice. -/
abbrev State.outsideRadio (s : State) :=
  (s.clock, s.odo, s.line, s.sup, s.brake, s.ent, s.link, s.cfg, s.configured, s.pending)

/-- What the brake outputs leave alone: all but brake, sup and notice. -/
abbrev State.outsideBrake (s : State) :=
  (s.clock, s.odo, s.line, s.radio, s.route, s.ent, s.link, s.cfg, s.configured, s.pending)

/-- What the entrances leave alone: all but ent and notice. -/
abbrev State.outsideEnt (s : State) :=
  (s.clock, s.odo, s.line, s.radio, s.route, s.sup, s.brake, s.link, s.cfg, s.configured, s.pending)

/-- What a request leaves alone: the clock, the brake outputs, the link and the queue. -/
abbrev State.outsideRequest (s : State) := (s.clock, s.brake, s.link, s.pending)

/-! ### Odometry -/

theorem State.publishOdometry_keeps (s : State) : s.publishOdometry.outsideOdo = s.outsideOdo := rfl

theorem State.odo_keeps (o : Odometry) (s : State) : State.outsideOdo { s with odo := o } = s.outsideOdo := rfl

theorem State.compareSpan_keeps (s : State) : s.compareSpan.outsideOdo = s.outsideOdo := by
  simp only [State.compareSpan]; split <;> rfl

theorem State.missedTest_keeps (d : Dir) (m : Option Marker) (s : State) :
    (s.missedTest d m).outsideOdo = s.outsideOdo := by
  simp only [State.missedTest]; (repeat' split) <;> rfl

theorem State.waitingTests_keeps (k : Capture) (s : State) : (s.waitingTests k).outsideOdo = s.outsideOdo := by
  simp only [State.waitingTests]
  generalize (k.waiting.filter _) = l
  induction l generalizing s with
  | nil => rfl
  | cons w l ih => rw [List.foldl_cons, ih, State.missedTest_keeps]

theorem State.decideEngagement_keeps (v : SegView) (pin whl : Int) (s : State) :
    (s.decideEngagement v pin whl).outsideOdo = s.outsideOdo := by
  simp only [State.decideEngagement]; (repeat' split) <;> rfl

theorem State.crossUp_keeps (w v : SegView) (s : State) : (s.crossUp w v).outsideOdo = s.outsideOdo := by
  simp only [State.crossUp]; (repeat' split) <;> first | rfl | exact State.decideEngagement_keeps ..

theorem State.crossDown_keeps (w : SegView) (s : State) : (s.crossDown w).outsideOdo = s.outsideOdo := by
  simp only [State.crossDown]; (repeat' split) <;> rfl

theorem State.crossAllUp_keeps : ∀ (l : List SegView) (s : State), (State.crossAllUp l s).outsideOdo = s.outsideOdo
  | [], _ => rfl
  | [_], _ => rfl
  | w :: v :: l, s => by rw [State.crossAllUp, State.crossAllUp_keeps (v :: l), State.publishOdometry_keeps,
      State.crossUp_keeps]

theorem State.crossAllDown_keeps : ∀ (l : List SegView) (s : State), (State.crossAllDown l s).outsideOdo = s.outsideOdo
  | [], _ => rfl
  | [_], _ => rfl
  | w :: v :: l, s => by rw [State.crossAllDown, State.crossAllDown_keeps (v :: l), State.publishOdometry_keeps,
      State.crossDown_keeps]

theorem State.dropSpan_keeps (s : State) : s.dropSpan.outsideOdo = s.outsideOdo := rfl

theorem State.afterMove_keeps (d : Dir) (b : Option SegView) (s : State) :
    (s.afterMove d b).outsideOdo = s.outsideOdo := by
  simp only [State.afterMove]
  split
  · split
    · rfl
    · cases d <;> split <;>
        first | exact State.crossAllUp_keeps .. | exact State.crossAllDown_keeps ..
  · rfl
  · rfl

theorem State.moveReference_keeps (d : Dir) (len : Nat) (s : State) :
    (s.moveReference d len).outsideOdo = s.outsideOdo := by
  simp only [State.moveReference]; split <;> rfl

theorem State.growReference_keeps (len rate : Nat) (s : State) :
    (s.growReference len rate).outsideOdo = s.outsideOdo := by
  simp only [State.growReference]; split <;> rfl

theorem State.moveBy_keeps (c : Counter) (d : Dir) (b : Option SegView) (s : State) :
    (s.moveBy c d b).outsideOdo = s.outsideOdo := by
  simp only [State.moveBy]
  (repeat' split) <;>
    simp only [State.missedTest_keeps, State.odo_keeps, State.publishOdometry_keeps, State.afterMove_keeps, State.compareSpan_keeps,
      State.growReference_keeps, State.moveReference_keeps]

theorem State.increment_keeps (c : Counter) (e : Edge) (s : State) : (s.increment c e).outsideOdo = s.outsideOdo := by
  simp only [State.increment, State.countIncrement]
  (repeat' split) <;> simp only [State.moveBy_keeps]

theorem State.markerEdge_keeps (s : State) : s.markerEdge.outsideOdo = s.outsideOdo := by
  simp only [State.markerEdge]; split <;> rfl

theorem State.afterPlacement_keeps (s : State) : s.afterPlacement.outsideOdo = s.outsideOdo := by
  simp only [State.afterPlacement]; (repeat' split) <;> rfl

theorem State.acceptEdge_keeps (e : Nat) (k : Capture) (m : Marker) (s : State) :
    (s.acceptEdge e k m).outsideOdo = s.outsideOdo :=
  (State.waitingTests_keeps ..).trans ((State.afterPlacement_keeps _).trans rfl)

theorem State.rejectCapture_keeps (k : Capture) (s : State) : (s.rejectCapture k).outsideOdo = s.outsideOdo := by
  rw [State.rejectCapture, State.waitingTests_keeps]; rfl

theorem State.completeMatch_keeps (s : State) : s.completeMatch.outsideOdo = s.outsideOdo := by
  simp only [State.completeMatch]
  (repeat' split) <;> simp only [State.acceptEdge_keeps, State.rejectCapture_keeps]

theorem State.declareStandstill_keeps (s : State) : s.declareStandstill.outsideOdo = s.outsideOdo := by
  simp only [State.declareStandstill]; split <;> rfl

theorem State.placeCar_keeps (p u : Nat) (s : State) : (s.placeCar p u).outsideOdo = s.outsideOdo := by
  simp only [State.placeCar]
  rw [State.publishOdometry_keeps, State.afterPlacement_keeps]

/-! ### Supervision -/

theorem State.handleFaults_keeps (l : List (FaultKind × Option Nat)) (s : State) :
    (s.handleFaults l).outsideOdo = s.outsideOdo := by
  simp only [State.handleFaults]; (repeat' split) <;> rfl

theorem State.setLevel_keeps (n : Level) (v p : Nat) (s : State) : (s.setLevel n v p).outsideOdo = s.outsideOdo := by
  simp only [State.setLevel]; split <;> rfl

theorem State.enterTrip_keeps (r : PassResults) (f : Cause) (l : List Cause) (s : State) :
    (s.enterTrip r f l).outsideOdo = s.outsideOdo :=
  (State.setLevel_keeps ..).trans rfl

theorem State.continueRunning_keeps (r : PassResults) (e : Effort) (s : State) :
    (s.continueRunning r e).outsideOdo = s.outsideOdo :=
  (State.setLevel_keeps ..).trans rfl

theorem State.judgeRunning_keeps (r : PassResults) (o : Bool) (s : State) :
    (s.judgeRunning r o).outsideOdo = s.outsideOdo := by
  simp only [State.judgeRunning]
  (repeat' split) <;> simp only [State.enterTrip_keeps, State.continueRunning_keeps]

theorem State.joinCause_keeps (s : State) (c : Cause) : (s.joinCause c).outsideOdo = s.outsideOdo := by
  simp only [State.joinCause]; (repeat' split) <;> rfl

theorem State.judgeTripped_keeps (o : Bool) (s : State) : (s.judgeTripped o).outsideOdo = s.outsideOdo :=
  (foldl_keeps State.outsideOdo State.joinCause State.joinCause_keeps _ _).trans rfl

theorem State.judgePass_keeps (r : PassResults) (s : State) : (s.judgePass r).outsideOdo = s.outsideOdo := by
  simp only [State.judgePass]
  split <;> first | exact State.judgeRunning_keeps .. | exact State.judgeTripped_keeps .. | rfl

theorem State.supervisionPass_keeps (s : State) : s.supervisionPass.outsideOdo = s.outsideOdo :=
  (State.judgePass_keeps _ _).trans ((State.handleFaults_keeps _ _).trans rfl)

theorem State.changeMode_keeps (m : Mode) (s : State) : (s.changeMode m).outsideOdo = s.outsideOdo :=
  (State.setLevel_keeps ..).trans rfl

/-! ### Radio and route records -/

theorem State.loseRadio_keeps (s : State) : s.loseRadio.outsideRadio = s.outsideRadio := by
  simp only [State.loseRadio]; (repeat' split) <;> simp only [State.outsideRadio, State.publishRadio_clock,
    State.publishRadio_odo, State.publishRadio_line, State.publishRadio_sup, State.publishRadio_brake,
    State.publishRadio_ent, State.publishRadio_link, State.publishRadio_cfg, State.publishRadio_configured,
    State.publishRadio_pending]

theorem State.publishRadio_keeps (s : State) : s.publishRadio.outsideRadio = s.outsideRadio := by
  simp only [State.outsideRadio, State.publishRadio_clock,
    State.publishRadio_odo, State.publishRadio_line, State.publishRadio_sup, State.publishRadio_brake,
    State.publishRadio_ent, State.publishRadio_link, State.publishRadio_cfg, State.publishRadio_configured,
    State.publishRadio_pending]

theorem State.freezeRadio_keeps (s : State) : s.freezeRadio.outsideRadio = s.outsideRadio := by
  simp only [State.freezeRadio]; (repeat' split) <;> rfl

theorem State.expireAuthority_keeps (s : State) : s.expireAuthority.outsideRadio = s.outsideRadio := by
  simp only [State.expireAuthority]; (repeat' split) <;> rfl

theorem State.entriesLeave_keeps (n : Nat) (l : List Restriction) (s : State) :
    (s.entriesLeave n l).outsideRadio = s.outsideRadio := by
  simp only [State.entriesLeave]; split <;> rfl

theorem State.ageRecords_keeps (s : State) : s.ageRecords.outsideRadio = s.outsideRadio :=
  (State.entriesLeave_keeps ..).trans (State.expireAuthority_keeps _)

theorem State.takeAuthority_keeps (a : Authority) (s : State) : (s.takeAuthority a).outsideRadio = s.outsideRadio := by
  simp only [State.takeAuthority]; (repeat' split) <;> rfl

theorem State.setRestriction_keeps (r : Restriction) (s : State) :
    (s.setRestriction r).2.outsideRadio = s.outsideRadio := by
  simp only [State.setRestriction]; (repeat' split) <;> rfl

theorem State.takeValleyTime_keeps (v : Time) (s : State) : (s.takeValleyTime v).outsideRadio = s.outsideRadio := by
  refine (State.ageRecords_keeps _).trans ?_
  (repeat' split) <;> rfl

theorem State.deliver_keeps (m : Telegram) (s : State) : (s.deliver m).outsideRadio = s.outsideRadio := by
  cases m with
  | malformed r => cases r <;> rfl
  | authority a => exact State.takeAuthority_keeps a s
  | set r => exact State.setRestriction_keeps r s
  | lift id => exact State.entriesLeave_keeps ..
  | valleyTime v => exact State.takeValleyTime_keeps v s
  | _ => rfl

theorem State.goodSettledFrame_keeps (f : List Byte) (s : State) :
    (s.goodSettledFrame f).outsideRadio = s.outsideRadio := by
  simp only [State.goodSettledFrame, State.deliverFrame]
  rw [State.deliver_keeps, State.deliver_keeps, State.publishRadio_keeps]

theorem State.judgeContents_keeps (f : List Byte) (s : State) : (s.judgeContents f).outsideRadio = s.outsideRadio := by
  simp only [State.judgeContents]
  (repeat' split) <;> first | rfl | exact (State.goodSettledFrame_keeps ..).trans rfl

theorem State.judgeConfirm_keeps (s : State) : s.judgeConfirm.outsideRadio = s.outsideRadio := by
  simp only [State.judgeConfirm]; (repeat' split) <;> rfl

theorem State.judgeLocked_keeps (s : State) : s.judgeLocked.outsideRadio = s.outsideRadio := by
  simp only [State.judgeLocked]
  (repeat' split) <;> first | rfl | exact (State.judgeContents_keeps ..).trans rfl

theorem State.enterConfirm_keeps (n : Nat) (s : State) : (s.enterConfirm n).outsideRadio = s.outsideRadio := by
  simp only [State.enterConfirm]
  rw [State.publishRadio_keeps]

theorem State.runFramer_keeps (n : Nat) : ∀ s : State, (State.runFramer n s).outsideRadio = s.outsideRadio := by
  induction n with
  | zero => intro s; rfl
  | succ n ih =>
    intro s
    rw [State.runFramer]
    split
    · split
      · rfl
      · split
        · rw [ih, State.enterConfirm_keeps]
        · rw [ih]
    · split
      · rfl
      · rw [ih, State.judgeConfirm_keeps]
    · split
      · rfl
      · rw [ih, State.judgeLocked_keeps]

theorem State.countSpan_keeps (b : Bool) (s : State) : (s.countSpan b).outsideRadio = s.outsideRadio := by
  simp only [State.countSpan]
  (repeat' split) <;> rfl

theorem State.receiveBit_keeps (c : Time) (b : Bool) (s : State) : (s.receiveBit c b).outsideRadio = s.outsideRadio :=
  (State.runFramer_keeps ..).trans (State.countSpan_keeps b s)

theorem State.receiveBits_keeps (c : Time) (l : List Bool) (s : State) :
    (s.receiveBits c l).outsideRadio = s.outsideRadio :=
  foldl_keeps State.outsideRadio _ (fun s b => State.receiveBit_keeps c b s) l s

theorem State.rejudgeRadio_keeps (s : State) : s.rejudgeRadio.outsideRadio = s.outsideRadio :=
  (State.freezeRadio_keeps _).trans (State.loseRadio_keeps _)

/-! ### Brake outputs -/

theorem State.putChannel_keeps (c : Channel) (x : BrakeChannel) (b : Bool) (s : State) :
    (s.putChannel c x b).outsideBrake = s.outsideBrake := by
  simp only [State.putChannel]; split <;> rfl

theorem State.emitChannel_keeps (c : Channel) (s : State) : (s.emitChannel c).outsideBrake = s.outsideBrake :=
  State.putChannel_keeps ..

theorem State.slotPeriod_keeps (s : State) : s.slotPeriod.outsideBrake = s.outsideBrake := by
  simp only [State.slotPeriod, State.emitChannel_keeps]

theorem State.patternWrite_keeps (c : Channel) (s : State) : (s.patternWrite c).outsideBrake = s.outsideBrake := by
  simp only [State.patternWrite]
  split
  · rfl
  · exact (State.putChannel_keeps ..).trans rfl

/-! ### Entrances -/

theorem State.putLeaf_keeps (i : Fin 8) (r : LeafRecord) (s : State) : (s.putLeaf i r).outsideEnt = s.outsideEnt := by
  simp only [State.putLeaf]; split <;> rfl

theorem State.readLeaf_keeps (x : LeafInput) (i : Fin 8) (s : State) : (s.readLeaf x i).outsideEnt = s.outsideEnt := by
  simp only [State.readLeaf]; (repeat' split) <;> first | rfl | exact State.putLeaf_keeps ..

theorem State.handOverLeaf_keeps (s : State) (i : Fin 8) : (s.handOverLeaf i).outsideEnt = s.outsideEnt := by
  simp only [State.handOverLeaf]; split <;> first | rfl | exact State.putLeaf_keeps ..

theorem State.grantTakeover_keeps (d : Side) (s : State) : (s.grantTakeover d).outsideEnt = s.outsideEnt := by
  simp only [State.grantTakeover]
  split
  · exact (foldl_keeps State.outsideEnt State.handOverLeaf State.handOverLeaf_keeps _ _)
  · rfl

theorem State.stepLeaf_keeps (s : State) (i : Fin 8) : (s.stepLeaf i).outsideEnt = s.outsideEnt :=
  State.putLeaf_keeps ..

theorem State.releaseSide_keeps (d : Side) (s : State) : (s.releaseSide d).outsideEnt = s.outsideEnt := by
  have h : ∀ u : State, (d.leaves.foldl State.clearMark u).outsideEnt = u.outsideEnt :=
    fun u => foldl_keeps State.outsideEnt State.clearMark (fun _ _ => rfl) _ u
  simp only [State.releaseSide]
  (repeat' split) <;> first | rfl | exact (h _).trans rfl

theorem State.publishEntrances_keeps (s : State) : s.publishEntrances.outsideEnt = s.outsideEnt := rfl

theorem State.entranceCycle_keeps (inputs : Eight LeafInput) (s : State) :
    (s.entranceCycle inputs).outsideEnt = s.outsideEnt := by
  have h1 := foldl_keeps State.outsideEnt (fun s i => s.readLeaf (inputs.get i) i)
    (fun s i => State.readLeaf_keeps _ i s) allLeaves
  have h2 := foldl_keeps State.outsideEnt State.stepLeaf State.stepLeaf_keeps allLeaves
  have h3 : ∀ (u : State) (e : Entrances), State.outsideEnt { u with ent := e } = u.outsideEnt := fun _ _ => rfl
  simp only [State.entranceCycle]
  rw [State.publishEntrances_keeps, State.releaseSide_keeps, State.releaseSide_keeps, h3, h2, State.grantTakeover_keeps,
    State.grantTakeover_keeps, h1, h3]

theorem State.changeLeaves_keeps (d : Side) (f : LeafRecord → LeafRecord) (s : State) :
    (s.changeLeaves d f).outsideEnt = s.outsideEnt :=
  foldl_keeps State.outsideEnt (fun s i => s.putLeaf i (f (s.ent.leaves.get i))) (fun s i => State.putLeaf_keeps i _ s) _ _

theorem State.entranceCommand_keeps (a b : Nat) (s : State) : (s.entranceCommand a b).2.outsideEnt = s.outsideEnt := by
  simp only [State.entranceCommand, State.openSide, State.closeSide]
  (repeat' split) <;> first | rfl | exact State.changeLeaves_keeps ..

theorem State.entranceIsolate_keeps (a b : Nat) (s : State) : (s.entranceIsolate a b).2.outsideEnt = s.outsideEnt := by
  simp only [State.entranceIsolate, State.isolateLeaf, State.restoreLeaf]
  (repeat' split) <;> first | rfl | exact State.putLeaf_keeps ..

theorem State.takeoverRequest_keeps (a : Nat) (s : State) : (s.takeoverRequest a).2.outsideEnt = s.outsideEnt := by
  simp only [State.takeoverRequest, State.requestTakeover]; (repeat' split) <;> rfl

theorem State.takeoverReturn_keeps (a : Nat) (s : State) : (s.takeoverReturn a).2.outsideEnt = s.outsideEnt := by
  simp only [State.takeoverReturn, State.returnTakeover]
  (repeat' split) <;> first | rfl | exact (State.changeLeaves_keeps ..).trans rfl

/-! ### Requests -/

theorem State.outsideRequest_of_odo {s u : State} (h : u.outsideOdo = s.outsideOdo) :
    u.outsideRequest = s.outsideRequest := by
  simp only [State.outsideOdo, Prod.mk.injEq] at h
  simp [State.outsideRequest, h]

theorem State.outsideRequest_of_ent {s u : State} (h : u.outsideEnt = s.outsideEnt) :
    u.outsideRequest = s.outsideRequest := by
  simp only [State.outsideEnt, Prod.mk.injEq] at h
  simp [State.outsideRequest, h]

theorem State.outsideRequest_of_radio {s u : State} (h : u.outsideRadio = s.outsideRadio) :
    u.outsideRequest = s.outsideRequest := by
  simp only [State.outsideRadio, Prod.mk.injEq] at h
  simp [State.outsideRequest, h]

theorem State.setMode_keeps (m : Mode) (s : State) : (s.setMode m).2.outsideOdo = s.outsideOdo := by
  simp only [State.setMode]; (repeat' split) <;> first | rfl | exact State.changeMode_keeps ..

theorem State.setDrive_keeps (a b c : Nat) (s : State) : (s.setDrive a b c).2.outsideOdo = s.outsideOdo := by
  simp only [State.setDrive]; (repeat' split) <;> rfl

theorem State.releaseTrip_keeps (s : State) : s.releaseTrip.2.outsideOdo = s.outsideOdo := by
  simp only [State.releaseTrip]; split <;> first | rfl | exact (State.setLevel_keeps ..).trans rfl

theorem State.testEffects_keeps (n : Nat) (s : State) : (s.testEffects n).outsideOdo = s.outsideOdo := by
  simp only [State.testEffects]; (repeat' split) <;> first | rfl | exact State.handleFaults_keeps ..

theorem State.detectorTest_keeps (s : State) : s.detectorTest.2.outsideOdo = s.outsideOdo := by
  simp only [State.detectorTest]; split <;> first | rfl | exact (State.testEffects_keeps ..).trans rfl

theorem State.setPosition_keeps (p u : Nat) (s : State) : (s.setPosition p u).2.outsideOdo = s.outsideOdo := by
  simp only [State.setPosition]; (repeat' split) <;> first | rfl | exact State.placeCar_keeps ..

theorem State.swapBank_keeps (s : State) : s.swapBank.2.outsideRequest = s.outsideRequest := by
  simp only [State.swapBank]; split <;> rfl

theorem State.takeConfig_keeps (c : ConfigRecord) (s : State) :
    (s.takeConfig c).outsideRequest = s.outsideRequest := by
  have hp : ∀ u : State, u.publishOdometry.outsideRequest = u.outsideRequest := fun _ => rfl
  have hd : ∀ u : State, u.dropSpan.outsideRequest = u.outsideRequest := fun _ => rfl
  have ha := fun u : State => State.outsideRequest_of_odo (State.afterPlacement_keeps u)
  have hi : ∀ (b : Bool) (u : State), (if b = true then u.dropSpan else u).outsideRequest = u.outsideRequest := by
    intro b u; cases b <;> simp [hd]
  simp only [State.takeConfig]
  rw [State.outsideRequest_of_radio (State.rejudgeRadio_keeps _), hp, hi, ha]

theorem State.configure_keeps (c : ConfigRecord) (s : State) :
    (s.configure c).2.outsideRequest = s.outsideRequest := by
  simp only [State.configure]
  (repeat' split) <;> first | exact State.takeConfig_keeps c s | rfl

theorem State.restart_keeps (s : State) : s.restart.2.outsideRequest = s.outsideRequest := by
  have hp : ∀ u : State, u.publishOdometry.outsideRequest = u.outsideRequest := fun _ => rfl
  simp only [State.restart]
  split
  · simp only [State.restartAll, State.evaluateOwners]
    rw [hp, State.outsideRequest_of_radio (State.publishRadio_keeps _)]
  · rfl

/-- No request touches the clock, the brake outputs, the link or the queue. -/
theorem State.perform_keeps (r : Request) (p : List Byte) (s : State) :
    (s.perform r p).2.outsideRequest = s.outsideRequest := by
  cases r <;>
    first
    | rfl
    | exact State.outsideRequest_of_odo (State.setDrive_keeps ..)
    | exact State.outsideRequest_of_odo (State.releaseTrip_keeps ..)
    | exact State.outsideRequest_of_odo (State.detectorTest_keeps ..)
    | exact State.outsideRequest_of_odo (State.setPosition_keeps ..)
    | exact State.outsideRequest_of_ent (State.entranceCommand_keeps ..)
    | exact State.outsideRequest_of_ent (State.entranceIsolate_keeps ..)
    | exact State.outsideRequest_of_ent (State.takeoverRequest_keeps ..)
    | exact State.outsideRequest_of_ent (State.takeoverReturn_keeps ..)
    | exact State.swapBank_keeps s
    | exact State.configure_keeps ..
    | exact State.restart_keeps s
    | (simp only [State.perform, State.setModeCode]
       (repeat' split) <;> first | rfl | exact State.outsideRequest_of_odo (State.setMode_keeps ..))
    | (simp only [State.perform, State.ackAlerts]; split <;> rfl)

theorem State.judge_keeps (f : Frame) (s : State) : (s.judge f).2.outsideRequest = s.outsideRequest := by
  simp only [State.judge]
  (repeat' split) <;> first | rfl | exact State.perform_keeps ..

/-- Answering a frame leaves the transmission and the receive buffer as they are; its reply waits. -/
theorem State.answer_link (f : Frame) (s : State) :
    (State.answer f s).link = { s.link with waiting := some (replyTo f (s.judge f).1) } := by
  have h : (s.judge f).2.link = s.link := congrArg (fun v => v.2.2.1) (State.judge_keeps f s)
  simp [State.answer, h]

end Sys2Proof.Machine
end

