-- ==== Sys2Proof/Laws/Notice.lean ====
section
/-! SUPPORT. What posting, latching, setting, forcing and clearing do to the alert entries and the report queue. -/

namespace Sys2Proof.Machine

/-! ### Entries -/

theorem AlertKind.number_lt (k : AlertKind) : k.number < 21 := by cases k <;> decide

theorem AlertKind.number_injective {j k : AlertKind} (h : j.number = k.number) : j = k := by
  cases j <;> cases k <;> first | rfl | exact absurd h (by decide)

@[simp] theorem Notice.setEntry_queue (n : Notice) (k : AlertKind) (e : AlertEntry) :
    (n.setEntry k e).queue = n.queue := rfl
@[simp] theorem Notice.setEntry_nextNumber (n : Notice) (k : AlertKind) (e : AlertEntry) :
    (n.setEntry k e).nextNumber = n.nextNumber := rfl
@[simp] theorem Notice.setEntry_drops (n : Notice) (k : AlertKind) (e : AlertEntry) :
    (n.setEntry k e).drops = n.drops := rfl
@[simp] theorem Notice.setEntry_length (n : Notice) (k : AlertKind) (e : AlertEntry) :
    (n.setEntry k e).alerts.length = n.alerts.length := by simp [Notice.setEntry]

theorem Notice.entry_setEntry_self (n : Notice) (k : AlertKind) (e : AlertEntry) (h : n.alerts.length = 21) :
    (n.setEntry k e).entry k = e := by
  have hk : k.number < n.alerts.length := h ▸ k.number_lt
  simp [Notice.entry, Notice.setEntry, hk]

theorem Notice.entry_setEntry_other (n : Notice) {j k : AlertKind} (e : AlertEntry) (h : j ≠ k) :
    (n.setEntry k e).entry j = n.entry j := by
  have hn : k.number ≠ j.number := fun q => h (AlertKind.number_injective q).symm
  simp [Notice.entry, Notice.setEntry, List.getElem?_set_ne hn]

/-! ### Posting (R178) -/

@[simp] theorem Notice.post_alerts (n : Notice) (t : Time) (b : ReportBody) : (n.post t b).alerts = n.alerts := by
  simp only [Notice.post]; split <;> rfl

@[simp] theorem Notice.post_entry (n : Notice) (t : Time) (b : ReportBody) (k : AlertKind) :
    (n.post t b).entry k = n.entry k := by simp [Notice.entry]

theorem Notice.post_joins {n : Notice} (h : n.queue.length < 24) (t : Time) (b : ReportBody) :
    n.post t b =
      { n with
        queue := n.queue ++ [⟨n.nextNumber, t, n.drops, b⟩], nextNumber := n.nextNumber + 1, drops := 0 } := by
  simp [Notice.post, Config.reportQueue, h]

theorem Notice.post_dropped {n : Notice} (h : 24 ≤ n.queue.length) (t : Time) (b : ReportBody) :
    n.post t b = { n with drops := min (n.drops + 1) 255 } := by
  simp [Notice.post, Config.reportQueue, Nat.not_lt.mpr h]

/-! ### Latching (R170, R171, R172) -/

/-- The entries after a latching opportunity: the kind's latched flag and raise count, no other. -/
theorem Notice.latch_entry_self (n : Notice) (t : Time) (k : AlertKind) (h : n.alerts.length = 21) :
    (n.latch t k).entry k = { n.entry k with latched := true, count := min ((n.entry k).count + 1) 255 } := by
  simp only [Notice.latch]
  split <;> simp [Notice.entry_setEntry_self _ _ _ h]

theorem Notice.latch_entry_other (n : Notice) (t : Time) {j k : AlertKind} (h : j ≠ k) :
    (n.latch t k).entry j = n.entry j := by
  simp only [Notice.latch]
  split <;> simp [Notice.entry_setEntry_other _ _ h]

/-- The queue after a latching opportunity: an ALERT report when the latched flag was clear. -/
theorem Notice.latch_queue {n : Notice} (t : Time) (k : AlertKind) (q : n.queue.length < 24) :
    (n.latch t k).queue =
      if (n.entry k).latched then n.queue
      else n.queue ++ [⟨n.nextNumber, t, n.drops, .alert k k.cls (n.entry k).forced (n.latch t k).latchedSet⟩] := by
  have ls : ∀ m : Notice, ∀ b, (m.post t b).latchedSet = m.latchedSet := by
    intro m b; simp [Notice.latchedSet]
  by_cases hl : (n.entry k).latched = true
  · simp [Notice.latch, hl]
  · simp only [Notice.latch, hl, if_false, Bool.false_eq_true, ls]
    rw [Notice.post_joins (by simpa using q)]
    simp

/-- Setting or clearing the active flag of a condition (R170): nothing when it stands so; a rise of the indicated value
latches. -/
theorem Notice.setActive_cases (n : Notice) (t : Time) (k : AlertKind) (b : Bool) :
    ((n.entry k).active = b ∧ n.setActive t k b = n) ∨
    ((n.entry k).active = !b ∧ (b = false ∨ (n.entry k).forced = true) ∧
      n.setActive t k b = n.setEntry k { n.entry k with active := b }) ∨
    ((n.entry k).active = false ∧ b = true ∧ (n.entry k).forced = false ∧
      n.setActive t k b = (n.setEntry k { n.entry k with active := true }).latch t k) := by
  by_cases h : (n.entry k).active = b
  · exact .inl ⟨h, by simp [Notice.setActive, h]⟩
  · right
    cases b <;> cases hf : (n.entry k).forced <;> cases ha : (n.entry k).active <;>
      simp_all [Notice.setActive]

@[simp] theorem AlertEntry.follow_none (e : AlertEntry) : e.follow none = e := rfl
@[simp] theorem AlertEntry.follow_active (e : AlertEntry) (b : Bool) : (e.follow (some b)).active = b := by
  cases b <;> simp only [AlertEntry.follow] <;> split <;> simp_all

@[simp] theorem Notice.setActive_length (n : Notice) (t : Time) (k : AlertKind) (b : Bool) :
    (n.setActive t k b).alerts.length = n.alerts.length := by
  rcases n.setActive_cases t k b with ⟨_, h⟩ | ⟨_, _, h⟩ | ⟨_, _, _, h⟩ <;> rw [h]
  · simp
  · simp only [Notice.latch]; split <;> simp

/-- The entry of a condition after its owner has set it (R170). -/
theorem Notice.setActive_entry_self (n : Notice) (t : Time) (k : AlertKind) (b : Bool) (h : n.alerts.length = 21) :
    (n.setActive t k b).entry k = (n.entry k).follow (some b) := by
  rcases n.setActive_cases t k b with ⟨ha, e⟩ | ⟨ha, hb, e⟩ | ⟨ha, hb, hf, e⟩ <;> rw [e]
  · generalize n.entry k = x at ha
    subst ha
    exact (if_neg fun ⟨p, q, _⟩ => Bool.noConfusion (p.symm.trans q)).symm
  · rw [Notice.entry_setEntry_self _ _ _ h]
    rcases hb with rfl | hf <;> simp_all [AlertEntry.follow]
  · rw [Notice.latch_entry_self _ _ _ (by simpa using h), Notice.entry_setEntry_self _ _ _ h]
    simp [AlertEntry.follow, ha, hb, hf]

/-- Setting a condition leaves every other entry. -/
theorem Notice.setActive_entry_other (n : Notice) (t : Time) {j k : AlertKind} (b : Bool) (h : j ≠ k) :
    (n.setActive t k b).entry j = n.entry j := by
  rcases n.setActive_cases t k b with ⟨_, e⟩ | ⟨_, _, e⟩ | ⟨_, _, _, e⟩ <;>
    simp [e, Notice.latch_entry_other _ _ h, Notice.entry_setEntry_other _ _ h]

/-- What the Odometry Unit gives its conditions, in its own words. -/
theorem Odometry.shows_eq (o : Odometry) (k : AlertKind) :
    o.shows k = match k with
      | .positionDegraded => some o.isDegraded
      | .odometryDisagree => some o.disagree
      | .engagementUnproven => some o.engagement.isUnproven
      | _ => none := by
  have d : (o.localisation == .degraded) = decide (o.localisation = .degraded) := by
    cases o.localisation <;> rfl
  have u : o.shows .engagementUnproven = some o.engagement.isUnproven := by
    unfold Odometry.shows
    cases o.engagement <;> rfl
  cases k
  case engagementUnproven => exact u
  case positionDegraded => exact congrArg (fun x => some (x || o.lossFlag)) d.symm
  all_goals rfl

/-- Every alert entry after the Odometry Unit has set its three conditions: those follow its state, the others stand. -/
theorem State.publishOdometry_entry (s : State) (h : s.notice.alerts.length = 21) (k : AlertKind) :
    s.publishOdometry.notice.entry k = (s.notice.entry k).follow (s.odo.shows k) := by
  rw [Odometry.shows_eq]
  cases k <;>
    simp [State.publishOdometry, State.setCondition, Notice.setActive_entry_self, Notice.setActive_entry_other, h]

/-- Every alert entry after the Radio Framer has set its four conditions: those follow its state, the others stand. -/
theorem State.publishRadio_entry (s : State) (h : s.notice.alerts.length = 21) (k : AlertKind) :
    s.publishRadio.notice.entry k = (s.notice.entry k).follow (s.radio.shows k) := by
  have d : ∀ x : RadioState, (s.radio.state == x) = decide (s.radio.state = x) := by
    intro x; cases s.radio.state <;> cases x <;> rfl
  have c : (s.radio.blankCount == 3) = decide (s.radio.blankCount = 3) := rfl
  cases k <;>
    simp [State.publishRadio, State.setCondition, Notice.setActive_entry_self, Notice.setActive_entry_other, h,
      Radio.shows, d, c]

/-- Forcing a kind (R170, R174): nothing when it is forced; else the flag alone when its active flag stands; else the flag
with a latching opportunity. -/
theorem Notice.force_cases (n : Notice) (t : Time) (k : AlertKind) :
    ((n.entry k).forced = true ∧ n.force t k = n) ∨
    ((n.entry k).forced = false ∧ (n.entry k).active = true ∧
      n.force t k = n.setEntry k { n.entry k with forced := true }) ∨
    ((n.entry k).forced = false ∧ (n.entry k).active = false ∧
      n.force t k = (n.setEntry k { n.entry k with forced := true }).latch t k) := by
  cases hf : (n.entry k).forced <;> cases ha : (n.entry k).active <;> simp [Notice.force, hf, ha]

/-- Forcing a kind leaves every other entry. -/
theorem Notice.force_entry_other (n : Notice) (t : Time) {j k : AlertKind} (h : j ≠ k) :
    (n.force t k).entry j = n.entry j := by
  rcases n.force_cases t k with ⟨_, e⟩ | ⟨_, _, e⟩ | ⟨_, _, e⟩ <;>
    simp [e, Notice.latch_entry_other _ _ h, Notice.entry_setEntry_other _ _ h]

/-- A leaf record put in place posts its ENTRANCE report when its state changes, and none else (R145). -/
theorem State.putLeaf_notice (i : Fin 8) (r : LeafRecord) (s : State) :
    (s.putLeaf i r).notice =
      if r.state = (s.ent.leaves.get i).state then s.notice
      else s.notice.post s.clock.now (.entrance i.val r.state r.cause) := by
  simp only [State.putLeaf]; split <;> rfl

/-- A read of a leaf in FAULT, MANUAL or ISOLATED posts nothing, its first successful one included (R144, R167). -/
theorem State.readLeaf_notice_of_passive {x : LeafInput} {i : Fin 8} {s : State}
    (h : (s.ent.leaves.get i).state.faultsOnReads = false) : (s.readLeaf x i).notice = s.notice := by
  have hr : ((s.ent.leaves.get i).read x).state = (s.ent.leaves.get i).state := by
    simp only [LeafRecord.read]; split <;> rfl
  simp only [State.readLeaf, hr, h]
  (repeat' split) <;> simp_all [State.putLeaf_notice]

/-! ### The invariant of the notice -/

/-- The queue's numbers run without a break up to the next number. -/
theorem State.noticeInv_of {s u : State} (h : u.notice = s.notice) (i : s.noticeInv) : u.noticeInv := by
  simpa only [State.noticeInv, h] using i

theorem State.noticeInv_setEntry {s : State} (i : s.noticeInv) (k : AlertKind) (e : AlertEntry) (he : e.count ≤ 255) :
    State.noticeInv { s with notice := s.notice.setEntry k e } := by
  obtain ⟨h1, h2, h3⟩ := i
  refine ⟨by simpa using h1, ?_, h3⟩
  intro x hx
  rcases List.mem_or_eq_of_mem_set hx with hx | rfl
  · exact h2 x hx
  · exact he

theorem State.noticeInv_post {s : State} (i : s.noticeInv) (b : ReportBody) : (s.post b).noticeInv := by
  obtain ⟨h1, h2, h3, h4, h5⟩ := i
  by_cases q : s.notice.queue.length < 24
  · simp only [State.noticeInv, State.post_notice, Notice.post_joins q]
    refine ⟨h1, h2, by simp; omega, by omega, ?_⟩
    intro j hj
    simp only [List.length_append, List.length_singleton] at hj
    by_cases hj' : j < s.notice.queue.length
    · rw [List.getElem_append_left hj', h5 j hj']
      simp only [List.length_append, List.length_singleton]
      rw [show s.notice.queue.length + 1 - j = (s.notice.queue.length - j) + 1 by omega]
      rw [BitVec.ofNat_add]
      simp
    · have e : j = s.notice.queue.length := by omega
      subst e
      simp
  · rw [State.noticeInv, State.post_notice, Notice.post_dropped (by omega)]
    exact ⟨h1, h2, h3, Nat.min_le_right _ _, h5⟩

theorem State.entry_count_le {s : State} (i : s.noticeInv) (k : AlertKind) : (s.notice.entry k).count ≤ 255 := by
  have hk : k.number < s.notice.alerts.length := i.1 ▸ k.number_lt
  have : s.notice.entry k ∈ s.notice.alerts := by
    simp only [Notice.entry, List.getD_eq_getElem?_getD, List.getElem?_eq_getElem hk, Option.getD_some]
    exact List.getElem_mem hk
  exact i.2.1 _ this

theorem State.noticeInv_raise {s : State} (i : s.noticeInv) (k : AlertKind) : (s.raise k).noticeInv := by
  have i1 := State.noticeInv_setEntry i k
    { s.notice.entry k with latched := true, count := min ((s.notice.entry k).count + 1) 255 } (by simp)
  simp only [State.raise, Notice.latch]
  split
  · exact i1
  · exact State.noticeInv_post i1 _

theorem State.noticeInv_setCondition {s : State} (i : s.noticeInv) (k : AlertKind) (b : Bool) :
    (s.setCondition k b).noticeInv := by
  have hc := State.entry_count_le i k
  have e1 : (s.setCondition k b).noticeInv ↔
      State.noticeInv { s with notice := s.notice.setActive s.clock.now k b } := Iff.rfl
  rw [e1]
  rcases Notice.setActive_cases s.notice s.clock.now k b with ⟨_, h⟩ | ⟨_, _, h⟩ | ⟨_, _, _, h⟩
  · simpa only [h] using i
  · simpa only [h] using State.noticeInv_setEntry i k { s.notice.entry k with active := b } hc
  · rw [h]
    exact State.noticeInv_raise (State.noticeInv_setEntry i k { s.notice.entry k with active := true } hc) k

theorem State.noticeInv_force {s : State} (i : s.noticeInv) (k : AlertKind) : (s.force k).noticeInv := by
  have hc := State.entry_count_le i k
  have e1 : (s.force k).noticeInv ↔ State.noticeInv { s with notice := s.notice.force s.clock.now k } := Iff.rfl
  rw [e1]
  rcases Notice.force_cases s.notice s.clock.now k with ⟨_, h⟩ | ⟨_, _, h⟩ | ⟨_, _, h⟩
  · simpa only [h] using i
  · simpa only [h] using State.noticeInv_setEntry i k { s.notice.entry k with forced := true } hc
  · rw [h]
    exact State.noticeInv_raise (State.noticeInv_setEntry i k { s.notice.entry k with forced := true } hc) k

theorem State.noticeInv_grant {s : State} (i : s.noticeInv) : s.grantTransmitter.noticeInv := by
  rcases s.grantTransmitter_cases with h | ⟨r, _, _, h⟩ | ⟨r, rest, _, _, hq, h⟩
  · rw [h]; exact i
  · rw [h]; exact i
  · rw [h]
    obtain ⟨h1, h2, h3, h4, h5⟩ := i
    rw [hq] at h3 h5
    refine ⟨h1, h2, by simp at h3 ⊢; omega, h4, ?_⟩
    intro j hj
    have := h5 (j + 1) (by simp at hj ⊢; omega)
    simpa using this

theorem Notice.acknowledgeFrom_length (kinds : BitVec 24) : ∀ (l : List AlertEntry) (i : Nat),
    (acknowledgeFrom kinds i l).length = l.length
  | [], _ => rfl
  | _ :: l, i => by simp [acknowledgeFrom, Notice.acknowledgeFrom_length kinds l]

/-- Acknowledgement of a kind of the set, and of no other (R173). -/
theorem Notice.acknowledgeFrom_get (kinds : BitVec 24) : ∀ (l : List AlertEntry) (i j : Nat),
    (acknowledgeFrom kinds i l)[j]? =
      l[j]?.map fun e => if kinds.getLsbD (i + j) then e.acknowledge else e
  | [], _, _ => by simp [acknowledgeFrom]
  | e :: l, i, 0 => by simp [acknowledgeFrom]
  | e :: l, i, j + 1 => by
    simp only [acknowledgeFrom, List.getElem?_cons_succ]
    rw [Notice.acknowledgeFrom_get kinds l (i + 1) j, show i + 1 + j = i + (j + 1) by omega]

end Sys2Proof.Machine
end

