-- ==== Sys2Proof/Tests/Slice0.lean ====
section
/-! SUPPORT. Named tests: terms that the well-formedness check refuses, one or two small tests for each command with
values from the worked cases and tables of spec/, and, for each statement with hypotheses, a state and operands that meet
them. -/

namespace Sys2Proof.Tests

open Sys2Proof.Machine

set_option Elab.async false

/-! ## Small states -/

/-- The next state of an outcome. -/
def after (o : Host.Outcome State Fault Refusal) : State :=
  match o with
  | .next s => s
  | _ => State.reset

/-- The state after reset with nothing in transmission. -/
def idle : State := { State.reset with link := { State.reset.link with tx := none } }

/-- A segment record without platform and marker. -/
def track (start : Nat) (kind : SegKind) (pull : Int) (up down : Nat) : Segment :=
  ⟨start, kind, some pull, up, down, none, none⟩

/-- The line of the worked example of 02 §2.6. -/
def line7 : List Segment :=
  [{ track 0 .adhesion 40 8000 8000 with
       platform := some ⟨.both, 20000, 140000, 1⟩, marker := some ⟨1, 150000, 800⟩ },
   { track 410000 .adhesion 65 7000 6000 with marker := some ⟨2, 900000, 800⟩ },
   { track 1250000 .rackEntry 120 3000 2500 with marker := some ⟨3, 1255000, 500⟩ },
   { track 1262000 .rack 310 4500 3500 with marker := some ⟨4, 2000000, 500⟩ },
   { track 3480000 .rack 420 4000 3500 with
       platform := some ⟨.left, 3470000, 3545000, 2⟩, marker := some ⟨5, 3600000, 500⟩ },
   track 4100000 .rack 480 3500 3000]

/-- A bank of a line of segments. -/
def bankOf (id lineEnd : Nat) (st : BankState) (gs : List Segment) : Bank where
  state := st
  header := some ⟨id, gs.length, lineEnd⟩
  places := gs.map some ++ List.replicate (128 - gs.length) none
  outcome := .passed

/-- The configuration of 11 (the operating sequences). -/
def car : ConfigRecord :=
  { ConfigRecord.powerOn with
    carId := 1, carLength := 30000, pinionOffset := 15000, readerOffset := 3000, lWhl := 8000, lPin := 6250
    rSv := 5400, rEm := 5600, vCar := 8000, vRl := 1500, holdLevel := 48, mS := 200, mR := 300, mE := 500 }

/-- A configured car in PARKED at 60,000 mm of line 7 (11.1, step 6), nothing in transmission. -/
def parked : State :=
  { idle with
    cfg := car
    configured := true
    line := ⟨bankOf 7 5000000 .active line7, Bank.powerOn, some .a⟩
    odo := { Odometry.powerOn with position := 60000, uncertainty := 300, localisation := .localised }
    sup := { Supervisor.powerOn with mode := .parked } }

/-- The same car in LINE with the radio OK and every leaf locked. -/
def running : State :=
  { parked with
    sup := { parked.sup with mode := .line, drive := ⟨.up, true, 0⟩ }
    radio := { parked.radio with state := .ok, lastGood := some 0 }
    ent := { parked.ent with allLocked := true } }

/-- The car with its record at a place. -/
def at_ (position u : Nat) (s : State) : State :=
  { s with odo := { s.odo with position := position, uncertainty := u } }

/-- Increments of one counter, all at one time. -/
def increments (n : Nat) (t : Time) (c : Counter) (e : Edge) (s : State) : State :=
  (List.range n).foldl (fun u _ => after (exec (.increment t c e) u)) s

/-! ## Well-formed commands -/

theorem test_wf_refuses_no_bits : (Instr.huntFind 0 []).wf = false := by decide
theorem test_wf_refuses_too_many_bits : (Instr.frameCompletion 0 0 (List.replicate 745 true)).wf = false := by
  decide +kernel
theorem test_wf_refuses_a_long_blank_span : (Instr.blankSpanEnd 0 (List.replicate 745 true)).wf = false := by
  decide +kernel
theorem test_wf_refuses_a_long_payload : (Instr.unknownKind 0 0 0xFF (List.replicate 113 0)).wf = false := by decide +kernel
theorem test_wf_refuses_a_catalogue_kind : (Instr.unknownKind 0 0 0x3C []).wf = false := by decide
theorem test_wf_refuses_a_long_note : (Instr.uplinkNote 0 0 (List.replicate 113 0x41)).wf = false := by decide +kernel
theorem test_wf_refuses_a_wide_field : (Instr.configure 0 0 { car with carId := 256 }).wf = false := by decide
theorem test_wf_takes_the_largest :
    (Instr.frameCompletion 0 0 (List.replicate 744 true)).wf = true ∧
    (Instr.unknownKind 0 0 0xFF (List.replicate 112 0)).wf = true ∧ (Instr.configure 0 0 car).wf = true := by
  decide +kernel
theorem test_catalogue_kinds : (Request.all.map fun r => r.kind.toNat) = catalogueKinds := by decide

/-! ## Reset, power-on and the queue -/

theorem test_no_word_spells_a_command (n w : Nat) (s : State) :
    decodeTableWord n w = none ∧ s.withFetchWord n w = s := ⟨rfl, rfl⟩
theorem test_reset_is_power_on : after (exec (.powerOn false false) parked) = State.reset := by decide +kernel
theorem test_power_on_takes_the_straps : (after (exec (.powerOn false true) parked)).link.rate = .r230400 := by decide +kernel
theorem test_core_is_the_step : Sys2Proof.core.step = step := rfl

/-! ## Odometry (01 §1.2, §1.4, §1.6) -/

/-- R10: with g = 80 µm the first increment raises u by 1 mm and leaves credit 920; the thirteenth raises it again. -/
theorem test_growth_of_u :
    let s := increments 12 0 .wheel .forward parked
    let u := increments 1 0 .wheel .forward s
    s.odo.uncertainty = 301 ∧ s.odo.credit = 40 ∧ u.odo.uncertainty = 302 ∧ u.odo.credit = 960 := by decide +kernel

/-- R8: a wheel increment of 8000 µm downhill from 60,000 mm; the pinion is not the reference on ADHESION (R2). -/
theorem test_increment_moves_the_record :
    (increments 1 0 .wheel .backward parked).odo.position = 59992 ∧
    (increments 1 0 .pinion .backward parked).odo.position = 60000 := by decide +kernel

/-- R8: an increment below 0 clamps and loses the record. -/
theorem test_increment_clamps :
    let u := increments 1 0 .wheel .backward (at_ 7 300 parked)
    u.odo.position = 0 ∧ u.odo.localisation = .unlocalised ∧ u.odo.uncertainty = 65535 ∧ u.odo.lossFlag = true := by
  decide +kernel

/-- R18: a span with a difference of 401 mm above agree_tol 400 raises u and sets ODOMETRY_DISAGREE; at 400 it does not. -/
theorem test_agreement_span :
    let s := fun d => { parked with odo := { parked.odo with span := ⟨10000000 + d, 10000000, 10000000⟩ } }
    let far := after (exec (.agreementSpanComplete 0) (s ((parked.cfg.agreeTol : Int) * 1000 + 1)))
    let near := after (exec (.agreementSpanComplete 0) (s ((parked.cfg.agreeTol : Int) * 1000)))
    far.odo.disagree = true ∧ far.odo.uncertainty = 300 + parked.cfg.agreeTol + 1 ∧
    near.odo.disagree = false ∧ near.odo.uncertainty = 300 := by decide +kernel

/-- R3: an entry is stale at the age of 2,000,000 µs. -/
theorem test_ring_entry_stale :
    let s := increments 1 0 .wheel .forward parked
    (after (exec (.ringEntryStale 1999999) s)).odo.whlRing = [⟨0, .up, false⟩] ∧
    (after (exec (.ringEntryStale 2000000) s)).odo.whlRing = [⟨0, .up, true⟩] := by decide +kernel

/-- R4: standstill is declared when the newest entry is t_still old. -/
theorem test_standstill_declared :
    let s := { increments 1 0 .wheel .forward parked with odo := { (increments 1 0 .wheel .forward parked).odo with
      standstill := false } }
    let t := BitVec.ofNat 32 (parked.cfg.tStill * 1000)
    (after (exec (.standstillDeclared (t - 1)) s)).odo.standstill = false ∧
    (after (exec (.standstillDeclared t) s)).odo.standstill = true := by decide +kernel

/-- 01 §1.2, worked case: 27 entries over 187,500 µs give 867 mm/s; then one entry of 40 ms gives 157. -/
theorem test_speed_on_rack :
    let ring := (List.range 27).map fun k => (⟨BitVec.ofNat 32 (187500 * k / 26), .up, false⟩ : RingEntry)
    let c := { car with window := 200 }
    speedEstimate 190000 c 6250 0 ring = 867 ∧ speedEstimate 240000 c 6250 867 [⟨200000, .up, false⟩] = 157 := by
  decide +kernel

/-- 01 §1.6, worked case: the car with marker 17 ahead, one wheel increment before the edge. -/
def markerCase : State :=
  { parked with
    cfg := { car with markerAccuracy := 200 }
    line := ⟨bankOf 7 5000000 .active
      [{ track 0 .adhesion 0 8000 8000 with marker := some ⟨17, 2412000, 500⟩ }], Bank.powerOn, some .a⟩
    odo := { parked.odo with
      position := 2414861, remainder := 250, uncertainty := 340, lastRefDir := some .up
      whlRing := [⟨4992000, .up, false⟩, ⟨5000000, .up, false⟩] } }

theorem test_marker_edge :
    let k := (after (exec (.markerDetectorEdge 5003000) markerCase)).odo.capture
    k.map (fun c => (c.edgeUm, c.travel, c.uncertainty, c.expected.map Marker.id)) =
      some (2414861250, 3000, 340, some 17) := by decide +kernel

theorem test_match_completion :
    let s := after (exec (.markerDetectorEdge 5003000) markerCase)
    let s2 := { s with odo := { s.odo with position := 2414877, remainder := 250 } }
    let u := after (exec (.matchCompletion 5010000) s2)
    u.odo.position = 2415013 ∧ u.odo.remainder = 0 ∧ u.odo.uncertainty = 200 ∧
    u.odo.log = [⟨5003000, 17, 2414877, 2415013, true⟩] ∧
    u.link.tx = some (.report ⟨1, 5010000, 0, .marker 17 135⟩) := by decide +kernel

theorem test_set_position :
    let u := after (exec (.setPosition 5 9 70000 300) parked)
    u.odo.position = 70000 ∧ u.odo.uncertainty = 300 ∧ u.odo.localisation = .localised ∧
    u.link.tx = some (.reply ⟨0x90, 9, .done .nothing⟩) := by decide +kernel

theorem test_set_position_beyond_the_line :
    (after (exec (.setPosition 5 9 5000001 300) parked)).link.tx = some (.reply ⟨0x90, 9, .badField 1⟩) := by decide +kernel

theorem test_read_odometry :
    (after (exec (.readOdometry 5 9) parked)).link.tx =
      some (.reply ⟨0x91, 9, .done (.odometry { parked.odometryReadout with
        segment := some 0, expected := some 1, reference := .wheel, movement := 0 })⟩) := by decide +kernel

theorem test_read_marker_log :
    let l : List LogEntry := [⟨1, 17, 5, 6, true⟩]
    (after (exec (.readMarkerLog 5 9) { parked with odo := { parked.odo with log := l } })).link.tx =
      some (.reply ⟨0x92, 9, .done (.markerLog l 1)⟩) := by decide +kernel

/-! ## Line table banks (02 §2.3 to §2.6) -/

/-- The worked lookups of 02 §2.6. -/
theorem test_lookups :
    let seg := fun p : Int => (parked.segmentAt p).map SegView.index
    let run := fun d => (parked.stretch d 3462000 3500000).map SegView.index
    [seg 1255400, seg 3479999, seg 3480000, seg 5000000, seg 5200000] = [some 2, some 3, some 4, some 5, some 5] ∧
    run .up = [3, 4] ∧ run .down = [4, 3] ∧
    (parked.platforms 3475000 3510000).map (fun p => p.station) = [2] ∧ parked.platforms 3465000 3510000 = [] := by
  decide +kernel

theorem test_load_header :
    let u := after (exec (.loadHeader 5 9 7 6 5000000) parked)
    u.line.b.header = some ⟨7, 6, 5000000⟩ ∧ u.line.b.state = .loading ∧ u.line.a.state = .active := by decide +kernel

theorem test_load_header_count_too_big :
    (after (exec (.loadHeader 5 9 7 129 5000000) parked)).link.tx = some (.reply ⟨0x98, 9, .badField 2⟩) := by
  decide +kernel

/-- Segment 4 of line 7 as LOAD SEGMENT fields. -/
def fields4 : SegmentFields where
  index := 4
  start := 3480000
  kind := 1
  pull := 420
  limitUp := 4000
  limitDown := 3500
  platformPresent := 1
  platformSide := 0
  platformFrom := 3470000
  platformTo := 3545000
  station := 2
  markerPresent := 1
  markerId := 5
  markerPosition := 3600000
  markerWindow := 500

theorem test_load_segment :
    let u := after (exec (.loadSegment 5 9 fields4) parked)
    u.line.b.places[4]? = some line7[4]? ∧ u.link.tx = some (.reply ⟨0x99, 9, .done .nothing⟩) := by decide +kernel

theorem test_load_segment_kind_3 :
    (after (exec (.loadSegment 5 9 { fields4 with kind := 3 }) parked)).link.tx =
      some (.reply ⟨0x99, 9, .badField 3⟩) := by decide +kernel

/-- 02 §2.7, worked example, steps 7, 9 and 11. -/
theorem test_check_bank :
    let wrong := line7.set 4 { (line7.getD 4 (track 0 .rack 0 0 0)) with marker := some ⟨5, 3475000, 500⟩ }
    let missing := { bankOf 7 5000000 .loading wrong with places := (wrong.take 5).map some ++ List.replicate 123 none }
    let verdict := fun b : Bank =>
      (after (exec (.checkBank 5 9) { parked with line := { parked.line with b := b } })).line.b.outcome
    verdict missing = .failed .notLoaded (some 5) ∧
    verdict (bankOf 7 5000000 .loading wrong) = .failed .markerOutside (some 4) ∧
    verdict (bankOf 7 5000000 .loading line7) = .passed := by decide +kernel

theorem test_swap_bank :
    let s := { parked with line := { parked.line with b := bankOf 7 5000000 .checked line7 } }
    let u := after (exec (.swapBank 5 9) s)
    u.line.active = some .b ∧ u.line.a.state = .checked ∧ u.line.b.state = .active ∧ u.odo.position = 60000 := by
  decide +kernel

theorem test_swap_bank_while_running :
    let s := { running with line := { running.line with b := bankOf 7 5000000 .checked line7 } }
    (after (exec (.swapBank 5 9) s)).link.tx = some (.reply ⟨0x9B, 9, .refusedState⟩) := by decide +kernel

theorem test_read_segment :
    (after (exec (.readSegment 5 9 0 4) parked)).link.tx =
      some (.reply ⟨0x9C, 9, .done (.bytes ([3, 0, 1] ++ segmentFieldBytes fields4))⟩) := by decide +kernel

theorem test_read_bank_state :
    (after (exec (.readBankState 5 9) parked)).link.tx =
      some (.reply ⟨0x9D, 9, .done (.bankState ⟨.active, .active, some ⟨7, 6, 5000000⟩, 6, .passed⟩
        ⟨.empty, .standby, none, 0, .unchecked⟩)⟩) := by decide +kernel

/-! ## Valley radio (03) and route records (04) -/

/-- R40: the CRC of the nine characters 123456789. -/
theorem test_crc : crc16 [0x31, 0x32, 0x33, 0x34, 0x35, 0x36, 0x37, 0x38, 0x39] = 0x29B1#16 := by decide +kernel

/-- A frame of line 7 with number 0, written out from 10 §10.7: slot 1 VALLEY TIME 86,400,250, slot 2 AUTHORITY seq 12,
UP, end 1,240,000. -/
def frame7 : List Byte :=
  [0x47, 0x9C, 0x00, 0x00, 0x07, 0x05, 0x00, 0x05, 0x26, 0x5C, 0xFA, 0x00, 0x00, 0x00, 0x00, 0x00] ++
  [0x00, 0x00, 0x00, 0x00, 0x00, 0x00, 0x00, 0x00, 0x00, 0x01, 0x00, 0x0C, 0x00, 0x12, 0xEB, 0xC0] ++
  [0x00, 0x00, 0x00, 0x00, 0x00, 0x00, 0x00, 0x00, 0x00, 0x00, 0x00, 0x00, 0x00, 0xB3, 0x42, 0xFF]

/-- The car with its framer LOCKED and settled before a frame of a given number, `n` of its bits received. -/
def locked (number n : Nat) : State :=
  { parked with
    radio := { Radio.powerOn with
      sync := .locked, expected := some number, settled := true, settling := 8, bits := (bitsOfBytes frame7).take n } }

theorem test_hunt_find :
    let s := { parked with radio := { parked.radio with bits := (bitsOfBytes frame7).take 23 } }
    let u := after (exec (.huntFind 5 [false]) s)
    u.radio.sync = .confirm ∧ u.radio.expected = some 1 := by decide +kernel

theorem test_search_point_advance :
    let s := { parked with radio := { parked.radio with bits := List.replicate 23 true } }
    let u := after (exec (.searchPointAdvance 5 true) s)
    u.radio.sync = .hunt ∧ u.radio.searchPoint = 1 := by decide +kernel

/-- R44: the third blank span of ones sets CARRIER_BLANK. -/
theorem test_blank_span_end :
    let s := { parked with radio := { parked.radio with
      bits := List.replicate 23 true, spanBits := 383, spanZeros := 3, blankCount := 2 } }
    let u := after (exec (.blankSpanEnd 5 [true]) s)
    u.radio.blankCount = 3 ∧ (u.notice.entry .carrierBlank).active = true ∧
    (after (exec (.blankSpanEnd 5 [false]) s)).radio.blankCount = 0 := by decide +kernel

/-- A good settled frame refreshes the radio state and delivers slot 1 before slot 2 (R47, R54; 03 §3.6 with transit
allowance 40 and capture at local ms 0). -/
theorem test_frame_completion :
    let u := after (exec (.frameCompletion 0 0 [true]) (locked 0 383))
    u.radio.state = .ok ∧ u.radio.goodFrames = 1 ∧
    u.radio.offset = some (BitVec.ofNat 32 86400250 - BitVec.ofNat 32 u.cfg.transit) ∧
    u.route.authority = some ⟨12, .up, 1240000, none, none⟩ := by decide +kernel

/-- R43, R45: the same frame where number 1 is expected is a wrong word. -/
theorem test_frame_with_a_wrong_word :
    let u := after (exec (.frameCompletion 0 0 [true]) (locked 1 383))
    u.radio.alignErrors = 1 ∧ u.radio.goodFrames = 0 ∧ u.radio.sync = .locked := by decide +kernel

/-- 03 §3.6, worked example: the offset, and a jump of 650 ms. -/
theorem test_valley_time :
    let s := { parked with cfg := { car with transit := 40 }, radio := { parked.radio with captureMs := 1203456 } }
    let u := s.takeValleyTime 86400250
    let v := State.takeValleyTime 87000900 { u with radio := { u.radio with captureMs := 1803456 } }
    u.radio.offset = some 85196754 ∧ v.radio.offset = some 85197404 ∧
    (v.notice.entry .valleyTimeJump).latched = true ∧ (u.notice.entry .valleyTimeJump).latched = false := by
  decide +kernel

/-- R58's run of the acknowledgement ring. -/
theorem test_ack_ring :
    let r := ringEnter [⟨12, true⟩, ⟨14, true⟩, ⟨15, false⟩, ⟨20, true⟩] ⟨14, true⟩
    r = [⟨12, true⟩, ⟨15, false⟩, ⟨20, true⟩, ⟨14, true⟩] ∧
    ringEnter r ⟨31, false⟩ = [⟨15, false⟩, ⟨20, true⟩, ⟨14, true⟩, ⟨31, false⟩] ∧
    ringEnter (ringEnter r ⟨31, false⟩) ⟨15, true⟩ = [⟨20, true⟩, ⟨14, true⟩, ⟨31, false⟩, ⟨15, true⟩] := by decide

/-- 04 §4.3, worked example, steps 1 to 7 but for step 6, which `test_authority_expiry` makes. -/
theorem test_authorities :
    let s := { parked with line := { parked.line with a := bankOf 7 11960000 .active line7 } }
    let a := fun (n : Byte) (e : Nat) => (⟨n, .up, e, none, none⟩ : Authority)
    let s1 := s.takeAuthority (a 126 8400000)
    let s3 := s1.takeAuthority { a 127 7950000 with release := some 800 }
    s1.takeAuthority (a 126 8400000) = s1 ∧ s3.route.authority = some ⟨127, .up, 7950000, some 800, none⟩ ∧
    (s3.takeAuthority (a 126 8400000)).route = s3.route ∧ (s3.takeAuthority (a 127 12500000)) = s3 ∧
    (s.takeAuthority (a 5 12500000)).route.authority = some (a 5 11960000) := by decide +kernel

/-- 04 §4.4, worked example: a full list and the overflow cap. -/
theorem test_overflow_cap :
    let full := (List.range 16).map fun k => (⟨k + 1, 100 * (k + 1), 100 * (k + 1) + 50, 3000, none⟩ : Restriction)
    let s := { parked with
      line := { parked.line with a := bankOf 7 11960000 .active line7 }, route := { Route.powerOn with restrictions := full } }
    let s1 := (s.setRestriction ⟨40, 6100000, 6300000, 2000, none⟩).2
    let s2 := (s1.setRestriction ⟨41, 7000000, 7050000, 2500, none⟩).2
    let s3 := (s2.setRestriction ⟨42, 9800000, 12200000, 18000, none⟩).2
    let s5 := s3.liftRestriction 3
    let s6 := s5.setRestriction ⟨40, 6100000, 6300000, 2000, none⟩
    let s7 := (s6.2.setRestriction ⟨41, 7000000, 7050000, 2500, none⟩).2
    let s8 := (s7.setRestriction ⟨42, 9800000, 12200000, 18000, none⟩).2
    [s1.route.cap, s2.route.cap, s3.route.cap, s5.route.cap, s6.2.route.cap, s7.route.cap, s8.route.cap] =
      [some 2000, some 2000, some 2000, none, none, some 2500, some 2500] ∧
    s6.1 = true ∧ s5.route.restrictions.length = 15 ∧ (s3.notice.entry .restrictionCap).active = true ∧
    (s5.notice.entry .restrictionCap).active = false := by decide +kernel

/-- The car with valley time known, the offset 0, and an authority and a restriction that expire at 2 ms. -/
def expiring : State :=
  { parked with
    radio := { parked.radio with offset := some 0 }
    route := ⟨some ⟨127, .up, 100, none, some 2⟩, [⟨1, 10, 20, 500, some 2⟩, ⟨2, 10, 20, 500, none⟩], some 700, [], 4⟩ }

theorem test_authority_expiry :
    (after (exec (.authorityExpiry 1999) expiring)).route = expiring.route ∧
    (after (exec (.authorityExpiry 2000) expiring)).route.authority = none ∧
    ((after (exec (.authorityExpiry 2000) expiring)).notice.entry .authorityExpired).latched = true := by decide +kernel

theorem test_restriction_expiry :
    let u := after (exec (.restrictionExpiry 2000) expiring)
    u.route.restrictions = [⟨2, 10, 20, 500, none⟩] ∧ u.route.cap = none ∧ u.route.version = 5 ∧
    (after (exec (.restrictionExpiry 1999) expiring)).route = expiring.route := by decide +kernel

theorem test_local_ms_advance :
    let u := after (exec (.localMsAdvance 2000) expiring)
    u.clock = ⟨2000, 2, 0⟩ ∧ u.route.authority = none ∧ u.route.restrictions = [⟨2, 10, 20, 500, none⟩] := by
  decide +kernel

/-- 11.6, steps 2 and 3: RADIO_DEGRADED at L + t_freeze, RADIO_LOST at L + t_lost with VALLEY_UNHEARD cleared. -/
theorem test_radio_timeouts :
    let s := { running with radio := { running.radio with unheard := true } }
    let t := fun ms : Nat => BitVec.ofNat 32 (ms * 1000)
    let f := after (exec (.tFreezeExpiry (t 2000)) s)
    let l := after (exec (.tLostExpiry (t 20000)) f)
    (after (exec (.tFreezeExpiry (t 2000 - 1)) s)).radio.state = .ok ∧ f.radio.state = .degraded ∧
    (after (exec (.tLostExpiry (t 20000 - 1)) f)).radio.state = .degraded ∧
    l.radio.state = .lost ∧ l.radio.unheard = false := by decide +kernel

/-- R196: slot 1 of the uplink frame of the car of 11.1, step 6, and the idle fill of slot 2's kind. -/
theorem test_uplink_frame :
    let f := (after (exec (.uplinkFrameBuild 5) parked)).radio.uplinkFrame
    f.take 3 = [0x47, 0x9C, 0x00] ∧ (f.drop 3).take 9 = [0x00, 0x07, 0x81, 0x01, 0x00, 0xEA, 0x60, 0x01, 0x2C] ∧
    f.length = 48 ∧ byteAt f 14 = 1 ∧ byteAt f 47 = 0xFF := by decide +kernel

theorem test_read_authority :
    (after (exec (.readAuthority 1000 9) expiring)).link.tx =
      some (.reply ⟨0xA0, 9, .done (.authority ⟨expiring.route.authority, true, some 1, true⟩)⟩) := by decide +kernel

theorem test_read_restrictions :
    (after (exec (.readRestrictions 5 9 1) expiring)).link.tx =
      some (.reply ⟨0xA1, 9, .done (.restrictions ⟨4, 2, [⟨2, 10, 20, 500, none⟩], some 700, [], true⟩)⟩) := by
  decide +kernel

theorem test_read_radio :
    (after (exec (.readRadio 5 9) expiring)).link.tx =
      some (.reply ⟨0xA2, 9, .done (.radio { (expiring.advance 5).radioReadout with
        sync := .hunt, state := .lost, age := none, lineId := 7, carId := 1, notes := 0, ringCount := 0 })⟩) := by
  decide +kernel

theorem test_clear_radio_counters :
    let s := { parked with radio := { parked.radio with goodFrames := 3, crcErrors := 4, alignErrors := 5, huntRestarts := 6 } }
    (after (exec (.clearRadioCounters 5 9) s)).radio = parked.radio := by decide +kernel

theorem test_uplink_note :
    (after (exec (.uplinkNote 5 9 [0x41]) parked)).radio.notes = [[0x41]] ∧
    (after (exec (.uplinkNote 5 9 [0x61]) parked)).link.tx = some (.reply ⟨0xA4, 9, .badField 1⟩) := by decide +kernel

/-! ## Gradient ceilings and braking curves (05) -/

/-- 05 §5.4, worked case: gradient ceilings along a descent. -/
theorem test_gradient_ceilings :
    let c := { car with dG := 6000, aFloor := 300 }
    ([-200, 250, 420, 480, 500].map fun p => gradeSpeed c p) = [8197, 6146, 4215, 3271, 2889] ∧
    ([-200, 250, 420, 480, 500].map fun p => netService c p) = [5400, 2948, 1281, 692, 496] ∧
    pullDown .down ⟨0, .rack, none, 1, 1, none, none⟩ = 500 := by decide +kernel

/-- 05 §5.7, worked cases: the staircase priced, and a descent on rack. -/
theorem test_permitted_speeds :
    let c := { car with rSv := 1200, aFloor := 300 }
    let d := { car with aFloor := 300 }
    ([(6000, 5500), (45000, 4500), (60000, 4000), (80000, 3500), (100000, 3000), (200000, 0)].map fun (x : Nat × Nat) =>
      permittedAt c 0 x.1 4800 x.2) = [5755, 10804, 12185, 13882, 15000, 15000] ∧
    permittedAt d 420 9000 3840 1500 = 3933 ∧ permittedAt d 420 4000 3840 1500 = 1630 ∧
    permittedAt d 420 3840 3840 1500 = 1500 := by decide +kernel

/-- 05 §5.5, worked case: the ceiling on a rack foot; with RADIO_LOST it is 1500. -/
theorem test_ceiling_on_a_rack_foot :
    let s := at_ 3496000 4000
      { running with
        odo := { running.odo with engagement := .unproven 2 }
        route := { running.route with restrictions := [⟨9, 3480000, 3520000, 3500, none⟩] } }
    let r := (after (exec (.supervisionPass 8000) s)).sup.pass
    let l := (after (exec (.supervisionPass 8000) { s with radio := { s.radio with state := .lost } })).sup.pass
    (r.ceiling, r.term, r.termSource) = (3000, .engagementCap, some 3) ∧ (l.ceiling, l.term) = (1500, .radioLost) := by
  decide +kernel

/-- 11.1, step 10: the first pass in LINE. -/
theorem test_first_pass_in_line :
    let s := { running with
      sup := { parked.sup with mode := .line }
      route := { running.route with authority := some ⟨12, .up, 1240000, none, none⟩ } }
    let u := after (exec (.supervisionPass 8000) s)
    (u.sup.pass.ceiling, u.sup.pass.term, u.sup.pass.termSource) = (8000, .segment, some 0) ∧
    u.sup.pass.scanEnd = some (1240000, .authorityEnd) ∧
    (u.sup.pass.targets.map fun x => (x.kind, x.position, x.speed)) =
      [(.segment, 410000, 7000), (.authorityEnd, 1240000, 0)] ∧
    u.sup.demands = ⟨64, .release, .release⟩ := by decide +kernel

/-! ## Supervision (06) -/

/-- 06 §6.3, worked case: a service intervention and its release. -/
theorem test_levels :
    levelAfter car .none 3200 3500 = .none ∧ levelAfter car .none 3260 3240 = .warning ∧
    levelAfter car .warning 3300 3080 = .service ∧ levelAfter car .service 3250 2990 = .service ∧
    levelAfter car .service 1500 1500 = .service ∧ levelAfter car .service 1190 1500 = .none := by decide

/-- 06 §6.4, worked case, step 2: no authority, v = 2400 trips with OVERSPEED. -/
theorem test_trip :
    let ring := (List.range 10).map fun k => (⟨BitVec.ofNat 32 (3333 * k), .up, false⟩ : RingEntry)
    let s := { running with odo := { running.odo with whlRing := ring } }
    let u := after (exec (.supervisionPass 30000) s)
    u.sup.pass.speed = 2401 ∧ u.sup.pass.permitted = 0 ∧ u.sup.mode = .tripped ∧ u.sup.level = .emergency ∧
    (u.sup.trip.map TripRecord.causes) = some [.overspeed] ∧ (u.notice.entry .trip).latched = true := by decide +kernel

/-- 06 §6.5, worked case: 598 mm/s² is below 641 and 664 is not. -/
theorem test_effort_window :
    let c := { car with kEff := 50 }
    requiredDeceleration c 1281 = 641 ∧ measuredDeceleration 3000 2100 1504 = 598 ∧
    measuredDeceleration 3000 2000 1504 = 664 := by decide

/-- R119: before t_check the judgement does nothing; at t_check it is that pass, here one at standstill. -/
theorem test_effort_window_judgement :
    let s := { running with sup := { running.sup with effort := .running 0 3000 } }
    let t := BitVec.ofNat 32 (car.tCheck * 1000)
    (after (exec (.effortWindowJudgement (t - 1)) s)).sup = s.sup ∧
    (after (exec (.effortWindowJudgement t) s)).sup.effort = .idle := by decide +kernel

theorem test_set_mode_parked :
    let s := { parked with sup := Supervisor.powerOn }
    (after (exec (.setModeParked 5 9) s)).sup.mode = .parked ∧
    (after (exec (.setModeParked 5 9) { s with configured := false })).link.tx =
      some (.reply ⟨0x81, 9, .refusedState⟩) := by decide +kernel

theorem test_set_mode_line :
    (after (exec (.setModeLine 5 9) parked)).sup.mode = .line ∧
    (after (exec (.setModeLine 5 9) { parked with odo := Odometry.powerOn })).sup.mode = .parked := by decide +kernel

theorem test_set_mode_shunt :
    (after (exec (.setModeShunt 5 9) { parked with odo := Odometry.powerOn })).sup.mode = .shunt ∧
    (after (exec (.setModeShunt 5 9) idle)).sup.mode = .init := by decide +kernel

theorem test_drive_state :
    (after (exec (.driveState 5 9 1 1 80) parked)).sup.drive = ⟨.down, true, 64⟩ ∧
    (after (exec (.driveState 5 9 3 1 80) parked)).link.tx = some (.reply ⟨0x82, 9, .badField 1⟩) := by decide +kernel

/-- 11.7, steps 3 and 5. -/
theorem test_release_trip :
    let s := { parked with sup := { parked.sup with mode := .tripped, level := .emergency, modeBefore := some .shunt } }
    let u := after (exec (.releaseTrip 5 9) s)
    u.sup.mode = .shunt ∧ u.sup.level = .none ∧ u.sup.trip = none ∧
    (after (exec (.releaseTrip 5 9) { s with odo := { s.odo with standstill := false } })).sup.mode = .tripped := by
  decide +kernel

/-- 11.9: the forced and latched sets of the six steps. -/
theorem test_detector_test :
    let s := { parked with notice := Notice.powerOn, radio := { parked.radio with state := .ok } }
    let test := fun u : State => { after (exec (.detectorTest 5 9) u) with link := s.link }
    let u1 := test s
    let u2 := test u1
    let u3 := test u2
    let u4 := test u3
    let u5 := test u4
    let u0 := test u5
    [u1, u2, u3, u4, u5, u0].map (fun u => u.notice.latchedSet.toNat) =
      [2 ^ 6 + 2 ^ 7, 2 ^ 6 + 2 ^ 7 + 2 ^ 0 + 2 ^ 1, 2 ^ 8 + 2 ^ 5, 2 ^ 8 + 2 ^ 5 + 2 ^ 4 + 2 ^ 14,
        2 ^ 8 + 2 ^ 5 + 2 ^ 4 + 2 ^ 14 + 2 ^ 18, 0] ∧
    u0.sup.testStep = 0 ∧ u5.notice.attention = true ∧ u0.notice.attention = false := by decide +kernel

theorem test_clear_fault_record :
    let s := { parked with sup := { parked.sup with faultRecord := some ⟨.test, none, 5, 6⟩, faultSeen := true } }
    (after (exec (.clearFaultRecord 5 9) s)).sup = parked.sup := by decide +kernel

theorem test_read_fault_record :
    (after (exec (.readFaultRecord 5 9) parked)).link.tx =
      some (.reply ⟨0x86, 9, .done (.faultRecord none false car.enables)⟩) := by decide +kernel

theorem test_read_trip_record :
    (after (exec (.readTripRecord 5 9) parked)).link.tx = some (.reply ⟨0x87, 9, .done (.tripRecord .parked none)⟩) := by
  decide +kernel

theorem test_read_lookahead :
    (after (exec (.readLookahead 5 9) parked)).link.tx =
      some (.reply ⟨0x88, 9, .done (.lookahead PassResults.powerOn)⟩) := by decide +kernel

/-! ## Brake outputs (07) -/

/-- R130, R132: the first write of a new channel while slot 33 is emitted places slots 37 to 68, next start 69. -/
theorem test_pattern_write :
    let s := { parked with
      brake := { parked.brake with slotNumber := 33, started := true }
      sup := { parked.sup with prepared := ⟨some 64, some .release, none⟩ } }
    let u := after (exec (.patternWrite 5 .service) s)
    let v := after (exec (.patternWrite 5 .band) s)
    u.brake.service.addressing = .relative 69 ∧ (u.brake.service.slots.filter Slot.energised).length = 32 ∧
    u.brake.service.slots[36]? = some ⟨false, true, false⟩ ∧ u.brake.service.slots[37]? = some ⟨true, true, true⟩ ∧
    u.brake.service.slots[4]? = some ⟨true, true, true⟩ ∧ v.brake.band.slots[38]? = some ⟨true, true, true⟩ ∧
    v.brake.band.slots[39]? = some ⟨false, true, true⟩ ∧ u.sup.prepared.service = none := by decide +kernel

/-- 07 §7.5, worked example: a write at distance 165 − 167 is a copy fault. -/
theorem test_late_write :
    let band := { BrakeChannel.singlePowerOn with addressing := .relative 165, latest := .single .release }
    let s := fun n : BitVec 32 => { parked with
      brake := { parked.brake with slotNumber := n, started := true, band := band }
      sup := { parked.sup with prepared := ⟨none, some .release, none⟩ } }
    let late := after (exec (.patternWrite 5 .band) (s 167))
    late.brake.band.lastFault = .copy ∧ late.brake.band.addressing = .absolute ∧ late.sup.outputFault = true ∧
    (after (exec (.patternWrite 5 .band) (s 164))).brake.band.addressing = .relative 197 := by decide +kernel

/-- 07 §7.5, worked example: slot 165 starves under RELEASE, slot 166 does not again. -/
theorem test_slot_period :
    let band := { BrakeChannel.singlePowerOn with latest := .single .release, writeSlot := 129 }
    let s := { parked with brake := { parked.brake with slotNumber := 164, started := true, band := band } }
    let u := after (exec (.slotPeriodStart 5) s)
    let v := after (exec (.slotPeriodStart 255) u)
    u.brake.slotNumber = 165 ∧ u.brake.band.lastFault = .starved ∧ u.brake.band.run = 1 ∧ u.sup.outputFault = true ∧
    v.brake.band.run = 2 ∧ (v.notice.entry .outputFault).count = 1 := by decide +kernel

theorem test_channel_idle :
    let band := { BrakeChannel.singlePowerOn with addressing := .relative 40, writeSlot := 8 }
    let s := fun n : BitVec 32 => { parked with brake := { parked.brake with slotNumber := n, band := band } }
    (after (exec (.channelIdle 5 .band) (s 72))).brake.band.addressing = .relative 40 ∧
    (after (exec (.channelIdle 5 .band) (s 73))).brake.band.addressing = .absolute := by decide +kernel

/-! ## Passenger entrances (08) -/

/-- A closed and proven leaf: position 20 with odd parity. -/
def closedLeaf : LeafInput := ⟨true, 41, true⟩

/-- Eight like inputs. -/
def eight (x : LeafInput) : Eight LeafInput := ⟨x, x, x, x, x, x, x, x⟩

/-- R143: 13 bits, 12 of position and odd parity. -/
theorem test_leaf_input :
    closedLeaf.good = true ∧ closedLeaf.counts = 20 ∧ (⟨true, 40, true⟩ : LeafInput).good = false ∧
    (⟨true, 43, true⟩ : LeafInput).good = false ∧ (⟨false, 41, true⟩ : LeafInput).good = false := by decide

/-- 11.1, step 1: the first cycle with every leaf locked. -/
theorem test_entrance_cycle :
    let u := after (exec (.entranceCycle 20000 (eight closedLeaf)) idle)
    (u.ent.leaves.toList.all fun r => r.state == .closed) = true ∧ u.ent.allLocked = true ∧
    u.ent.releaseLeft = .withheld .mode ∧ u.ent.releaseRight = .withheld .mode ∧ u.notice.nextNumber = 9 := by
  decide +kernel

/-- The car with leaf 5 in a given record. -/
def leaf5 (r : LeafRecord) : State := { parked with ent := { parked.ent with leaves := parked.ent.leaves.set 5 r } }

/-- A leaf read and in a state since local µs time 0. -/
def leafIn (st : LeafState) (ph : Option Phase) (position : Nat) (proven : Bool) : LeafRecord :=
  { LeafRecord.powerOn with
    state := st, phase := ph, position := some position, pending := false, lockProven := proven
    motor := (leafOutputs st ph).1, lock := (leafOutputs st ph).2 }

theorem test_unlock_timeout :
    let s := leaf5 (leafIn .unlocking none 20 true)
    ((after (exec (.unlockTimeout 499999 5) s)).ent.leaves.get 5).state = .unlocking ∧
    ((after (exec (.unlockTimeout 500000 5) s)).ent.leaves.get 5).cause = some .unlockFailed := by decide +kernel

theorem test_lock_timeout :
    let s := leaf5 (leafIn .closing (some .locking) 20 false)
    ((after (exec (.lockTimeout 499999 5) s)).ent.leaves.get 5).state = .closing ∧
    ((after (exec (.lockTimeout 500000 5) s)).ent.leaves.get 5).cause = some .lockNotProven := by decide +kernel

/-- 08 §8.4, worked example, 3010 ms: the stall reference is the held position. -/
theorem test_warning_time_elapsed :
    let s := leaf5 (leafIn .warning none 3580 false)
    let t := BitVec.ofNat 32 (car.warningTime * 1000)
    ((after (exec (.warningTimeElapsed t 5) s)).ent.leaves.get 5).stall = some (3580, t) ∧
    ((after (exec (.warningTimeElapsed (t - 1) 5) s)).ent.leaves.get 5).state = .warning := by decide +kernel

theorem test_reopen_pause_elapsed :
    let s := leaf5 (leafIn .reopening (some .pause) 2620 false)
    ((after (exec (.reopenPauseElapsed 1000000 5) s)).ent.leaves.get 5).state = .closing ∧
    ((after (exec (.reopenPauseElapsed 999999 5) s)).ent.leaves.get 5).state = .reopening := by decide +kernel

/-- 08 §8.4, worked example, 4010 ms: a fall of 0 is an obstacle, target 2300 + 300. -/
theorem test_stall_window_end :
    let s := leaf5 { leafIn .closing (some .driving) 2300 false with stall := some (2300, 0) }
    let r := (after (exec (.stallWindowEnd 200000 5) { s with cfg := { car with openCount := 3600 } })).ent.leaves.get 5
    r.state = .reopening ∧ r.target = some 2600 ∧ r.attempts = 1 := by decide +kernel

/-- 11.4, step 5: OPEN of a GRANTED side unlocks its four leaves. -/
theorem test_entrance_open :
    let s := { after (exec (.entranceCycle 20000 (eight closedLeaf)) idle) with link := idle.link, notice := Notice.powerOn }
    let g := { s with ent := { s.ent with releaseLeft := .granted } }
    let u := after (exec (.entranceOpen 20005 9 0) g)
    u.link.tx = some (.reply ⟨0xA8, 9, .done (.leaves 4)⟩) ∧ (u.ent.leaves.get 0).state = .unlocking ∧
    (u.ent.leaves.get 4).state = .closed ∧
    (after (exec (.entranceOpen 20005 9 0) s)).link.tx = some (.reply ⟨0xA8, 9, .refusedState⟩) := by decide +kernel

/-- 08 §8.4, worked example, time 0: CLOSE of an OPEN leaf gives WARNING. -/
theorem test_entrance_close :
    let u := after (exec (.entranceClose 5 9 1) (leaf5 { leafIn .opened none 3580 false with attempts := 2 }))
    (u.ent.leaves.get 5).state = .warning ∧ (u.ent.leaves.get 5).attempts = 0 ∧
    u.link.tx = some (.reply ⟨0xA8, 9, .done (.leaves 1)⟩) := by decide +kernel

theorem test_isolate_on :
    let u := after (exec (.isolateOn 5 9 5) (leaf5 (leafIn .fault none 20 false)))
    (u.ent.leaves.get 5).state = .isolated ∧
    ((after (exec (.isolateOn 5 9 5) (leaf5 (leafIn .fault none 3000 false)))).ent.leaves.get 5).state = .fault := by
  decide +kernel

theorem test_isolate_off :
    ((after (exec (.isolateOff 5 9 5) (leaf5 (leafIn .isolated none 20 true)))).ent.leaves.get 5).state = .closed ∧
    ((after (exec (.isolateOff 5 9 5) (leaf5 (leafIn .isolated none 20 false)))).ent.leaves.get 5).state = .opened := by
  decide +kernel

theorem test_takeover_request :
    let u := after (exec (.takeoverRequest 5 9 1) parked)
    u.ent.takeoverRight = .pending ∧ u.link.tx = some (.reply ⟨0xAA, 9, .accepted⟩) := by decide +kernel

theorem test_takeover_return :
    let s := leaf5 (leafIn .manual none 3000 false)
    let u := after (exec (.takeoverReturn 5 9 1) { s with ent := { s.ent with takeoverRight := .granted } })
    u.ent.takeoverRight = .none ∧ (u.ent.leaves.get 5).state = .opened ∧ (u.ent.leaves.get 5).returnMark = true := by
  decide +kernel

theorem test_read_entrances :
    (after (exec (.readEntrances 5 9) parked)).link.tx =
      some (.reply ⟨0xAC, 9, .done (.entrances { parked.entrancesReadout with
        allLocked := false, obstructed := false, fault := false, cycleTime := none })⟩) := by decide +kernel

/-! ## Alerts, reports and the control link (09, 10) -/

/-- 09 §9.2, worked example, steps 1 to 3: latching through a tunnel. -/
theorem test_latching :
    let s := { parked with notice := Notice.powerOn }
    let s1 := s.setCondition .radioDegraded true
    let s2 := (s1.setCondition .radioDegraded false).setCondition .radioLost true
    let s3 := after (exec (.ackAlerts 5 9 3) { s2 with notice := { s2.notice with queue := [] } })
    s1.notice.latchedSet = 1 ∧ s2.notice.latchedSet = 3 ∧ s3.notice.latchedSet = 0 ∧
    (s3.notice.entry .radioLost).active = true ∧ s3.notice.attention = false := by decide +kernel

/-- 09 §9.6, worked example: at 24 reports a report is dropped and takes no number. -/
theorem test_overflow_at_a_station :
    let q := (List.range 24).map fun k => (⟨BitVec.ofNat 8 (94 + k), 0, 0, .release .left .granted⟩ : Report)
    let s := { parked with notice := { Notice.powerOn with queue := q, nextNumber := 118 } }
    let u := s.post (.release .left .granted)
    let v := u.grantTransmitter
    u.notice.drops = 1 ∧ u.notice.nextNumber = 118 ∧ v.notice.queue.length = 23 ∧ v.notice.drops = 1 := by decide +kernel

theorem test_ack_alerts_above_20 :
    (after (exec (.ackAlerts 5 9 0x200000) parked)).link.tx = some (.reply ⟨0xB1, 9, .badField 1⟩) := by decide +kernel

theorem test_read_alerts :
    (after (exec (.readAlerts 5 9) idle)).link.tx =
      some (.reply ⟨0xB0, 9, .done (.alerts { idle.alertsReadout with
        latched := 2, attention := true, queued := 0, drops := 0, gapPending := false })⟩) := by decide +kernel

/-- 10 §10.3, worked example: six requests behind a report, then two transmission ends. -/
theorem test_burst_behind_a_report :
    let s := [Instr.readStatus 5 1, .readAlerts 5 2, .readRadio 5 3, .readEntrances 5 4, .readAuthority 5 5,
      .readOdometry 5 6].foldl (fun u c => after (exec c u)) State.reset
    let u := after (exec (.transmissionEnd 5) s)
    s.link.buffer.map Frame.tag = [2, 3, 4, 5] ∧ s.link.waiting.map Reply.tag = some 1 ∧
    (s.notice.entry .linkFrameBad).latched = true ∧
    u.link.buffer.map Frame.tag = [3, 4, 5] ∧ u.link.waiting.map Reply.tag = some 2 ∧
    (match u.link.tx with
      | some (.reply r) => r.tag
      | _ => 0) = 1 := by decide +kernel

/-- R182: IDENTIFY with tag 9 byte by byte, its CRC 0x1D4D low byte first. -/
theorem test_control_bytes :
    let u := [0x5A, 0x00, 0x3C, 0x09, 0x4D, 0x1D].foldl (fun u b => after (exec (.controlByteReceived 5 b false) u)) idle
    u.link.tx = some (.reply ⟨0xBC, 9, .done (.bytes [0x2E, 0x0B, 0x18, 0x00, 0x01, 0x00, 0x70])⟩) ∧
    u.link.reception = .awaitSync := by decide +kernel

theorem test_byte_timeout :
    let s := after (exec (.controlByteReceived 0 0x5A false) idle)
    (after (exec (.byteTimeout 9999) s)).link.reception = .receiving [0x5A] 0 ∧
    (after (exec (.byteTimeout 10000) s)).link.reception = .awaitSync := by decide +kernel

theorem test_transmission_end :
    (after (exec (.transmissionEnd 5) State.reset)).link.tx = none := by decide +kernel

theorem test_unknown_kind :
    (after (exec (.unknownKind 5 9 0x7F []) idle)).link.tx = some (.reply ⟨0xFF, 9, .unknownKind⟩) ∧
    (after (exec (.unknownKind 5 9 0x83 []) idle)).link.tx = some (.reply ⟨0x83, 9, .unknownKind⟩) := by decide +kernel

theorem test_configure :
    let u := after (exec (.configure 5 9 car) idle)
    u.cfg = car ∧ u.configured = true ∧
    (after (exec (.configure 5 9 { car with carId := 0 }) idle)).link.tx = some (.reply ⟨0xB9, 9, .badField 1⟩) := by
  decide +kernel

theorem test_read_configuration :
    (after (exec (.readConfiguration 5 9) idle)).link.tx =
      some (.reply ⟨0xBA, 9, .done (.bytes (0 :: configBytes ConfigRecord.powerOn))⟩) ∧
    (configBytes car).take 5 = [0x01, 0x30, 0x75, 0x98, 0x3A] := by decide +kernel

theorem test_restart :
    let s := { parked with route := { Route.powerOn with cap := some 5 }, notice := Notice.powerOn }
    let u := after (exec (.restart 5 9) s)
    u.route.cap = none ∧ u.odo.position = 60000 ∧ u.sup.mode = .parked ∧ u.notice.latchedSet = 2 ∧
    (after (exec (.restart 5 9) running)).link.tx = some (.reply ⟨0xBB, 9, .refusedState⟩) := by decide +kernel

/-- R194: the status snapshot has 76 bytes. -/
theorem test_read_status : idle.status.length = 76 ∧ parked.status.length = 76 := by decide +kernel

theorem test_identify :
    (after (exec (.identify 5 9) (after (exec (.powerOn true false) idle)))).link.waiting =
      some ⟨0xBC, 9, .done (.bytes [0x2E, 0x0B, 0x18, 0x00, 0x01, 0x01, 0x70])⟩ := by decide +kernel

/-! ## What the blocks leave to each other: bytes sent, orders of reports, quantities of the latest cycle and pass -/

/-- R182, R188: BAD_FIELD 1 to ACK ALERTS with tag 9 on the line, its CRC 0x0909; nothing while the line is idle. -/
theorem test_reply_on_the_line :
    (after (exec (.ackAlerts 5 9 0x200000) parked)).lineBytes = [0x5A, 0x02, 0xB1, 0x09, 0x03, 0x01, 0x09, 0x09] ∧
    (after (exec (.setModeShunt 5 9) idle)).lineBytes.take 5 = [0x5A, 0x01, 0x81, 0x09, 0x02] ∧
    parked.lineBytes = [] := by decide +kernel

/-- R188: the KIND, number, posting time and gap mark of a report, before its contents. -/
theorem test_report_on_the_line :
    let r : Report := ⟨7, 0x01020304, 3, .marker 17 135⟩
    (TxFrame.report r).frame.kind = 0x46 ∧ (TxFrame.report r).frame.tag = 7 ∧
    r.payload.take 5 = [0x04, 0x03, 0x02, 0x01, 0x03] := by
  refine ⟨rfl, rfl, ?_⟩
  simp [Report.payload, le]

/-- R34, R35: a marker and a platform come with the index of the segment that carries them. -/
theorem test_lookups_name_the_segment :
    (parked.markers .down).map (fun m => (m.id, m.segment)) = [(5, 4), (4, 3), (3, 2), (2, 1), (1, 0)] ∧
    (parked.platforms 3475000 3510000).map (fun p => (p.station, p.segment)) = [(2, 4)] := by decide +kernel

/-- R72, step 1 of the worked example: RESTRICTION_REFUSED is reported before the cap. -/
theorem test_refusal_before_the_cap :
    let full := (List.range 16).map fun k => (⟨k + 1, 100 * (k + 1), 100 * (k + 1) + 50, 3000, none⟩ : Restriction)
    let s := { parked with route := { Route.powerOn with restrictions := full }, notice := Notice.powerOn }
    (s.deliver (.set ⟨40, 610000, 630000, 2000, none⟩)).notice.queue.map Report.body =
      [.alert .restrictionRefused .event false (BitVec.ofNat 24 (2 ^ AlertKind.restrictionRefused.number)),
        .alert .restrictionCap .condition false
          (BitVec.ofNat 24 (2 ^ AlertKind.restrictionRefused.number + 2 ^ AlertKind.restrictionCap.number))] := by
  decide +kernel

/-- R18: ODOMETRY_DISAGREE is reported before the POSITION_DEGRADED that its uncertainty brings. -/
theorem test_disagreement_before_degradation :
    let s := { parked with
      notice := Notice.powerOn
      odo := { parked.odo with span := ⟨40000000, 10000000, 10000000⟩ } }
    let kinds := fun r : Report => match r.body with
      | .alert k _ _ _ => some k
      | _ => none
    (s.compareSpan.notice.queue.map kinds) = [some .odometryDisagree, some .positionDegraded] := by decide +kernel

/-- R43, R45, R47: with M lowered below the wrong words in the history, a good frame is counted, refreshes the radio state
and delivers its authority, and its judgement then loses sync. -/
theorem test_correct_word_after_a_lowered_m :
    let s := { locked 0 383 with
      radio := { (locked 0 383).radio with history := List.replicate 8 false }, cfg := { car with m := 2 } }
    let u := after (exec (.frameCompletion 0 0 [true]) s)
    u.radio.sync ≠ .locked ∧ u.radio.huntRestarts = 1 ∧ u.radio.alignErrors = 0 ∧ u.radio.goodFrames = 1 ∧
    u.radio.state = .ok ∧ u.route.authority.map Authority.seq = some 12 := by decide +kernel

/-- R39, R51: the last bit of an alignment word in LOCKED sets the capture time to the captured local ms. -/
theorem test_capture_time :
    (after (exec (.frameCompletion 80000 77001 [true]) (locked 0 15))).radio.captureMs = 77 ∧
    (after (exec (.frameCompletion 80000 76999 [true]) (locked 0 15))).radio.captureMs = 76 ∧
    (after (exec (.frameCompletion 80000 77001 [true]) (locked 0 14))).radio.captureMs = 0 := by decide +kernel

/-- R14: while a capture pends, the marker expected before each reference increment waits with it, once. -/
theorem test_missed_tests_wait :
    let m : Marker := ⟨1, 150000, 800⟩
    let s := { parked with odo := { parked.odo with capture := some (parked.takeCapture 0) } }
    let u := increments 2 0 .wheel .forward s
    u.odo.capture.map Capture.waiting = some [⟨.up, m⟩] ∧ u.odo.missed = 0 := by decide +kernel

/-- R14, R16: a rejected edge makes the tests that waited, the oldest first; a second missed marker degrades the record. -/
theorem test_waiting_tests_after_a_rejection :
    let two : List WaitingTest := [⟨.up, ⟨1, 100000, 800⟩⟩, ⟨.up, ⟨2, 101000, 800⟩⟩, ⟨.up, ⟨3, 150000, 800⟩⟩]
    let s := at_ 120000 300 parked
    let k := { s.takeCapture 0 with expected := none, waiting := two }
    let u := after (exec (.matchCompletion 5) { s with odo := { s.odo with capture := some k } })
    u.odo.missed = 2 ∧ u.odo.lastPassed = some 2 ∧ u.odo.localisation = .degraded ∧ u.odo.capture = none := by
  decide +kernel

/-- R11, R190: a u_max configured at or below u degrades the record at the next change of u, not at a missed marker. -/
theorem test_u_max_from_the_next_change :
    let s := { at_ 154094 300 parked with cfg := { car with uMax := 300, whlRate := 1 }
                                          odo := { (at_ 154094 300 parked).odo with credit := 900 } }
    let u := increments 1 0 .wheel .forward s
    u.odo.missed = 1 ∧ u.odo.localisation = .localised ∧
    (increments 200 0 .wheel .forward s).odo.localisation = .degraded := by decide +kernel

/-- R99: the TEST fault of step 5 carries the position of the latest pass's inputs. -/
theorem test_test_fault_position :
    let s := { parked with
      cfg := { car with enables := 7 }, sup := { parked.sup with testStep := 4, inputPosition := 59990 } }
    (after (exec (.detectorTest 5 9) s)).sup.faultRecord = some ⟨.test, none, 59990, 5⟩ := by decide +kernel

/-- R157, R190: a closed_tol configured since the latest cycle does not yet judge a leaf sensed closed. -/
theorem test_isolation_by_the_latest_cycle :
    let s := leaf5 (leafIn .fault none 20 false)
    let wide := { s with cfg := { car with closedTol := 10 } }
    let narrow := { s with cfg := { car with closedTol := 30 }, ent := { s.ent with closedTol := 10 } }
    ((after (exec (.isolateOn 5 9 5) wide)).ent.leaves.get 5).state = .isolated ∧
    ((after (exec (.isolateOn 5 9 5) narrow)).ent.leaves.get 5).state = .fault := by decide +kernel

/-- R199: the brake tests of a cycle use the hold level of the latest pass. -/
theorem test_hold_level_of_the_latest_pass :
    let s := { parked with sup := { parked.sup with demands := ⟨50, .apply, .apply⟩, holdLevel := 48 } }
    { s with cfg := { car with holdLevel := 60 } }.brakeHolds = s.brakeHolds ∧
    { s with sup := { s.sup with holdLevel := 60 } }.brakeHolds = false := by decide +kernel

/-- R160: an UNLOCALISED car finds no platform. -/
theorem test_no_platform_while_unlocalised :
    let s := at_ 65000 300 parked
    (s.sideExtents .left).map (fun p => p.station) = [1] ∧
    { s with odo := { s.odo with localisation := .unlocalised } }.sideExtents .left = [] := by decide +kernel

/-! ## States and operands that meet the hypotheses of the statements

Each theorem is named after its statement and gives, clause by clause, a state and operands at the ends of the ranges that
the clause takes. -/

/-- A reply that waits. -/
def someReply : Reply := ⟨0xBC, 1, .accepted⟩

/-- A request frame. -/
def someFrame : Frame := ⟨0x3C, 2, []⟩

/-- A report of an authority. -/
def someReport (n : Byte) : Report := ⟨n, 0, 0, .authority 1 0 true⟩

/-- A transmission runs, a reply waits and `n` frames wait. -/
def held (n : Nat) : State :=
  { idle with
    link := { idle.link with
      tx := some (.reply someReply), waiting := some someReply, buffer := List.replicate n someFrame } }

/-- A transmission runs with a waiting reply, waiting frames and waiting reports as given. -/
def sending (w : Option Reply) (b : List Frame) (q : List Report) : State :=
  { idle with
    link := { idle.link with tx := some (.reply someReply), waiting := w, buffer := b }
    notice := { idle.notice with queue := q } }

/-- The receiver within a frame. -/
def receiving (bytes : List Byte) : State := { idle with link := { idle.link with reception := .receiving bytes 0 } }

/-- The part with `n` reports waiting. -/
def queued (n : Nat) : State :=
  { idle with notice := { idle.notice with queue := (List.range n).map fun k => someReport (BitVec.ofNat 8 k) } }

theorem witness_step_runs_front_command : State.reset.pending = [] := rfl

theorem witness_requests_are_buffered_or_answered :
    requestFrame (.identify 5 9) = some (5, ⟨0x3C, 9, []⟩) ∧ (held 3).linkHeld ∧ (held 3).link.buffer.length < 4 ∧
    (held 4).linkHeld ∧ 4 ≤ (held 4).link.buffer.length ∧ idle.linkReady := by decide +kernel

theorem witness_unjudged_requests_change_nothing :
    requestOf 0x7F = none ∧ idle.linkReady ∧ requestOf someFrame.kind = some .identify ∧
    Request.identify.length = some 0 ∧ ([0] : List Byte).length ≠ 0 := by decide +kernel

theorem witness_command_end_settles_the_link :
    (held 1).linkHeld ∧ idle.link.buffer = [] ∧
    (sending none [someFrame] []).link.buffer = [someFrame] ∧ (sending none [someFrame] []).link.waiting = none ∧
    (sending none [someFrame] []).link.tx.isSome = true := by decide +kernel

theorem witness_transmission_end_hands_on :
    let a := sending (some someReply) [] []
    let b := sending (some someReply) [someFrame] []
    let c := sending none [] [someReport 1]
    let d := sending none [] []
    a.link.waiting = some someReply ∧ a.link.buffer = [] ∧ b.link.waiting = some someReply ∧
    b.link.buffer = [someFrame] ∧ c.link.waiting = none ∧ c.link.buffer = [] ∧ c.notice.queue = [someReport 1] ∧
    d.link.waiting = none ∧ d.link.buffer = [] ∧ d.notice.queue = [] := by decide +kernel

theorem witness_frame_bytes_reach_the_buffer :
    (List.replicate 112 (0 : Byte)).length ≤ 112 ∧ idle.link.reception = .awaitSync := by decide +kernel

theorem witness_bytes_are_received :
    idle.link.reception = .awaitSync ∧ (receiving [0x5A]).link.reception = .receiving [0x5A] 0 ∧
    Time.since 10000 0 ≤ 10000 ∧ 10000 ≤ Time.since 10000 0 ∧ Time.since 9999 0 < 10000 ∧
    ([0x5A] : List Byte).length = 1 ∧ 112 < (113 : Byte).toNat ∧ (112 : Byte).toNat ≤ 112 ∧
    2 ≤ ([0x5A, 0] : List Byte).length ∧ ([0x5A, 0] : List Byte).length + 1 < 6 + (byteAt [0x5A, 0] 1).toNat ∧
    ([0x5A, 0, 1, 2] : List Byte).length + 1 < 6 + (byteAt [0x5A, 0, 1, 2] 1).toNat := by decide +kernel

theorem witness_reports_are_numbered_or_dropped :
    (queued 23).notice.queue.length < 24 ∧ 24 ≤ (queued 24).notice.queue.length := by decide +kernel

/-- The four kinds of entry: RADIO_LOST active and latched, CARRIER_BLANK clear, POSITION_DEGRADED latched, OVERSPEED_WARNING forced. -/
theorem witness_alerts_latch :
    let n := (queued 23).notice.setEntry .positionDegraded ⟨false, false, true, 255⟩
    let s := { queued 23 with notice := n.setEntry .overspeedWarning ⟨false, true, true, 1⟩ }
    s.notice.alerts.length = 21 ∧ s.notice.queue.length < 24 ∧ (s.notice.entry .radioLost).active = true ∧
    (s.notice.entry .carrierBlank) = ⟨false, false, false, 0⟩ ∧ (s.notice.entry .positionDegraded).latched = true ∧
    (s.notice.entry .positionDegraded).active = false ∧ (s.notice.entry .positionDegraded).forced = false ∧
    (s.notice.entry .overspeedWarning).forced = true ∧ AlertKind.trip ≠ AlertKind.radioLost := by decide +kernel

theorem witness_ack_alerts_clears_the_named_kinds :
    idle.linkReady ∧ idle.notice.alerts.length = 21 ∧ (0x1FFFFF : BitVec 24).toNat < 2 ^ 21 ∧
    2 ^ 21 ≤ (0x200000 : BitVec 24).toNat := by decide +kernel

theorem witness_reads_change_nothing : idle.linkReady ∧ parked.linkReady := by decide +kernel

theorem witness_indexed_reads_change_nothing :
    parked.linkReady ∧ (1 : Byte).toNat ≤ 1 ∧ (127 : Byte).toNat < 128 ∧ 128 ≤ (128 : Byte).toNat ∧
    2 ≤ (2 : Byte).toNat ∧ (15 : Byte).toNat < 16 ∧ 16 ≤ (16 : Byte).toNat := by decide +kernel

theorem witness_identify_answers_the_identity : idle.linkReady := by decide +kernel

theorem witness_read_configuration_shows_the_record : idle.linkReady ∧ recordFits car = true := by decide +kernel

theorem witness_loads_write_the_standby_bank :
    parked.linkReady ∧ (1 : BitVec 16) ≠ 0#16 ∧ (128 : Byte) ≠ 0#8 ∧ (128 : Byte).toNat ≤ 128 ∧ (1 : BitVec 24) ≠ 0#24 ∧
    128 < (129 : Byte).toNat ∧ segmentBad fields4 = none ∧ segmentBad { fields4 with index := 128 } = some 1 ∧
    segmentBad { fields4 with markerWindow := 0 } = some 15 := by decide +kernel

theorem witness_loaded_segments_read_back :
    let bare := { fields4 with
      platformPresent := 0, platformSide := 0, platformFrom := 0, platformTo := 0, station := 0
      markerPresent := 0, markerId := 0, markerPosition := 0, markerWindow := 0 }
    segmentBad fields4 = none ∧ segmentBad bare = none ∧ fields4.platformPresent ≠ 0#8 ∧
    fields4.markerPresent ≠ 0#8 ∧ bare.platformPresent = 0#8 ∧ bare.platformSide = 0#8 ∧ bare.platformFrom = 0#24 ∧
    bare.platformTo = 0#24 ∧ bare.station = 0#8 ∧ bare.markerId = 0#8 ∧ bare.markerPosition = 0#24 ∧
    bare.markerWindow = 0#16 ∧ parked.line.standbyBank.places.length = 128 := by decide +kernel

/-- The standby bank in a state. -/
def standby (id lineEnd : Nat) (st : BankState) (s : State) : State :=
  { s with line := { s.line with b := bankOf id lineEnd st line7 } }

theorem witness_check_bank_keeps_the_outcome :
    parked.linkReady ∧ parked.line.standbyBank.state = .empty ∧ (standby 7 5000000 .loading parked).linkReady ∧
    (standby 7 5000000 .loading parked).line.standbyBank.state ≠ .empty := by decide +kernel

/-- Both sides of the equivalence occur: line 7 passes, and without its header it does not. -/
theorem witness_bank_passes_exactly_when_sound :
    (bankOf 7 5000000 .loading line7).judge = .passed ∧
    { bankOf 7 5000000 .loading line7 with header := none }.judge ≠ .passed := by decide +kernel

theorem witness_swap_bank_exchanges_the_banks :
    let same := at_ 5000000 300 (standby 7 5000000 .checked parked)
    let other := standby 8 5000000 .checked parked
    let first := { idle with line := { LineStore.powerOn with a := bankOf 7 5000000 .checked line7 } }
    let taken := fun s : State => s.linkReady ∧ (s.sup.mode = .init ∨ (s.sup.mode = .parked ∧ s.odo.standstill = true)) ∧
      s.line.standbyBank.state = .checked
    taken same ∧ (same.line.bank .a).lineId = same.line.standbyBank.lineId ∧
    same.odo.position ≤ same.line.standbyBank.lineEnd ∧ taken other ∧
    (other.line.bank .a).lineId ≠ other.line.standbyBank.lineId ∧ taken first ∧ first.line.active = none ∧
    parked.linkReady ∧ parked.line.standbyBank.state ≠ .checked := by decide +kernel

/-- A ring of 64 entries. -/
def fullRing : List RingEntry := List.replicate 64 ⟨0, .up, false⟩

theorem witness_increments_are_counted :
    let s := { parked with odo := { parked.odo with pinRing := fullRing, whlRing := fullRing } }
    s.link.buffer = [] ∧ s.odo.pinRing.length ≤ 64 ∧ s.odo.whlRing.length ≤ 64 ∧
    edgeDir .forward (decide (signOf s.cfg .pinion = 255)) = some .up ∧
    edgeDir .backward (decide (signOf s.cfg .wheel = 255)) = some .down := by decide +kernel

theorem witness_reference_increment_moves_the_record :
    let low := at_ 8 300 parked
    let lost := at_ 7 300 parked
    let high := at_ 4999992 300
      { parked with line := { parked.line with a := bankOf 7 5000000 .active (line7.take 1) } }
    let d := decide (signOf car .wheel = 255)
    parked.cfg = car ∧ low.link.buffer = [] ∧ edgeDir .backward d = some .down ∧ edgeDir .forward d = some .up ∧
    low.reference = .wheel ∧ low.lineEnd = some 5000000 ∧ incrementOf low.cfg .wheel = 8000 ∧
    high.reference = .wheel ∧ high.lineEnd = some 5000000 ∧ lost.reference = .wheel ∧
    { Odometry.powerOn with credit := 999 }.credit < 1000 := by decide +kernel

theorem witness_due_odometry_events_act :
    let moving := { parked with odo := { parked.odo with standstill := false } }
    let fresh := { parked with odo := { parked.odo with standstill := false, whlRing := [⟨0, .up, false⟩] } }
    let span := fun d n : Nat =>
      { parked with odo := { parked.odo with span := ⟨(10000000 + d : Nat), 10000000, n⟩ } }
    let diff := fun s : State => ((s.odo.span.pin - s.odo.span.whl).natAbs + 999) / 1000
    standsStill 0 moving.cfg moving.referenceRing = true ∧ moving.odo.standstill = false ∧
    standsStill 0 fresh.cfg fresh.referenceRing = false ∧ parked.odo.standstill = true ∧
    (span 0 9999999).odo.span.travel < 10000000 ∧ 10000000 ≤ (span 0 10000000).odo.span.travel ∧
    (span 0 10000000).link.buffer = [] ∧ diff (span (car.agreeTol * 1000) 10000000) ≤ car.agreeTol ∧
    car.agreeTol < diff (span (car.agreeTol * 1000 + 1) 10000000) := by decide +kernel

/-- The car of 01 §1.6 with its capture pending, its record corrected to a place. -/
def captured : State := after (exec (.markerDetectorEdge 5003000) markerCase)

theorem witness_marker_edge_is_captured_or_rejected :
    idle.odo.log.length ≤ 8 ∧ idle.line.active = none ∧
    { parked with odo := { parked.odo with localisation := .unlocalised } }.odo.localisation = .unlocalised ∧
    captured.line.active ≠ none ∧ captured.odo.localisation ≠ .unlocalised ∧ captured.odo.capture ≠ none ∧
    captured.odo.log.length ≤ 8 ∧ parked.line.active ≠ none ∧ parked.odo.localisation ≠ .unlocalised ∧
    parked.odo.capture = none ∧ parked.referenceRing.length ≤ 1 := by decide +kernel

/-- The window of marker 17 made as narrow as the capture's correction of 135,750 µm at u 0 allows, and narrower. -/
theorem witness_match_completion_corrects_the_record :
    let k := fun e w : Nat => { captured with odo := { captured.odo with capture := captured.odo.capture.map fun c =>
      { c with edgeUm := e, uncertainty := 0, expected := some ⟨17, 2412000, w⟩ } } }
    let edge := fun s : State => match s.odo.capture with
      | none => (0 : Int)
      | some c => (c.edgeUm : Int) + c.travel
    let correction := fun s : State => ((2412000 : Int) + s.cfg.readerOffset) * 1000 - edge s
    parked.odo.capture = none ∧ captured.odo.log.length ≤ 8 ∧
    { captured with odo := { captured.odo with localisation := .unlocalised } }.odo.capture ≠ none ∧
    captured.link.buffer = [] ∧ captured.odo.localisation ≠ .unlocalised ∧ captured.lineEnd = some 5000000 ∧
    (captured.odo.capture.map Capture.dir) = some .up ∧
    (correction (k 2414861000 136)).natAbs ≤ 136 * 1000 ∧ (correction (k 2414861000 136)).natAbs = 136000 ∧
    ¬(correction (k 2414861000 135)).natAbs ≤ 135 * 1000 ∧
    (0 : Int) ≤ ((captured.odo.position * 1000 + captured.odo.remainder : Nat) : Int) + correction (k 2414861000 136) ∧
    ((captured.odo.position * 1000 + captured.odo.remainder : Nat) : Int) + correction (k 2414861000 136) ≤
      (5000000 : Int) * 1000 := by decide +kernel

theorem witness_set_position_places_the_car :
    parked.linkReady ∧ parked.sup.mode = .parked ∧ parked.odo.standstill = true ∧ parked.lineEnd = some 5000000 ∧
    (5000000 : BitVec 24).toNat ≤ 5000000 ∧ 5000000 < (5000001 : BitVec 24).toNat ∧ running.linkReady ∧
    running.sup.mode = .line ∧ idle.lineEnd = none := by decide +kernel

/-- A pass at 8 ms of the car in LINE with an authority, and the same with no authority and a moving ring. -/
def guided : State :=
  { running with route := { running.route with authority := some ⟨12, .up, 1240000, none, none⟩ } }

/-- The car in LINE with no authority, having moved at 2400 mm/s. -/
def unguided : State :=
  { running with odo := { running.odo with
      whlRing := (List.range 10).map fun k => (⟨BitVec.ofNat 32 (3333 * k), .up, false⟩ : RingEntry) } }

/-- The causes that a pass at a time meets. -/
def causesAt (t : Time) (s : State) : List Cause :=
  let p := (s.advance t).odometryPass
  let r := p.passResults.1
  p.causesRunning r (p.overrun r).2

theorem witness_pass_trips_on_a_cause :
    unguided.link.buffer = [] ∧ unguided.sup.mode = .line ∧ causesAt 30000 unguided = [.overspeed] ∧
    guided.sup.mode = .line ∧ (guided.route.authority.map Authority.dir) = some .up ∧
    (guided.advance 8000).odometryPass.passResults.1.dir = .up ∧
    { parked with sup := { parked.sup with mode := .shunt } }.sup.mode = .shunt ∧
    ({ guided with route := { guided.route with authority := none } } : State).route.authority = none := by
  decide +kernel

/-- A stop point passed without an authority is a cause, one not reached is none. -/
theorem test_stop_point_overrun :
    let s := fun q => { guided with
      route := { guided.route with authority := none }, sup := { guided.sup with stopPoint := some ⟨q, .up⟩ } }
    .authorityOverrun ∈ causesAt 8000 (s 0) ∧ .authorityOverrun ∉ causesAt 8000 (s 1240000) := by decide +kernel

theorem witness_pass_sets_the_level :
    guided.link.buffer = [] ∧ guided.sup.mode = .line ∧ guided.notice.alerts.length = 21 ∧ guided.sup.effort = .idle ∧
    causesAt 8000 guided = [] := by decide +kernel

theorem witness_pass_sets_the_demands :
    parked.link.buffer = [] ∧ parked.sup.mode = .parked ∧ parked.sup.mode ≠ .tripped := by decide +kernel

/-- The effort window judged at t_check with the car slowed from 3000 mm/s to 1333, and hardly slowed. -/
theorem witness_effort_window_is_judged :
    let t := BitVec.ofNat 32 (car.tCheck * 1000)
    let ring := (List.range 10).map fun k => (⟨t - 60000 + BitVec.ofNat 32 (6000 * k), .up, false⟩ : RingEntry)
    let s := fun v : Nat => { guided with
      odo := { guided.odo with whlRing := ring }
      sup := { guided.sup with effort := .running 0 v, drive := ⟨.up, true, 64⟩ } }
    let r := ((s 3000).advance t).odometryPass.passResults.1
    let required : Int := ((car.kEff * r.netService + 99) / 100 : Nat)
    let measured := fun v : Nat => (((v : Int) - r.speed) * 1000).fdiv ((Time.since t 0 / 1000 : Nat) : Int)
    (s 3000).link.buffer = [] ∧ (s 3000).sup.mode = .line ∧ (s 3000).sup.effort = .running 0 3000 ∧
    car.tCheck * 1000 ≤ Time.since t 0 ∧ Time.since (t - 1) 0 < car.tCheck * 1000 ∧
    causesAt t (s 3000) = [] ∧ 0 < r.speed ∧
    64 ≤ serviceDemand (s 3000).cfg .line (levelAfter car .none r.speed r.permitted) (s 3000).sup.drive.brake
      (s 3000).ent.allLocked ∧
    measured 3000 < required ∧ required ≤ measured 9000 := by decide +kernel

theorem witness_set_mode_changes_the_mode :
    parked.linkReady ∧ parked.sup.testStep = 0 ∧ parked.sup.mode = .parked ∧ parked.odo.standstill = true ∧
    parked.odo.localisation ≠ .unlocalised ∧ running.sup.mode = .line ∧ running.linkReady ∧
    { parked with sup := { parked.sup with testStep := 1 } }.sup.testStep ≠ 0 ∧ idle.linkReady ∧ idle.sup.mode = .init ∧
    idle.configured = false ∧ { parked with sup := Supervisor.powerOn }.configured = true ∧
    { parked with sup := Supervisor.powerOn }.line.active ≠ none := by decide +kernel

theorem witness_setting_requests_set_one_thing :
    parked.linkReady ∧ (2 : Byte).toNat ≤ 2 ∧ (1 : Byte).toNat ≤ 1 ∧ 2 < (3 : Byte).toNat ∧ 1 < (2 : Byte).toNat ∧
    24 < (List.replicate 25 (0x41 : Byte)).length ∧ noteCode 0x61 = none ∧
    (List.replicate 24 (0x41 : Byte)).length ≤ 24 ∧ noteCode 0x41 ≠ none ∧ parked.radio.notes.length < 4 ∧
    4 ≤ { parked.radio with notes := List.replicate 4 [0x41] }.notes.length := by decide +kernel

/-- The car in TRIPPED at standstill. -/
def tripped : State :=
  { parked with sup := { parked.sup with mode := .tripped, level := .emergency, modeBefore := some .shunt } }

theorem witness_release_trip_returns_the_mode :
    tripped.linkReady ∧ tripped.sup.mode = .tripped ∧ tripped.odo.standstill = true ∧
    tripped.sup.modeBefore = some .shunt ∧ tripped.sup.level ≠ .none ∧ tripped.notice.queue.length ≤ 22 ∧
    parked.linkReady ∧ parked.sup.mode ≠ .tripped := by decide +kernel

theorem witness_detector_test_forces_the_steps_flags :
    (∀ n : Fin 6,
      let s := { parked with sup := { parked.sup with testStep := n.val } }
      s.linkReady ∧ s.notice.alerts.length = 21 ∧ s.sup.testStep ≤ 5 ∧ s.sup.mode = .parked ∧ s.odo.standstill = true) ∧
    ((List.range 6).map fun n => (n + 1) % 6) = [1, 2, 3, 4, 5, 0] ∧ running.linkReady ∧
    running.sup.mode ≠ .parked := by decide +kernel

/-- Clauses of the permitted speed: unbrakeable, at the reaction distance, saturated, and a root; 05 §5.7's values. -/
theorem witness_permitted_speed_of_an_entry :
    let c := { car with rSv := 1200, aFloor := 300 }
    netService { c with rSv := 299 } 0 < c.aFloor ∧ (c.aFloor : Int) ≤ netService { c with rSv := 300 } 0 ∧
    4800 ≤ 4800 ∧ (4800 : Nat) < 4801 ∧ netService c 0 = 1200 ∧
    (225000000 : Int) ≤ (3000 : Int) * 3000 + 2 * 1200 * (100000 - 4800) ∧
    (5500 : Int) * 5500 + 2 * 1200 * (6000 - 4800) < 225000000 ∧ 15000 ≤ 15000 := by decide +kernel

/-- 11.1, step 10: a pass with an active bank, a restriction under the car, a cap and an entry that gives the permitted
speed. -/
theorem witness_look_ahead_list_is_a_staircase :
    let s := { guided with
      route := { guided.route with restrictions := [⟨1, 60300, 70000, 1400, none⟩], cap := some 1500 } }
    let near := { guided with route := { guided.route with authority := some ⟨12, .up, 60301, none, none⟩ } }
    s.lineEnd = some 5000000 ∧ s.route.cap = some 1500 ∧ s.fullResults.1.giver = none ∧ s.fullResults.1.ceiling = 1400 ∧
    (s.route.restrictions.all fun x => decide (x.fromPos ≤ s.spanTo 5000000 ∧ s.spanFrom 5000000 ≤ x.toPos)) = true ∧
    near.fullResults.1.giver = some 1 ∧ running.sup.mode = .line ∧
    { running.radio with state := .lost }.state = .lost := by decide +kernel

theorem witness_slot_period_emits_each_channel :
    parked.link.buffer = [] ∧ parked.brake.started = false ∧
    { parked.brake with started := true }.started = true := by decide +kernel

/-- A prepared write of a channel with a given next start, while slot 33 is emitted. -/
def writing (d : SingleDemand) (a : Addressing) : State :=
  { parked with
    brake := { parked.brake with
      slotNumber := 33, started := true, band := { BrakeChannel.singlePowerOn with addressing := a } }
    sup := { parked.sup with prepared := ⟨none, some d, none⟩ } }

theorem witness_pattern_writes_are_placed_in_the_window :
    let s := writing .release .absolute
    let d := fun n : BitVec 32 => (n - s.brake.slotNumber).toInt
    s.sup.prepared.demand .band = some (.single .release) ∧ s.sup.prepared.demand .service = none ∧
    (s.brake.channel .band).slots.length = 64 ∧ (s.brake.channel .band).addressing = .absolute ∧
    ((writing .apply (.relative 34)).brake.channel .band).addressing = .relative 34 ∧
    1 ≤ d 34 ∧ d 81 ≤ 48 ∧ d 33 < 1 ∧ 48 < d 82 ∧
    64 < ((73 : BitVec 32) - 8).toInt ∧ ((72 : BitVec 32) - 8).toInt ≤ 64 := by decide +kernel

theorem witness_hunt_bits_are_searched :
    let s := fun bits spanBits => { parked with radio := { parked.radio with
      bits := bits, spanBits := spanBits, spanZeros := 3, blankCount := 2 } }
    let found := (bitsOfBytes frame7).take 23
    (s [] 0).link.buffer = [] ∧ (s [] 0).notice.alerts.length = 21 ∧ (s [] 0).radio.sync = .hunt ∧
    ([] : List Bool).length < 23 ∧ found.length = 23 ∧ found.length ≤ 23 ∧ findFrame (found ++ [false]) = some 0 ∧
    findFrame (List.replicate 24 true) = none ∧ 383 ≤ (s found 383).radio.spanBits ∧
    383 ≤ (s [] 383).radio.spanBits := by decide +kernel

/-- The five ways of a frame in LOCKED: good and settled, good and settling, of another line, with a bad CRC, and a wrong
word short of M and at M. -/
theorem witness_locked_frames_are_judged :
    let s := locked 0 383
    let bits := s.radio.bits ++ [true]
    let f := bytesOfBits bits
    let broken := bytesOfBits (s.radio.bits.set 100 true ++ [true])
    let empty := (bitsOfBytes ([0x47, 0x9C, 0x00, 0x00, 0x07] ++ List.replicate 40 0 ++ [0x09, 0x56, 0xFF])).take 383
    let bad := historyAdd car.wSync [] false
    let worse := historyAdd car.wSync (List.replicate 8 false) false
    s.link.buffer = [] ∧ s.radio.sync = .locked ∧ s.radio.bits.length = 383 ∧ (findFrame bits).isSome = true ∧
    findFrame bits = s.radio.expected ∧ frameCrcOk f = true ∧ frameCrcOk broken = false ∧ s.lineId ≠ 0 ∧
    beAt f 3 2 = s.lineId ∧ s.radio.settled = true ∧ findFrame bits ≠ (locked 1 383).radio.expected ∧
    idle.lineId = 0 ∧ byteAt (bytesOfBits (empty ++ [true])) 5 = 0 ∧ byteAt (bytesOfBits (empty ++ [true])) 25 = 0 ∧
    wrongCount bad < car.m ∧ car.m ≤ wrongCount worse := by decide +kernel

theorem witness_radio_timeouts_degrade_the_state :
    let old := fun (t : Time) (n : Nat) => n ≤ Time.since (running.clock.advance t).localMs 0
    running.link.buffer = [] ∧ running.radio.state = .ok ∧ running.radio.lastGood = some 0 ∧
    old 2000000 car.tFreeze ∧ ¬old 1999999 car.tFreeze ∧ old 20000000 car.tLost ∧ ¬old 19999999 car.tLost ∧
    parked.radio.state = .lost ∧ running.radio.state ≠ .lost := by decide +kernel

theorem witness_reached_expiries_remove_records :
    let reached := fun (t : Time) (e : Option Time) => expiryReached (expiring.advance t).valleyNow e
    expiring.link.buffer = [] ∧ (expiring.route.authority.map Authority.expiry) = some (some 2) ∧
    reached 2000 (some 2) = true ∧ reached 1999 (some 2) = false ∧ parked.route.authority = none ∧
    (expiring.route.restrictions.filter fun r => !reached 1999 r.expiry) = expiring.route.restrictions ∧
    (expiring.route.restrictions.filter fun r => !reached 2000 r.expiry) ≠ expiring.route.restrictions := by
  decide +kernel

theorem witness_route_telegrams_are_taken :
    let full := (List.range 16).map fun k => (⟨k + 1, 10, 20, 500, none⟩ : Restriction)
    (⟨126, .up, 100, none, none⟩ : Authority).expiry = none ∧ parked.route.authority = none ∧
    1 ≤ ((127 : Byte) - 126).toNat ∧ ((253 : Byte) - 126).toNat ≤ 127 ∧ 128 ≤ ((254 : Byte) - 126).toNat ∧
    (⟨9, 10, 20, 500, none⟩ : Restriction).expiry = none ∧ min 20 5000000 ≤ 20 ∧ 19 < min 20 5000000 ∧
    (full.take 15).length < 16 ∧ 16 ≤ full.length ∧ (full.all fun x => x.id != 40) = true ∧
    (full.any fun x => x.id == 16) = true := by decide +kernel

theorem witness_uplink_frames_carry_their_crc : ∀ x ∈ [List.replicate 24 (0x41 : Byte)], x.length ≤ 24 := by decide +kernel

theorem witness_entrance_cycle_forms_the_releases :
    parked.link.buffer = [] ∧ parked.notice.alerts.length = 21 ∧ closedLeaf.good = true ∧
    (⟨true, 43, true⟩ : LeafInput).good = false := by decide

/-- Each timeout due at its last µs before nothing, and a closing leaf stalled, out of attempts, and moving. -/
theorem witness_leaf_timeouts_move_the_leaf :
    let closing := { leafIn .closing (some .driving) (car.closedTol + 1) false with
      stall := some (car.closedTol + car.stallMin, 0) }
    parked.link.buffer = [] ∧ 500000 ≤ Time.since 500000 (leafIn .unlocking none 20 true).stateTime ∧
    ¬500000 ≤ Time.since 499999 (leafIn .unlocking none 20 true).stateTime ∧
    (leafIn .closing (some .locking) 20 false).locked car.closedTol = false ∧
    car.warningTime * 1000 ≤ Time.since (BitVec.ofNat 32 (car.warningTime * 1000)) 0 ∧
    1000000 ≤ Time.since 1000000 0 ∧ closing.state = .closing ∧ closing.phase = some .driving ∧
    closing.position = some (car.closedTol + 1) ∧ closing.failed = 0 ∧ car.closedTol < car.closedTol + 1 ∧
    200000 ≤ Time.since 200000 0 ∧ Time.since 199999 0 < 200000 ∧
    ((car.closedTol + car.stallMin : Nat) : Int) - (car.closedTol + 1 : Nat) < car.stallMin ∧
    (car.stallMin : Int) ≤ ((car.closedTol + 1 + car.stallMin : Nat) : Int) - (car.closedTol + 1 : Nat) ∧
    closing.attempts ≤ 1 ∧ 2 ≤ { closing with attempts := 2 }.attempts := by decide +kernel

theorem witness_entrance_commands_move_the_side :
    let g := { parked with ent := { parked.ent with releaseLeft := .granted, takeoverRight := .pending } }
    g.linkReady ∧ (1 : Byte).toNat ≤ 1 ∧ 2 ≤ (2 : Byte).toNat ∧ g.ent.takeover .left = .none ∧
    g.ent.release .left = .granted ∧ g.ent.takeover .right ≠ .none ∧ parked.ent.release .left ≠ .granted ∧
    (leafIn .closed none 20 true).pending = false ∧ (leafIn .closing (some .locking) 20 true).phase = some .locking ∧
    (leafIn .reopening (some .turning) 400 true).phase = some .turning ∧
    (leafIn .reopening (some .pause) 400 true).phase ≠ some .turning ∧ (leafIn .fault none 20 true).failed = 0 ∧
    { leafIn .fault none 20 true with failed := 3 }.failed ≠ 0 := by decide +kernel

theorem witness_isolation_and_takeover :
    let r := fun st f p => { leafIn st none p true with failed := f }
    let g := fun t => { parked with ent := { parked.ent with takeoverRight := t } }
    parked.linkReady ∧ (5 : Byte).toNat = (5 : Fin 8).val ∧ (7 : Byte).toNat = (7 : Fin 8).val ∧
    parked.ent.takeover (leafSide 5) = .none ∧ (r .closed 0 20).state ≠ .isolated ∧
    (r .closed 0 20).sensedClosed car.closedTol = true ∧ (r .opened 0 3000).sensedClosed car.closedTol = false ∧
    (r .isolated 3 20).failed = 3 ∧ (r .isolated 0 20).locked car.closedTol = true ∧
    (r .isolated 0 3000).locked car.closedTol = false ∧ 8 ≤ (8 : Byte).toNat ∧ (1 : Byte).toNat ≤ 1 ∧
    2 ≤ (2 : Byte).toNat ∧ (g .pending).ent.takeover .right = .pending ∧ (g .granted).ent.takeover .right = .granted ∧
    (g .none).ent.takeover .right = .none ∧ (r .manual 0 20).state = .manual := by decide +kernel

theorem witness_configure_replaces_the_record :
    idle.linkReady ∧ recordFits car = true ∧ idle.sup.mode = .init ∧ configBad car = none ∧
    configBad { car with carId := 0 } = some 1 ∧ car.readerOffset ≠ idle.cfg.readerOffset ∧ car.lPin ≠ idle.cfg.lPin ∧
    running.linkReady ∧ running.sup.mode = .line ∧ parked.sup.mode = .parked ∧ parked.odo.standstill = true := by
  decide +kernel

theorem witness_restart_clears_the_running_blocks :
    parked.linkReady ∧ parked.sup.mode = .parked ∧ parked.odo.standstill = true ∧ parked.sup.testStep = 0 ∧
    running.linkReady ∧ running.sup.mode ≠ .parked := by decide +kernel

/-! ### Witnesses of the clauses about one case each -/

/-- IDENTIFY with tag 9, whole, up to its last byte. -/
def lastByte (buffer : Nat) : State :=
  { held buffer with link := { (held buffer).link with reception := .receiving [0x5A, 0x00, 0x3C, 0x09, 0x4D] 0 } }

theorem witness_last_bytes_are_received :
    let whole := fun b : Byte => ([0x5A, 0x00, 0x3C, 0x09, 0x4D] : List Byte) ++ [b]
    let good := fun b : Byte =>
      crc16 (((whole b).drop 1).take (3 + (byteAt (whole b) 1).toNat)) = byteAt (whole b) 5 ++ byteAt (whole b) 4
    (lastByte 3).link.reception = .receiving [0x5A, 0x00, 0x3C, 0x09, 0x4D] 0 ∧ (whole 0x1D).length = 6 + 0 ∧
    good 0x1D ∧ ¬good 0x1C ∧ (lastByte 3).link.buffer.length < 4 ∧ 4 ≤ (lastByte 4).link.buffer.length ∧
    10000 < Time.since 10001 0 := by decide +kernel

theorem witness_swapped_positions_and_records :
    let beyond := at_ 4900001 300 (standby 7 4900000 .checked parked)
    let lost := { beyond with odo := { beyond.odo with localisation := .unlocalised } }
    let s := { beyond with
      route := { beyond.route with
        authority := some ⟨3, .up, 4950000, none, none⟩
        restrictions := [⟨1, 4800000, 4950000, 500, none⟩, ⟨2, 4900000, 4950000, 500, none⟩] } }
    let kept := (s.route.restrictions.map fun r => { r with toPos := min r.toPos 4900000 }).filter fun r =>
      decide (r.fromPos < r.toPos)
    s.linkReady ∧ s.line.standbyBank.state = .checked ∧ s.line.standbyBank.lineEnd = 4900000 ∧
    (s.line.bank .a).lineId = s.line.standbyBank.lineId ∧ 4900000 < s.odo.position ∧
    s.odo.localisation ≠ .unlocalised ∧ lost.odo.localisation = .unlocalised ∧ 4900000 < lost.odo.position ∧
    kept ≠ s.route.restrictions ∧ kept = [⟨1, 4800000, 4900000, 500, none⟩] := by decide +kernel

theorem witness_increments_off_the_reference :
    let rack := at_ 1300000 300 parked
    parked.reference = .wheel ∧ parked.odo.pinRing.length ≤ 64 ∧ rack.reference = .pinion ∧
    rack.odo.whlRing.length ≤ 64 ∧ Edge.forward ≠ .bothPhases ∧ Edge.backward ≠ .bothPhases := by decide +kernel

/-- The car with an engagement check, its uphill end at a place. -/
def checking (position : Nat) (x : Engagement) : State :=
  { at_ position 300 parked with odo := { (at_ position 300 parked).odo with engagement := x } }

/-- The segments of the pinion point before and after an increment, their kinds, and the check after it. -/
def crossing (c : Counter) (e : Edge) (s : State) : Option Nat × Option Nat × Engagement × Bool :=
  let u := after (exec (.increment 0 c e) s)
  (s.pinionSegment.map SegView.index, u.pinionSegment.map SegView.index, u.odo.engagement, u.sup.engagementFailure)

/-- The boundaries of the check: within a segment, onto the rack entry, from it to RACK too soon, sound and unsound, back
over each end, and between the two rack segments (12,000 mm of rack entry, so 6,000,000 µm of wheel). -/
theorem witness_engagement_checks :
    let cross := fun c e p x => crossing c e (checking p x)
    [cross .wheel .forward 1270000 (.armed 2 0 0 none), cross .wheel .forward 1264996 .idle,
        cross .wheel .forward 1276996 (.armed 2 0 5991999 none), cross .wheel .forward 1276996 (.armed 2 6000000 5992000 none),
        cross .wheel .forward 1276996 (.armed 2 0 5992000 none), cross .wheel .forward 1276996 (.armed 1 0 0 none)] =
      [(some 2, some 2, .armed 2 0 8000 none, false), (some 1, some 2, .armed 2 0 0 none, false),
        (some 2, some 3, .unproven 2, false), (some 2, some 3, .idle, false), (some 2, some 3, .idle, true),
        (some 2, some 3, .armed 1 0 8000 none, false)] ∧
    [cross .wheel .backward 1265004 (.armed 2 0 0 (some 2)), cross .pinion .backward 1277004 (.armed 2 0 0 none),
        cross .pinion .backward 1277004 (.unproven 2), cross .pinion .forward 3494995 .idle] =
      [(some 2, some 1, .unproven 2, false), (some 3, some 2, .armed 2 (-6250) 0 none, false),
        (some 3, some 2, .unproven 2, false), (some 3, some 4, .idle, false)] ∧
    ([1264996, 1276996, 1277004, 3494995].map fun p => (checking p .idle).reference) =
      [.wheel, .wheel, .pinion, .pinion] := by decide +kernel

/-- An armed check that leaves its rack entry onto ADHESION. -/
theorem witness_check_left_for_adhesion :
    let line := [track 0 .rackEntry 0 3000 3000, track 20000 .adhesion 0 3000 3000]
    let s := { checking 34996 (.armed 0 0 0 none) with line := ⟨bankOf 7 5000000 .active line, Bank.powerOn, some .a⟩ }
    s.reference = .wheel ∧ crossing .wheel .forward s = (some 0, some 1, .idle, false) := by decide +kernel

/-- A marker left behind and one not, each way; a capture that pends; and nothing expected. -/
theorem witness_missed_markers :
    let s := fun p => at_ p 300 parked
    let back := fun p => { s p with odo := { (s p).odo with lastRefDir := some .down } }
    let up := fun p => (after (exec (.increment 0 .wheel .forward) (s p))).odo.missed
    let down := fun p => (after (exec (.increment 0 .wheel .backward) (back p))).odo.missed
    up 154094 = 1 ∧ up 154093 = 0 ∧ down 151906 = 1 ∧ down 151907 = 0 ∧ (s 154094).odo.capture = none ∧
    ((s 154094).expectedToward .up).map Marker.id = some 1 ∧
    ((back 151906).expectedToward .down).map Marker.id = some 1 ∧ captured.odo.capture ≠ none ∧
    (s 4000000).expectedToward .up = none := by decide +kernel

/-- Growth within the credit and beyond it, a span that reaches 10 m apart and not apart, and a record that degrades. -/
theorem witness_growth_and_span :
    let rack := at_ 1300000 300 parked
    let span := fun d : Nat => { rack with odo := { rack.odo with span := ⟨9993750 + d, 10000000, 9993750⟩ } }
    let u := fun s => (after (exec (.increment 0 .pinion .forward) s)).odo
    (8000 * car.whlRate + 999) / 1000 ≤ ({ parked.odo with credit := 999 } : Odometry).credit ∧
    parked.odo.credit < (8000 * car.whlRate + 999) / 1000 ∧
    10000000 ≤ (span 0).odo.span.travel + car.lPin ∧ (u (span 0)).disagree = false ∧
    (u (span (car.agreeTol * 1000 + 1))).disagree = true ∧ (span 0).reference = .pinion ∧
    (u (at_ 1300000 (car.uMax - 1) rack)).localisation = .degraded ∧ rack.odo.localisation = .localised := by
  decide +kernel

/-- The corrections that leave the line at each end, and captures, rejected and accepted, whose waiting marker is left
behind and is not. -/
theorem witness_match_completion_at_the_ends :
    let s := fun (p e : Nat) => { captured with odo := { captured.odo with
      position := p, remainder := 0
      capture := captured.odo.capture.map fun c => { c with
        edgeUm := e, uncertainty := 0
        waiting := [⟨.up, ⟨17, 2412000, 500⟩⟩, ⟨.down, ⟨18, 2412000, 500⟩⟩, ⟨.up, ⟨19, 2412000, 500⟩⟩] } } }
    let u := fun x : State => (after (exec (.matchCompletion 5010000) x)).odo
    (s 0 2415133000).odo.localisation ≠ .unlocalised ∧ (s 0 2415133000).odo.log.length ≤ 8 ∧
    (s 0 2415133000).lineEnd = some 5000000 ∧ (u (s 0 2415133000)).log.map LogEntry.accepted = [true] ∧
    (u (s 0 2415133000)).lossFlag = true ∧ (u (s 5000000 2414861000)).log.map LogEntry.accepted = [true] ∧
    (u (s 5000000 2414861000)).lossFlag = true ∧ (u (s 5000000 2414861000)).position = 5000000 ∧
    (u (s 2415841 2420000000)).missed = 2 ∧ (u (s 2415840 2420000000)).missed = 0 ∧
    (u (s 2415841 2420000000)).log.map LogEntry.accepted = [false] ∧
    (u (s 2415800 2414861000)).missed = 1 ∧ (u (s 2415800 2414861000)).lastPassed = some 19 ∧
    (u (s 2415500 2414861000)).missed = 0 ∧ (s 0 2415133000).notice.queue.length ≤ 20 := by decide +kernel

/-- The car in TRIPPED with a trip record, an output fault and an open entrance on the move. -/
theorem witness_causes_join_a_trip :
    let record : TripRecord := ⟨.overspeed, 0, 0, 0, 0, .line, [.overspeed, .rackEngagement]⟩
    let s := { unguided with
      ent := { unguided.ent with allLocked := false }
      odo := { unguided.odo with movementUm := 101000, standstill := false }
      sup := { unguided.sup with
        mode := .tripped, level := .emergency, modeBefore := some .line, outputFault := true, trip := some record } }
    let u := after (exec (.supervisionPass 30000) s)
    s.sup.trip = some record ∧ record.causes.Pairwise (fun a b => a.number < b.number) ∧
    s.notice.alerts.length = 21 ∧ s.cfg.entranceMoving < (s.advance 30000).odometryPass.movement.natAbs ∧
    u.sup.trip.map TripRecord.causes =
      some [.overspeed, .entranceOpenMoving, .rackEngagement, .outputFault] := by decide +kernel

/-- The effort monitor at work: full service no longer demanded, within its window, and at its end with enough braking. -/
theorem witness_effort_monitor_runs :
    let t := BitVec.ofNat 32 (car.tCheck * 1000)
    let ring := fun t : Time =>
      (List.range 10).map fun k => (⟨t - 60000 + BitVec.ofNat 32 (6000 * k), .up, false⟩ : RingEntry)
    let s := fun (t : Time) (b : Nat) => { guided with
      odo := { guided.odo with whlRing := ring t }
      sup := { guided.sup with effort := .running 0 9000, drive := ⟨.up, true, b⟩ } }
    let u := fun (t : Time) (b : Nat) => (after (exec (.supervisionPass t) (s t b))).sup.effort
    let v := ((s t 64).advance t).odometryPass.passResults.1.speed
    causesAt t (s t 0) = [] ∧ causesAt (t - 1) (s (t - 1) 64) = [] ∧ 0 < v ∧ u t 0 = .idle ∧
    u (t - 1) 64 = .running 0 9000 ∧ u t 64 = .running t v := by decide +kernel

/-- The rings of a pass: many fresh entries, one that has left W, and none; a stop point fixed, kept, replaced and cleared;
and an unsurveyed segment whose fault is enabled and not. -/
theorem witness_pass_verdicts :
    let one := { guided with odo := { guided.odo with whlRing := [⟨0, .down, false⟩], speed := 100, standstill := false } }
    let w := BitVec.ofNat 32 (car.window * 1000)
    let u := fun (t : Time) (s : State) => after (exec (.supervisionPass t) s)
    let free := fun q : Option StopPoint => { guided with
      route := { guided.route with authority := none }, sup := { guided.sup with stopPoint := q } }
    let stop := fun q : Option StopPoint => (u 8000 (free q)).sup.stopPoint
    let rough := fun e : Nat => { guided with
      cfg := { car with enables := e }
      line := ⟨bankOf 7 5000000 .active [{ track 0 .adhesion 0 8000 8000 with pull := none }], Bank.powerOn, some .a⟩ }
    (u 30000 unguided).odo.speed = 2401 ∧ (u 30000 unguided).odo.standstill = false ∧
    (u w one).odo.standstill = false ∧ (u w one).odo.direction = .down ∧ 0 < (u w one).odo.speed ∧
    (u 8000 guided).odo.standstill = true ∧ stop none = some ⟨60300, .up⟩ ∧ stop (some ⟨5, .up⟩) = some ⟨5, .up⟩ ∧
    stop (some ⟨5, .down⟩) = some ⟨60300, .up⟩ ∧
    (u 8000 { guided with sup := { guided.sup with stopPoint := some ⟨5, .up⟩ } }).sup.stopPoint = none ∧
    (u 8000 (rough 7)).sup.faultRecord.isSome = true ∧ (u 8000 (rough 0)).sup.faultRecord = none ∧
    (u 8000 (rough 0)).sup.faultSeen = true := by decide +kernel

/-- Passes in SHUNT, DEGRADED, UNLOCALISED and with RADIO_LOST, with an engagement cap, downhill, and with a merge. -/
theorem witness_look_ahead_cases :
    let r := fun s : State => s.fullResults.1
    let shunt := { guided with sup := { guided.sup with mode := .shunt } }
    let with_ := fun l => { guided with odo := { guided.odo with localisation := l } }
    let foot := at_ 3496000 4000 { guided with odo := { guided.odo with engagement := .unproven 2 } }
    let many := (List.range 10).map fun k => (⟨k + 1, 100000 + 10000 * k, 105000 + 10000 * k, 3000 - 100 * k, none⟩ : Restriction)
    let merged := { guided with route := { guided.route with restrictions := many } }
    let below := { at_ 4500000 300 guided with
      odo := { (at_ 4500000 300 guided).odo with direction := .down }
      route := { guided.route with
        authority := some ⟨12, .down, 4000000, none, none⟩, restrictions := [⟨1, 4200000, 4300000, 1000, none⟩] } }
    ((r shunt).term, (r (with_ .degraded)).term, (r (with_ .unlocalised)).term) =
      (.shunt, .positionDegraded, .unlocalised) ∧
    (r { guided with radio := { guided.radio with state := .lost } }).term = .radioLost ∧
    (r foot).term = .engagementCap ∧ (r merged).merged = true ∧ (r merged).targets.length = 8 ∧
    2 ≤ (r below).targets.length ∧ (r below).dir = .down ∧
    (below.route.authority.any fun a : Authority => a.dir == .down) = true := by decide +kernel

theorem witness_alignment_words :
    (bitsOfBytes [0x47, 0x9C]).length = 16 ∧ (List.replicate 5 true).length = 5 ∧
    findFrame (bitsOfBytes [0x47, 0x9C] ++ List.replicate 5 true ++ [true, true, false]) = some 6 ∧
    findFrame (bitsOfBytes [0xB8, 0x63] ++ List.replicate 5 false ++ [true, true, true]) = some 7 ∧
    findFrame (bitsOfBytes [0xB8, 0x63] ++ List.replicate 5 false ++ [true, true, false]) = none := by decide +kernel

/-- The framer in CONFIRM before the last bit of its second or third frame, with a given number expected there. -/
def confirming (count number : Nat) : State :=
  let frames := bitsOfBytes (frame7 ++ [0xB8, 0x63, 0x01] ++ List.replicate 45 0 ++ [0x47, 0x9C, 0x02] ++ List.replicate 45 0)
  { parked with
    radio := { Radio.powerOn with
      sync := .confirm, confirmCount := count, expected := some number, bits := frames.take (767 + 384 * count) } }

theorem witness_confirm_words :
    let u := fun s : State => (after (exec (.frameCompletion 0 0 [false]) s)).radio
    (confirming 0 1).radio.bits.length = 767 ∧ (confirming 1 2).radio.bits.length = 1151 ∧
    (confirming 0 1).link.buffer = [] ∧ (u (confirming 0 1)).confirmCount = 1 ∧ (u (confirming 1 2)).sync = .locked ∧
    (u (confirming 0 3)).alignErrors = 1 ∧ (u (confirming 1 4)).alignErrors = 1 := by decide +kernel

/-- A correct word with the history full of wrong ones, and M short of them. -/
theorem witness_history_of_wrong_words :
    let history := fun m => ((List.replicate m false ++ [true]).drop (m + 1 - car.wSync)).filter fun c => !c
    (history (car.m - 1)).length < car.m ∧ car.m ≤ (history car.wSync).length := by decide +kernel

/-- Telegrams of each outcome at the Route Store. -/
theorem witness_delivered_telegrams :
    let full := (List.range 16).map fun k => (⟨k + 1, 10, 20, 500, none⟩ : Restriction)
    let stored := { parked with route := { parked.route with restrictions := full }, notice := Notice.powerOn }
    let jump := fun v : Time => ((expiring.deliver (.valleyTime v)).notice.entry .valleyTimeJump).latched
    let shift := BitVec.ofNat 32 car.transit
    parked.radio.offset = none ∧ expiring.radio.offset = some 0 ∧ stored.notice.queue.length ≤ 22 ∧
    stored.notice.alerts.length = 21 ∧ (stored.notice.entry .restrictionRefused).latched = false ∧
    stored.notice.entry .restrictionCap = ⟨false, false, false, 0⟩ ∧
    ((0 : Time) + 0 - (0 : Time)).toNat < 2 ^ 31 ∧ ¬((0 : Time) + 0 - (1 : Time)).toNat < 2 ^ 31 ∧
    jump (500 + shift) = false ∧ jump (501 + shift) = true ∧
    ((expiring.deliver (.valleyTime (2 + shift))).route.restrictions.map Restriction.id) = [2] ∧
    (parked.deliver (.hold 63 true)).route.holds = [63] := by decide +kernel

/-- The telegrams of 10 §10.7, one of each kind and each malformed field, for car 1. -/
theorem witness_telegram_slots :
    let d := fun slot : List Byte => decodeSlot 1 (slot ++ List.replicate (20 - slot.length) 0)
    d [] = .ignored ∧ d [5, 2, 0, 0, 0, 1] = .ignored ∧ d [5, 1, 0, 0, 1, 0] = .valleyTime 256 ∧
    d [1, 0, 12, 1, 0, 1, 0, 3, 5, 0xDC, 0, 0, 0, 9] = .authority ⟨12, .down, 256, some 1500, some 9⟩ ∧
    d [1, 0, 12, 1, 0, 1, 0, 3, 5, 0xDD, 0, 0, 0, 9] = .malformed none ∧ d [1, 0, 12, 2] = .malformed none ∧
    d [2, 1, 40, 0, 1, 0, 0, 2, 0, 1, 0, 1, 0, 0, 0, 7] = .set ⟨40, 256, 512, 256, some 7⟩ ∧
    d [2, 1, 40, 0, 1, 0, 0, 2, 0, 1, 0, 2] = .malformed (some 40) ∧ d [2, 1, 0] = .malformed none ∧
    d [3, 1, 40] = .lift 40 ∧ d [3, 1, 0] = .malformed none ∧ d [4, 0, 63, 1] = .hold 63 true ∧
    d [4, 0, 64, 1] = .malformed none ∧ d [6, 0, 2, 0x20, 0x7E] = .notice [0x20, 0x7E] ∧
    d [6, 0, 17] = .malformed none ∧ d [7, 0] = .malformed none := by decide +kernel

/-- A read of a leaf at a position, its lock proven or not, with odd parity. -/
def leafRead (position : Nat) (proven : Bool) : LeafInput :=
  let even := BitVec.ofNat 13 (2 * position)
  ⟨true, if burstOnes even % 2 = 0 then even + 1 else even, proven⟩

/-- State, phase and attempts of leaf 5 after a cycle at a time with a read of it. -/
def cycled (t : Time) (x : LeafInput) (r : LeafRecord) : LeafState × Option Phase × Nat :=
  let y := (after (exec (.entranceCycle t (eight x)) (leaf5 r))).ent.leaves.get 5
  (y.state, y.phase, y.attempts)

theorem witness_leaves_step :
    let tol := car.closedTol
    let open_ := car.openCount
    let stalled := fun n => { leafIn .closing (some .driving) 2300 false with stall := some (2300, 0), attempts := n }
    let back := { leafIn .reopening (some .driving) 2300 false with target := some 2600 }
    [cycled 0 (leafRead tol false) (leafIn .unlocking none tol true),
     cycled 500000 (leafRead tol true) (leafIn .unlocking none tol true),
     cycled 499999 (leafRead tol true) (leafIn .unlocking none tol true),
     cycled 0 (leafRead (open_ - 20) false) (leafIn .opening none 2000 false),
     cycled 0 (leafRead (open_ - 21) false) (leafIn .opening none 2000 false),
     cycled (BitVec.ofNat 32 (car.warningTime * 1000)) (leafRead 2000 false) (leafIn .warning none 2000 false),
     cycled 0 (leafRead tol false) (leafIn .closing (some .driving) 300 false),
     cycled 0 (leafRead tol true) (leafIn .closing (some .locking) tol false),
     cycled 500000 (leafRead tol false) (leafIn .closing (some .locking) tol false)] =
      [(.opening, none, 0), (.fault, none, 0), (.unlocking, none, 0), (.opened, none, 0), (.opening, none, 0),
       (.closing, some .driving, 0), (.closing, some .locking, 0), (.closed, none, 0), (.fault, none, 0)] ∧
    [cycled 199999 (leafRead 2300 false) (stalled 0),
     cycled 200000 (leafRead (2300 - car.stallMin) false) (stalled 0),
     cycled 200000 (leafRead (2301 - car.stallMin) false) (stalled 1),
     cycled 200000 (leafRead 2300 false) (stalled 2), cycled 0 (leafRead 2599 false) back,
     cycled 0 (leafRead 2600 false) back,
     cycled 0 (leafRead 2600 false) (leafIn .reopening (some .turning) 2600 false),
     cycled 1000000 (leafRead 2600 false) (leafIn .reopening (some .pause) 2600 false)] =
      [(.closing, some .driving, 0), (.closing, some .driving, 0), (.reopening, some .driving, 2),
       (.obstructed, none, 3), (.reopening, some .driving, 0), (.reopening, some .pause, 0), (.opening, none, 0),
       (.closing, some .driving, 0)] ∧
    [cycled 0 (leafRead (tol + 1) true) (leafIn .closed none tol true),
     cycled 0 (leafRead tol true) (leafIn .closed none tol true)] =
      [(.fault, none, 0), (.closed, none, 0)] := by decide +kernel

/-- First reads, the third failed read, and a takeover granted in the cycle. -/
theorem witness_leaves_read :
    let bad : LeafInput := ⟨true, 43, true⟩
    let failed := fun n => { leafIn .opened none 2000 false with failed := n }
    let granted := fun r => { leaf5 r with ent := { (leaf5 r).ent with takeoverRight := .pending } }
    let u := fun r => ((after (exec (.entranceCycle 0 (eight (leafRead 2000 false))) (granted r))).ent.leaves.get 5).state
    cycled 0 (leafRead car.closedTol true) LeafRecord.powerOn = (.closed, none, 0) ∧
    cycled 0 (leafRead (car.closedTol + 1) true) LeafRecord.powerOn = (.opened, none, 0) ∧
    cycled 0 bad (failed 1) = (.opened, none, 0) ∧ cycled 0 bad (failed 2) = (.fault, none, 0) ∧
    u (leafIn .opened none 2000 false) = .manual ∧ u (leafIn .isolated none 2000 false) = .isolated ∧
    bad.good = false ∧ (leafRead 2000 false).good = true := by decide +kernel

/-- The reasons of a release in their order, and a granted one. -/
theorem witness_releases :
    let s := fun m => { at_ 65000 300 parked with sup := { parked.sup with mode := m, demands := ⟨64, .apply, .apply⟩ } }
    let u := fun x : State => (after (exec (.entranceCycle 0 (eight closedLeaf)) x)).ent.releaseLeft
    let held := fun l : List Nat => { s .shunt with route := { (s .shunt).route with holds := l } }
    u (s .tripped) = .withheld .mode ∧
    u { s .shunt with odo := { (s .shunt).odo with standstill := false } } = .withheld .moving ∧
    u { s .shunt with sup := { (s .shunt).sup with demands := ⟨0, .release, .release⟩ } } = .withheld .brake ∧
    u (at_ 300000 300 (s .shunt)) = .withheld .platform ∧ u (held [1]) = .withheld .hold ∧
    u (held [2]) = .granted ∧ u (s .parked) = .granted := by decide +kernel

theorem witness_configuration_checks :
    configBad { car with closedTol := 200 } = none ∧ configBad { car with closedTol := 201 } = some 39 ∧
    configBad { car with mS := 500, mE := 500 } = some 29 ∧ configBad { car with rEm := 5399 } = some 20 ∧
    configBad { car with m := 4, wSync := 4 } = some 34 := by decide +kernel

/-- A capture pends: the marker expected joins its waiting tests once, and none is expected beyond the last. -/
theorem witness_missed_tests_wait_for_the_capture :
    let s := fun p => at_ p 300 { parked with odo := { parked.odo with capture := some (parked.takeCapture 0) } }
    let w := fun x : State => x.odo.capture.map Capture.waiting
    let once := increments 1 0 .wheel .forward (s 60000)
    (s 60000).odo.capture ≠ none ∧ (s 60000).odo.lastRefDir = none ∧ ((s 60000).expectedToward .up).isSome = true ∧
    (w once).map List.length = some 1 ∧ w (increments 1 0 .wheel .forward once) = w once ∧
    (s 4000000).expectedToward .up = none ∧ w (increments 1 0 .pinion .forward (s 4000000)) = some [] := by decide +kernel

/-- The rings of the interpolation: two entries apart, at one time, stale, and one entry. -/
theorem witness_interpolated_travel :
    let s := fun r : List RingEntry => { markerCase with odo := { markerCase.odo with whlRing := r } }
    let k := fun r => ((after (exec (.markerDetectorEdge 5003000) (s r))).odo.capture.map Capture.travel)
    let old : List RingEntry := [⟨4992000, .up, false⟩]
    (s []).reference = .wheel ∧ k (old ++ [⟨5000000, .up, false⟩]) = some 3000 ∧
    k (old ++ [⟨4992000, .up, false⟩]) = some car.lWhl ∧ k (old ++ [⟨4993000, .up, false⟩]) = some car.lWhl ∧
    k ([⟨4992000, .up, true⟩, ⟨5000000, .up, false⟩]) = some 0 ∧ k old = some 0 := by decide +kernel

/-- A transmission runs, so that no report leaves the queue. -/
def busy (s : State) : State := { s with link := { s.link with tx := some (.report (someReport 0)) } }

/-- The kinds of the reports in the queue: an ALERT by its number, a MODE CHANGE and an INTERVENTION by 100 and 101. -/
def reported (s : State) : List Nat :=
  s.notice.queue.map fun r => match r.body with
    | .alert k _ _ _ => k.number
    | .modeChange _ _ _ => 100
    | .intervention _ _ _ _ => 101
    | _ => 102

/-- A trip entered with its ALERT, its MODE CHANGE and its INTERVENTION. -/
theorem witness_reports_of_a_trip :
    let s := busy unguided
    s.link.tx ≠ none ∧ s.link.buffer = [] ∧ s.notice.alerts.length = 21 ∧ s.notice.queue.length ≤ 20 ∧
    causesAt 30000 s = [.overspeed] ∧ reported s = [] ∧ s.sup.level ≠ .emergency ∧
    ∃ k, reported (after (exec (.supervisionPass 30000) s)) = [k, 100, 101] ∧ k = AlertKind.trip.number := by
  refine ⟨by decide, by decide, by decide, by decide, by decide +kernel, by decide, by decide, AlertKind.trip.number, ?_, rfl⟩
  decide +kernel

/-- A pass that leaves SERVICE, and a SET MODE that leaves it, with their INTERVENTION reports. -/
theorem witness_reports_of_a_level :
    let s := busy { guided with sup := { guided.sup with level := .service } }
    let p := { parked with sup := { parked.sup with mode := .line, level := .service } }
    s.link.tx ≠ none ∧ s.notice.alerts.length = 21 ∧ s.notice.queue.length ≤ 20 ∧ causesAt 8000 s = [] ∧
    reported (after (exec (.supervisionPass 8000) s)) = [101] ∧ p.linkReady ∧ p.notice.queue.length ≤ 21 ∧
    p.odo.standstill = true ∧ (reported (after (exec (.setModeParked 5 9) p))).take 2 = [100, 101] := by decide +kernel

/-- The lookups: an empty stretch point, one across segments, and the car span clamped at each end. -/
theorem witness_lookups :
    let s := fun p => at_ p 300 parked
    parked.lineEnd = some 5000000 ∧ (parked.stretch .up 410000 410000).map SegView.index = [1] ∧
    (parked.stretch .down 409999 1250000).map SegView.index = [2, 1, 0] ∧
    (parked.stretch .up (-5) 6000000).length = 6 ∧ (s 60000).spanFrom 5000000 = 29700 ∧
    (s 100).spanFrom 5000000 = 0 ∧ (s 4999900).spanTo 5000000 = 5000000 := by decide +kernel

/-- Frames of every kind whose judgement loses sync: good and settled, and with a wrong word. -/
theorem witness_frames_that_lose_sync :
    let lose := fun s : State => { s with
      radio := { s.radio with history := List.replicate 8 false }, cfg := { car with m := 2 } }
    let u := fun s : State => (after (exec (.frameCompletion 0 0 [true]) (lose s))).radio
    (lose (locked 0 383)).link.buffer = [] ∧ (lose (locked 0 383)).radio.settled = true ∧
    (lose (locked 0 383)).cfg.m ≤
      wrongCount (historyAdd (lose (locked 0 383)).cfg.wSync (lose (locked 0 383)).radio.history true) ∧
    ((u (locked 0 383)).goodFrames, (u (locked 0 383)).alignErrors, (u (locked 0 383)).sync) = (1, 0, .hunt) ∧
    ((u (locked 1 383)).goodFrames, (u (locked 1 383)).alignErrors, (u (locked 1 383)).sync) = (0, 1, .hunt) := by
  decide +kernel

/-- Slot 2 of an uplink frame: a note of three characters, and the idle fill of no note. -/
theorem witness_uplink_slots :
    let s := { parked with radio := { parked.radio with notes := [[0x41, 0x42, 0x5A], [0x41]] } }
    let f := fun s : State => (after (exec (.uplinkFrameBuild 5) s)).radio.uplinkFrame
    parked.radio.notes = [] ∧ ((f parked).drop 25).take 20 = List.replicate 20 0 ∧
    (s.radio.notes.all fun x => decide (x.length ≤ 24)) = true ∧
    (byteAt (f s) 25, byteAt (f s) 26) = (0x82, 3) ∧ (noteCode 0x41).isSome = true := by decide +kernel

/-- A takeover granted while a transmission runs: its leaves, the side, and a release that goes. -/
theorem witness_entrance_reports :
    let s := busy { leaf5 (leafIn .opened none 2000 false) with
      ent := { (leaf5 (leafIn .opened none 2000 false)).ent with takeoverRight := .pending } }
    let kinds : State → List (Nat × Nat × Nat) := fun u => u.notice.queue.map fun r => match r.body with
      | .entrance i st _ => (0, i, st.code)
      | .takeover _ st => (1, 0, st.code)
      | .release _ _ => (2, 0, 0)
      | _ => (3, 0, 0)
    let u := after (exec (.entranceCycle 0 (eight (leafRead 2000 false))) s)
    s.link.tx ≠ none ∧ s.notice.alerts.length = 21 ∧ s.notice.queue = [] ∧
    (0, 5, LeafState.manual.code) ∈ kinds u ∧ (1, 0, Takeover.granted.code) ∈ kinds u ∧ u.notice.queue.length ≤ 22 := by decide +kernel

/-- CONFIGURE: a capture that goes with the wheel length and stays otherwise, an ARMED check that stays and goes, a span on
RACK that stays and restarts, and a radio state moved forward. -/
theorem witness_configured_units :
    let p := fun (n : Nat) (s : State) => { s with
      sup := { s.sup with mode := .parked }
      odo := { s.odo with
        position := n, capture := some (s.takeCapture 0), engagement := .armed 2 5 6 (some 1), span := ⟨1, 2, 3⟩ } }
    let u := fun (s : State) (c : ConfigRecord) => after (exec (.configure 5 9 c) s)
    let foot := p 1270000 parked
    let rack := p 1300000 parked
    let old := { running with sup := { running.sup with mode := .parked } }
    foot.linkReady ∧ configBad { car with lWhl := 9000 } = none ∧ configBad { car with pinionOffset := 30000 } = none ∧
    (u foot { car with lWhl := 9000 }).odo.capture = none ∧ (u foot { car with lPin := 7000 }).odo.capture ≠ none ∧
    (u foot car).odo.engagement = .armed 2 5 6 (some 1) ∧
    (u foot { car with pinionOffset := 30000 }).odo.engagement = .unproven 1 ∧
    rack.reference = .pinion ∧ (u rack car).odo.span = ⟨1, 2, 3⟩ ∧
    (u rack { car with lPin := 7000 }).odo.span = ⟨0, 0, 0⟩ ∧ configBad { car with tFreeze := 500, tLost := 2000 } = none ∧
    (after (exec (.configure 2000000 9 { car with tFreeze := 500, tLost := 2000 }) old)).radio.state = .lost ∧
    (after (exec (.configure 600000 9 { car with tFreeze := 500, tLost := 2000 }) old)).radio.state = .degraded := by
  decide +kernel

/-- A forced kind latches unless active or forced already; the two kinds of step 1, one of them active (R174). -/
theorem witness_forced_kinds_latch :
    let n := Notice.powerOn.setEntry .overspeedWarning ⟨true, false, false, 0⟩
    let s := { parked with notice := n }
    let u := after (exec (.detectorTest 5 9) s)
    let v := after (exec (.detectorTest 5 9) { s with notice := Notice.powerOn })
    s.linkReady ∧ s.notice.alerts.length = 21 ∧ s.notice.queue.length ≤ 22 ∧ s.sup.testStep = 0 ∧
    u.notice.entry .overspeedWarning = ⟨true, true, false, 0⟩ ∧
    u.notice.entry .serviceIntervention = ⟨false, true, true, 1⟩ ∧
    u.notice.queue.map Report.body = [.alert .serviceIntervention .condition true (2 ^ 7)] ∧
    v.notice.queue.map Report.body =
      [.alert .overspeedWarning .condition true (2 ^ 6), .alert .serviceIntervention .condition true (2 ^ 6 + 2 ^ 7)] := by
  decide +kernel

/-- The TEST enable set and clear at step 5. -/
theorem witness_test_faults :
    let s := fun e : Nat => { parked with
      notice := Notice.powerOn, cfg := { car with enables := e }, sup := { parked.sup with testStep := 4 } }
    let u := fun e : Nat => after (exec (.detectorTest 5 9) (s e))
    (s 7).cfg.enables.testBit 2 = true ∧ (s 3).cfg.enables.testBit 2 = false ∧ reported (u 7) = [18] ∧ reported (u 3) = [] ∧
    (u 3).sup.faultSeen = true ∧ (u 3).sup.faultRecord = none := by decide +kernel

/-- Two channels starve at one slot period while a transmission runs, and none does. -/
theorem witness_starvations_are_reported :
    let single := { BrakeChannel.singlePowerOn with latest := .single .release }
    let s := busy { parked with notice := Notice.powerOn, brake := { parked.brake with band := single, emergency := single } }
    let none_ := busy { parked with notice := Notice.powerOn }
    let u := after (exec (.slotPeriodStart 5) s)
    s.link.tx ≠ none ∧ s.link.buffer = [] ∧ s.notice.alerts.length = 21 ∧ s.notice.queue.length < 24 ∧
    u.notice.entry .outputFault = ⟨false, false, true, 2⟩ ∧ reported u = [20] ∧
    reported (after (exec (.slotPeriodStart 5) none_)) = [] := by decide +kernel

/-- A frame in two runs, the second of one bit, while a transmission runs. -/
theorem witness_runs_of_bits :
    let s := busy (locked 0 381)
    let u := after (exec (.frameCompletion 0 0 [true, true, true]) s)
    let v := after (exec (.frameCompletion 0 0 [true]) (after (exec (.frameCompletion 0 0 [true, true]) s)))
    s.link.tx ≠ none ∧ s.link.buffer = [] ∧ u = v ∧ u.radio.goodFrames = 1 := by decide +kernel

/-- The conditions of the radio after its timeouts and after a good settled frame. -/
theorem witness_radio_conditions :
    let s := { running with
      notice := Notice.powerOn.setEntry .valleyUnheard ⟨true, false, true, 1⟩, radio := { running.radio with unheard := true } }
    let f := after (exec (.tFreezeExpiry 2000000) s)
    let l := after (exec (.tLostExpiry 20000000) s)
    let g := after (exec (.frameCompletion 0 0 [true]) (locked 0 383))
    s.link.buffer = [] ∧ s.notice.alerts.length = 21 ∧ f.notice.entry .radioDegraded = ⟨true, false, true, 1⟩ ∧
    f.notice.entry .valleyUnheard = ⟨true, false, true, 1⟩ ∧ l.notice.entry .radioLost = ⟨true, false, true, 1⟩ ∧
    l.notice.entry .valleyUnheard = ⟨false, false, true, 1⟩ ∧ ((locked 0 383).notice.entry .radioLost).active = true ∧
    (g.notice.entry .radioLost).active = false := by decide +kernel

/-- RESTRICTION_CAP falls, and AUTHORITY_EXPIRED is raised, when the expiries of one ms are reached. -/
theorem witness_expiries_clear_the_cap :
    let s := { expiring with notice := Notice.powerOn.setEntry .restrictionCap ⟨true, false, true, 1⟩ }
    let u := after (exec (.localMsAdvance 2000) s)
    s.link.buffer = [] ∧ s.notice.alerts.length = 21 ∧ s.route.cap = some 700 ∧ u.route.cap = none ∧ u.route.version = 5 ∧
    u.notice.entry .restrictionCap = ⟨false, false, true, 1⟩ ∧ u.notice.entry .authorityExpired = ⟨false, false, true, 1⟩ ∧
    (after (exec (.localMsAdvance 1999) s)).notice.entry .restrictionCap = s.notice.entry .restrictionCap := by
  decide +kernel

/-- The leaves that an ENTRANCE report names, by number and state code; other reports by 8 and 0. -/
def leafReports (s : State) : List (Nat × Nat) :=
  s.notice.queue.map fun r => match r.body with
    | .entrance i st _ => (i, st.code)
    | _ => (8, 0)

/-- A leaf that a timeout moves, a side that a CLOSE moves, an isolation and its end, and a takeover returned. -/
theorem witness_leaf_reports :
    let quiet := fun s : State => { s with notice := Notice.powerOn }
    let late := busy (quiet (leaf5 (leafIn .unlocking none 20 true)))
    let all := fun st p => quiet { parked with
      ent := { parked.ent with leaves := ⟨leafIn st none p true, leafIn st none p true, leafIn st none p true, leafIn st none p true,
        leafIn st none p true, leafIn st none p true, leafIn st none p true, leafIn st none p true⟩, takeoverRight := .none } }
    let manual := fun r => let s := all .manual 3000
      { s with ent := { s.ent with takeoverRight := .granted, leaves := s.ent.leaves.set 5 r } }
    let close := after (exec (.entranceClose 5 9 1) (all .opened 3000))
    let back := after (exec (.takeoverReturn 5 9 1) (manual (leafIn .closed none 20 true)))
    late.link.tx ≠ none ∧ late.notice.queue.length < 24 ∧
    leafReports (after (exec (.unlockTimeout 500000 5) late)) = [(5, LeafState.fault.code)] ∧
    (all .opened 3000).linkReady ∧ (all .opened 3000).notice.queue.length ≤ 19 ∧
    leafReports close = [4, 5, 6, 7].map (fun i => (i, LeafState.warning.code)) ∧
    leafReports (after (exec (.isolateOn 5 9 6) (all .closed 20))) = [(6, LeafState.isolated.code)] ∧
    leafReports (after (exec (.isolateOff 5 9 6) (all .isolated 20))) = [(6, LeafState.closed.code)] ∧
    (manual (leafIn .closed none 20 true)).linkReady ∧
    leafReports back = ([4, 6, 7].map fun i => (i, LeafState.opened.code)) ++ [(8, 0)] := by decide +kernel

/-- R164, R145: a leaf taken back OPEN before its first successful read keeps it pending and has its lock released. -/
theorem test_pending_leaf_taken_back :
    let s := leaf5 { LeafRecord.powerOn with state := .manual, motor := .notDriven, lock := .notDriven }
    let u := after (exec (.takeoverReturn 5 9 1) { s with ent := { s.ent with takeoverRight := .granted } })
    let r := u.ent.leaves.get 5
    r.state = .opened ∧ r.pending = true ∧ r.lock = .released := by decide +kernel

/-- R167: the first successful read of a pending leaf in FAULT clears its flag and keeps its state, without a report; both
conditions of stage 6 rise at one cycle, a leaf OBSTRUCTED and one in FAULT. -/
theorem test_first_read_in_fault_and_both_conditions :
    let r := { (leafIn .fault none 20 true) with pending := true, failed := 3, cause := some .sensor }
    let s0 := leaf5 r
    let o := leafIn .obstructed none 2000 false
    let s := busy { s0 with
      notice := Notice.powerOn
      ent := { s0.ent with
        releaseLeft := .granted, releaseRight := .granted
        leaves := ⟨o, o, o, o, o, r, o, o⟩ } }
    let u := after (exec (.entranceCycle 0 (eight (leafRead 2000 false))) s)
    let v := u.ent.leaves.get 5
    (v.state, v.pending, v.cause) = (.fault, false, some .sensor) ∧
    s.link.tx ≠ none ∧ s.notice.queue.length = 0 ∧ leafReports u = [(8, 0), (8, 0)] ∧
    reported u = [AlertKind.entranceObstructed.number, AlertKind.entranceFault.number] := by decide +kernel

/-- Nonzero bytes in the parts that a LOAD SEGMENT marks absent read back as zeros. -/
theorem witness_absent_parts_read_back_as_zeros :
    let f := { fields4 with platformPresent := 0, markerPresent := 0 }
    let kept := { f with
      platformSide := 0, platformFrom := 0, platformTo := 0, station := 0, markerId := 0, markerPosition := 0
      markerWindow := 0 }
    let l := parked.line
    segmentBad f = none ∧ l.standbyBank.places.length = 128 ∧ f.station ≠ 0#8 ∧ f.markerWindow ≠ 0#16 ∧
    (l.loadSegment f).2.readSegment 1 4 = .done (.bytes ([1, 2, 1] ++ segmentFieldBytes kept)) := by decide +kernel

/-- A car whose UNPROVEN check shows, with every other alert clear. -/
def unproven (s : State) : State :=
  { s with
    notice := Notice.powerOn.setEntry .engagementUnproven ⟨true, false, true, 1⟩
    odo := { s.odo with engagement := .unproven 2 } }

/-- A SWAP BANK to the same line made shorter: ENGAGEMENT_UNPROVEN falls and POSITION_DEGRADED rises. -/
theorem witness_swap_shows_the_record :
    let s := { unproven parked with line := { parked.line with b := bankOf 7 59999 .checked line7 } }
    let u := after (exec (.swapBank 5 9) s)
    s.linkReady ∧ s.notice.alerts.length = 21 ∧ s.line.standbyBank.state = .checked ∧
    u.notice.entry .engagementUnproven = ⟨false, false, true, 1⟩ ∧
    u.notice.entry .positionDegraded = ⟨true, false, true, 1⟩ ∧
    u.notice.entry .odometryDisagree = ⟨false, false, false, 0⟩ := by decide +kernel

/-- SET POSITION: an ARMED check that stays and one that returns, an UNPROVEN check kept, and u at u_max. -/
theorem witness_set_position_shows_the_record :
    let s := { unproven parked with odo := { parked.odo with engagement := .armed 2 5 6 (some 2) } }
    let u := fun (x : State) (p : BitVec 24) (n : BitVec 16) => after (exec (.setPosition 5 9 p n) x)
    s.linkReady ∧ s.notice.alerts.length = 21 ∧ (u s 1270000 300).odo.engagement = .armed 2 5 6 (some 2) ∧
    (u s 70000 300).odo.engagement = .unproven 2 ∧ (u (unproven parked) 70000 300).odo.engagement = .unproven 2 ∧
    (u s 70000 300).notice.entry .engagementUnproven = ⟨true, false, true, 1⟩ ∧
    (u s 70000 300).notice.entry .positionDegraded = ⟨false, false, false, 0⟩ ∧
    (u s 70000 (BitVec.ofNat 16 car.uMax)).notice.entry .positionDegraded = ⟨true, false, true, 1⟩ := by decide +kernel

/-- A CONFIGURE whose timeouts move the radio state, and one that leaves it. -/
theorem witness_configure_shows_the_radio :
    let s := { running with notice := Notice.powerOn, sup := { running.sup with mode := .parked } }
    let u := fun t : Time => (after (exec (.configure t 9 { car with tFreeze := 500, tLost := 2000 }) s)).notice
    s.linkReady ∧ s.notice.alerts.length = 21 ∧ configBad { car with tFreeze := 500, tLost := 2000 } = none ∧
    (u 600000).entry .radioDegraded = ⟨true, false, true, 1⟩ ∧ (u 600000).entry .radioLost = ⟨false, false, false, 0⟩ ∧
    (u 2000000).entry .radioLost = ⟨true, false, true, 1⟩ ∧ (u 2000000).entry .radioDegraded = ⟨false, false, false, 0⟩ ∧
    (u 400000).alerts = Notice.powerOn.alerts := by decide +kernel

/-- A span above agree_tol that takes u to u_max, and one at it. -/
theorem witness_span_shows_the_record :
    let s := fun d : Int => { parked with
      notice := Notice.powerOn
      odo := { parked.odo with uncertainty := car.uMax - 1, span := ⟨10000000 + d, 10000000, 10000000⟩ } }
    let u := fun d : Int => (after (exec (.agreementSpanComplete 0) (s d))).notice
    let tol : Int := (car.agreeTol : Int) * 1000
    (s tol).link.buffer = [] ∧ (s tol).notice.alerts.length = 21 ∧
    (u (tol + 1)).entry .odometryDisagree = ⟨true, false, true, 1⟩ ∧
    (u (tol + 1)).entry .positionDegraded = ⟨true, false, true, 1⟩ ∧ (u tol).alerts = Notice.powerOn.alerts := by
  decide +kernel

/-- An accepted marker clears ENGAGEMENT_UNPROVEN and POSITION_DEGRADED, which two missed tests raise again; a rejected
edge with two missed tests raises it. -/
theorem witness_match_completion_shows_the_record :
    let waits : List WaitingTest := [⟨.up, ⟨18, 2411000, 500⟩⟩, ⟨.up, ⟨19, 2412000, 500⟩⟩]
    let s := fun (e : Nat) (w : List WaitingTest) =>
      let x := unproven { captured with odo := { captured.odo with
        position := 2415841, remainder := 0, localisation := .degraded
        capture := captured.odo.capture.map fun c => { c with edgeUm := e, uncertainty := 0, waiting := w } } }
      { x with notice := x.notice.setEntry .positionDegraded ⟨true, false, true, 1⟩ }
    let u := fun x : State => (after (exec (.matchCompletion 5010000) x)).notice
    let lost := { s 2420000000 waits with notice := Notice.powerOn
                                          odo := { (s 2420000000 waits).odo with localisation := .localised } }
    (s 2414861000 []).notice.alerts.length = 21 ∧
    (u (s 2414861000 [])).entry .engagementUnproven = ⟨false, false, true, 1⟩ ∧
    (u (s 2414861000 [])).entry .positionDegraded = ⟨false, false, true, 1⟩ ∧
    (u (s 2414861000 waits)).entry .positionDegraded = ⟨true, false, true, 2⟩ ∧
    (u (s 2414861000 waits)).entry .markerMissed = ⟨false, false, true, 2⟩ ∧
    (u lost).entry .positionDegraded = ⟨true, false, true, 1⟩ ∧
    (u lost).entry .markerUnexpected = ⟨false, false, true, 1⟩ := by decide +kernel

/-- STALL_WINDOW_END of a leaf in WARNING, one sensed closed and one whose read failed, with the window at its end. -/
theorem witness_stall_window_does_not_apply :
    let r := { leafIn .closing (some .driving) 2000 false with stall := some (2000, 0) }
    let u := fun x : LeafRecord => (after (exec (.stallWindowEnd 200000 5) (leaf5 x))).ent.leaves.get 5
    (u r).state = .reopening ∧ u { r with failed := 1 } = { r with failed := 1 } ∧
    u { r with position := some car.closedTol } = { r with position := some car.closedTol } ∧
    u { r with position := none } = { r with position := none } ∧ u { r with stall := none } = { r with stall := none } ∧
    u { r with state := .warning, phase := none } = { r with state := .warning, phase := none } ∧
    u { r with phase := some .locking } = { r with phase := some .locking } := by decide +kernel

/-- SERVICE_INTERVENTION kept by a SET MODE from SHUNT to LINE and cleared by one to PARKED and by a RELEASE TRIP. -/
theorem witness_service_intervention_follows_the_mode :
    let s := fun m : Mode => { parked with
      notice := Notice.powerOn.setEntry .serviceIntervention ⟨true, false, true, 1⟩
      sup := { parked.sup with mode := m, level := .service, modeBefore := some .line } }
    let e := fun (c : Instr) (x : State) => (after (exec c x)).notice.entry .serviceIntervention
    (s .shunt).linkReady ∧ (s .shunt).notice.alerts.length = 21 ∧
    e (.setModeLine 5 9) (s .shunt) = ⟨true, false, true, 1⟩ ∧ e (.setModeParked 5 9) (s .shunt) = ⟨false, false, true, 1⟩ ∧
    e (.releaseTrip 5 9) (s .tripped) = ⟨false, false, true, 1⟩ := by decide +kernel

/-- A RESTART with a degraded record and two reports in the queue. -/
theorem witness_restart_keeps_the_queue :
    let n := { Notice.powerOn with queue := [someReport 0, someReport 1], nextNumber := 2 }
    let s := busy { parked with notice := n, odo := { parked.odo with localisation := .degraded } }
    let u := after (exec (.restart 5 9) s)
    s.linkReady ∧ s.sup.mode = .parked ∧ s.odo.standstill = true ∧ s.sup.testStep = 0 ∧ s.odo.isDegraded = true ∧
    s.notice.queue.length ≤ 20 ∧ u.notice.queue.map Report.number = [0, 1, 2, 3] ∧ (reported u).drop 2 = [1, 4] ∧
    u.sup.pass.mode = .parked := by decide +kernel

/-- The car in LINE with a pass at the front of its queue, which is no state after reset. -/
def stepping : State := { guided with pending := [.supervisionPass 8000] }

theorem witness_steps_keep_the_reports_numbered : stepping.noticeInv := by decide +kernel
theorem witness_steps_keep_the_link_in_order : stepping.linkInv := by decide +kernel
theorem witness_steps_keep_mode_and_level_consistent : stepping.supervisorInv := by decide +kernel
theorem witness_steps_keep_the_brake_slots : stepping.brakeInv := by decide +kernel
theorem witness_steps_keep_the_active_bank_sound : stepping.lineInv := by decide +kernel
theorem witness_steps_keep_the_configuration_valid : stepping.configInv := by decide +kernel
theorem witness_steps_keep_the_odometry_in_range : stepping.odometryInv := by decide +kernel
theorem witness_steps_keep_the_restrictions_ordered : stepping.routeInv := by decide +kernel
theorem witness_steps_keep_the_leaf_outputs : stepping.leavesInv := by decide +kernel

/-- The step of that state answers a next state. -/
theorem witness_steps_answer_a_next_state :
    (match step stepping with
      | .next u => u.sup.pass.time
      | _ => 0) = 8000 := by decide +kernel

end Sys2Proof.Tests
end

section
/-! The permitted speed of an entry (R96): an equation for each branch of `permittedAt`, the root under it, and its
order in the distance. -/

namespace Sys2Proof.Machine

/-! ## The root of R85 and R96 -/

theorem speedRoot_of_ge {q : Nat} (h : 225000000 ≤ q) : speedRoot q = 15000 := if_pos h

theorem speedRoot_of_lt {q : Nat} (h : q < 225000000) : speedRoot q = isqrt q := if_neg (by omega)

/-- Below its bound the root is exact, rounded down. -/
theorem speedRoot_spec {q : Nat} (h : q < 225000000) :
    speedRoot q * speedRoot q ≤ q ∧ q < (speedRoot q + 1) * (speedRoot q + 1) := by
  rw [speedRoot_of_lt h]
  exact isqrt_spec (by omega)

/-- A speed that the part can hold is not above the root of anything its square is not above. -/
theorem le_speedRoot {q k : Nat} (hk : k ≤ 15000) (hq : k * k ≤ q) : k ≤ speedRoot q := by
  rcases Nat.lt_or_ge q 225000000 with hlt | hge
  · rw [speedRoot_of_lt hlt]
    exact le_isqrt (by omega) hq
  · rw [speedRoot_of_ge hge]
    exact hk

/-! ## The branches of R96 -/

theorem unbrakeable_iff {c : ConfigRecord} {a : Int} : unbrakeable c a = true ↔ a < c.aFloor := decide_eq_true_iff

section
variable {c : ConfigRecord} {worst : Int} {distance reaction vt : Nat}

theorem permittedAt_of_unbrakeable (h : netService c worst < c.aFloor) : permittedAt c worst distance reaction vt = 0 :=
  if_pos (unbrakeable_iff.2 h)

theorem permittedAt_within_reaction (ha : (c.aFloor : Int) ≤ netService c worst) (hd : distance ≤ reaction) :
    permittedAt c worst distance reaction vt = vt := by
  rw [permittedAt, if_neg (by rw [unbrakeable_iff]; omega), if_pos hd]

theorem permittedAt_beyond_reaction (ha : (c.aFloor : Int) ≤ netService c worst) (hd : reaction < distance) :
    permittedAt c worst distance reaction vt =
      speedRoot (vt * vt + 2 * (netService c worst).toNat * (distance - reaction)) := by
  rw [permittedAt, if_neg (by rw [unbrakeable_iff]; omega), if_neg (by omega)]

/-- The square that R96 states on signed numbers is the natural number that `permittedAt` takes the root of: a brakeable
retardation is not negative, and beyond the reaction distance the effective distance is not truncated. -/
theorem brakingSquare_cast (ha : (c.aFloor : Int) ≤ netService c worst) (hd : reaction < distance) :
    ((vt * vt + 2 * (netService c worst).toNat * (distance - reaction) : Nat) : Int) =
      (vt : Int) * vt + 2 * netService c worst * ((distance : Int) - reaction) := by
  have hnonneg : ((netService c worst).toNat : Int) = netService c worst := Int.toNat_of_nonneg (by omega)
  push_cast [Nat.cast_sub hd.le, hnonneg]
  rfl

/-! ## Bounds and order of R96 -/

theorem le_permittedAt (ha : (c.aFloor : Int) ≤ netService c worst) (hv : vt ≤ 15000) :
    vt ≤ permittedAt c worst distance reaction vt := by
  rcases Nat.lt_or_ge reaction distance with hd | hd
  · rw [permittedAt_beyond_reaction ha hd]
    exact le_speedRoot hv (Nat.le_add_right _ _)
  · rw [permittedAt_within_reaction ha hd]

theorem permittedAt_le_maxSpeed (ha : (c.aFloor : Int) ≤ netService c worst) (hv : vt ≤ 15000) :
    permittedAt c worst distance reaction vt ≤ 15000 := by
  rcases Nat.lt_or_ge reaction distance with hd | hd
  · rw [permittedAt_beyond_reaction ha hd]
    exact speedRoot_le _
  · rwa [permittedAt_within_reaction ha hd]

/-- The permitted speed does not rise as the car nears the target: past the reaction distance it is the root of a square
that shrinks with the distance, and within it the target speed, the least it can be. -/
theorem permittedAt_mono {nearer : Nat} (ha : (c.aFloor : Int) ≤ netService c worst) (hv : vt ≤ 15000)
    (hn : nearer ≤ distance) : permittedAt c worst nearer reaction vt ≤ permittedAt c worst distance reaction vt := by
  rcases Nat.lt_or_ge reaction nearer with hd | hd
  · rw [permittedAt_beyond_reaction ha hd, permittedAt_beyond_reaction ha (hd.trans_le hn)]
    exact speedRoot_mono (Nat.add_le_add_left (Nat.mul_le_mul_left _ (Nat.sub_le_sub_right hn _)) _)
  · rw [permittedAt_within_reaction ha hd]
    exact le_permittedAt ha hv

end

/-- Settles O35: each clause is a branch of R96; the clauses about the root carry its square to the signed numbers of
the rule. -/
theorem permittedSpeedOfAnEntry : Obligations.PermittedSpeedOfAnEntry := by
  intro c worst distance reaction vt
  dsimp only
  refine ⟨permittedAt_of_unbrakeable, permittedAt_within_reaction, fun ha hd hq => ?saturated, fun ha hd hq => ?root,
    fun ha hv => ⟨le_permittedAt ha hv, permittedAt_le_maxSpeed ha hv, fun _ hn => permittedAt_mono ha hv hn⟩⟩
  case saturated =>
    rw [← brakingSquare_cast ha hd] at hq
    rw [permittedAt_beyond_reaction ha hd]
    exact speedRoot_of_ge (by exact_mod_cast hq)
  case root =>
    rw [← brakingSquare_cast ha hd] at hq ⊢
    rw [permittedAt_beyond_reaction ha hd]
    exact_mod_cast speedRoot_spec (by exact_mod_cast hq)

end Sys2Proof.Machine
end

section
/-! The readouts of IDENTIFY and READ CONFIGURATION (R191, R193) and the coding of the configuration record (10 §10.5):
runs of fields of given widths, their length, and the record read back from its bytes. -/

namespace Sys2Proof.Machine

/-! ## Runs of fields at their widths -/

/-- The values of a run of fields, each at its width, no gaps: what `configBytes` does with the fields of 10 §10.5. -/
def fieldBytes (fs : List (Nat × Nat × Nat)) (vs : List Nat) : List Byte := (fs.zip vs).flatMap fun p => le p.1.1 p.2

/-- The values of a run of fields from an offset, each field standing at the sum of the widths before it. -/
def readFields (p : List Byte) : Nat → List (Nat × Nat × Nat) → List Nat
  | _, [] => []
  | offset, f :: fs => leAt p offset f.1 :: readFields p (offset + f.1) fs

/-- Does each value fit the width of its field, and is there one for each field? -/
abbrev FieldsFit : List (Nat × Nat × Nat) → List Nat → Prop := List.Forall₂ fun f v => v < 256 ^ f.1

@[simp] theorem fieldBytes_cons (f : Nat × Nat × Nat) (fs : List (Nat × Nat × Nat)) (v : Nat) (vs : List Nat) :
    fieldBytes (f :: fs) (v :: vs) = le f.1 v ++ fieldBytes fs vs := rfl

theorem fieldBytes_length {fs : List (Nat × Nat × Nat)} {vs : List Nat} (h : fs.length = vs.length) :
    (fieldBytes fs vs).length = (fs.map (·.1)).sum := by
  have widths : (fs.zip vs).map (·.1.1) = fs.map (·.1) := by
    rw [← List.map_fst_zip h.le, List.map_map, List.map_fst_zip h.le]
    rfl
  simp [fieldBytes, List.length_flatMap, widths]

/-- Values that fit are read back from their bytes, whatever bytes stand before them. -/
theorem readFields_fieldBytes {fs : List (Nat × Nat × Nat)} {vs : List Nat} (fit : FieldsFit fs vs)
    (before : List Byte) : readFields (before ++ fieldBytes fs vs) before.length fs = vs := by
  induction fit generalizing before with
  | nil => rfl
  | @cons f v fs vs hv _ ih =>
    have first : leAt (before ++ fieldBytes (f :: fs) (v :: vs)) before.length f.1 = v := by
      rw [leAt_append before _ f.1 v _ (fieldBytes_cons f fs v vs), Nat.mod_eq_of_lt hv]
    have others := ih (before ++ le f.1 v)
    rw [List.length_append, le_length, List.append_assoc, ← fieldBytes_cons f fs v vs] at others
    rw [readFields, first, others]

/-! ## The configuration record in the CONFIGURE coding (10 §10.5) -/

theorem configBytes_eq_fieldBytes (c : ConfigRecord) : configBytes c = fieldBytes configFields (configValues c) := rfl

theorem configValues_configOfBytes (p : List Byte) : configValues (configOfBytes p) = readFields p 0 configFields := rfl

/-- The coded values determine the record: every field is among them. -/
theorem configValues_injective : Function.Injective configValues := by
  rintro ⟨⟩ ⟨⟩ h
  simpa [configValues] using h

/-- `recordFits` lists the fields by width, `configFields` in field order; the bounds are the same 43. -/
theorem fieldsFit_of_recordFits {c : ConfigRecord} (h : recordFits c = true) :
    FieldsFit configFields (configValues c) := by
  simp only [recordFits, List.all_cons, List.all_nil, Bool.and_true, Bool.and_eq_true, decide_eq_true_eq] at h
  simp only [FieldsFit, configFields, configValues, List.cons_append, List.nil_append, List.forall₂_cons,
    List.Forall₂.nil, and_true]
  omega

@[simp] theorem configBytes_length (c : ConfigRecord) : (configBytes c).length = 76 := fieldBytes_length rfl

theorem configOfBytes_configBytes {c : ConfigRecord} (h : recordFits c = true) : configOfBytes (configBytes c) = c := by
  apply configValues_injective
  rw [configValues_configOfBytes, configBytes_eq_fieldBytes]
  exact readFields_fieldBytes (fieldsFit_of_recordFits h) []

/-! ## The readouts -/

theorem State.configReadout_eq (s : State) :
    s.configReadout = (if s.configured then 1#8 else 0#8) :: configBytes s.cfg := by
  unfold State.configReadout
  cases s.configured <;> rfl

theorem State.identity_eq (s : State) :
    s.identity =
      [0x2E, 0x0B, 0x18, 0x00, 0x01,
        (match s.link.rate with
         | .r57600 => 0
         | .r115200 => 1
         | .r230400 => 2), 0x70] := by
  unfold State.identity
  cases s.link.rate <;> rfl

/-- Settles O14: the readout of the Control Link is the identity, spelled out for each line rate. -/
theorem identifyAnswersTheIdentity : Obligations.IdentifyAnswersTheIdentity := by
  intro t tag s h
  have answered := State.request_unchanged h (r := .identify) (p := [])
    (res := .done (.bytes (s.advance t).identity)) rfl t tag rfl
  rw [State.identity_eq] at answered
  exact congrArg Host.Outcome.next answered

/-- Settles O15: the readout spelled out, and the record read back field by field from its bytes. -/
theorem readConfigurationShowsTheRecord : Obligations.ReadConfigurationShowsTheRecord := by
  refine ⟨fun t tag s h => ?readout, fun c => ⟨configBytes_length c, configOfBytes_configBytes⟩, rfl, rfl, rfl⟩
  case readout =>
    have answered := State.request_unchanged h (r := .readConfiguration) (p := [])
      (res := .done (.bytes (s.advance t).configReadout)) rfl t tag rfl
    rw [State.configReadout_eq] at answered
    exact congrArg Host.Outcome.next answered

end Sys2Proof.Machine
end

section
/-! What a step can run: POWER_ON, or one effect of one family between the advance of the clock and the settling of the
link. An invariant of the blocks is kept by every step when the reset meets it and every request and effect keeps it. -/

namespace Sys2Proof.Machine

/-! ## The effects of the commands, by family -/

/-- The effects of the Odometry Unit's events (chapter 1). -/
inductive OdometryEffect : (State → State) → Prop
  | increment (c : Counter) (e : Edge) : OdometryEffect (State.increment c e)
  | spanComplete : OdometryEffect fun s => if s.spanComplete then s.compareSpan else s
  | markStale : OdometryEffect fun s => { s with odo := s.odo.markStale s.clock.now }
  | declareStandstill : OdometryEffect State.declareStandstill
  | markerEdge : OdometryEffect State.markerEdge
  | completeMatch : OdometryEffect State.completeMatch

/-- The effects of the Supervisor's events (chapter 6). -/
inductive SupervisionEffect : (State → State) → Prop
  | pass : SupervisionEffect State.supervisionPass
  | judgement : SupervisionEffect fun s => if s.judgementDue then s.supervisionPass else s

/-- The effects of the Brake Output Unit's events (chapter 7). -/
inductive BrakeEffect : (State → State) → Prop
  | slotPeriod : BrakeEffect State.slotPeriod
  | idle (c : Channel) : BrakeEffect (State.idleChannel c)
  | write (c : Channel) : BrakeEffect (State.patternWrite c)

/-- The effects of the Radio Framer's and the Route Store's events (chapters 3 and 4). -/
inductive RadioEffect : (State → State) → Prop
  | bits (capture : State → Time) (bits : List Bool) : RadioEffect fun s => s.receiveBits (capture s) bits
  | localMs : RadioEffect fun s => s.freezeRadio.loseRadio.ageRecords
  | freeze : RadioEffect State.freezeRadio
  | lose : RadioEffect State.loseRadio
  | expireAuthority : RadioEffect State.expireAuthority
  | expireRestrictions : RadioEffect State.expireRestrictions
  | uplink : RadioEffect State.buildUplink

/-- The effects of the Entrance Controller's events (chapter 8). -/
inductive EntranceEffect : (State → State) → Prop
  | cycle (inputs : Eight LeafInput) : EntranceEffect (State.entranceCycle inputs)
  | unlockTimeout (i : Fin 8) :
      EntranceEffect fun s => s.putLeaf i ((s.ent.leaves.get i).unlockTimeout s.clock.now)
  | lockTimeout (i : Fin 8) :
      EntranceEffect fun s => s.putLeaf i ((s.ent.leaves.get i).lockTimeout s.clock.now s.cfg.closedTol)
  | warningElapsed (i : Fin 8) :
      EntranceEffect fun s => s.putLeaf i ((s.ent.leaves.get i).warningElapsed s.clock.now s.cfg.warningTime)
  | pauseElapsed (i : Fin 8) :
      EntranceEffect fun s => s.putLeaf i ((s.ent.leaves.get i).pauseElapsed s.clock.now)
  | stallEnd (i : Fin 8) : EntranceEffect fun s => s.putLeaf i ((s.ent.leaves.get i).stallEnd s.clock.now s.cfg)

/-- The effects of the Control Link's events and of the offering of a request (chapter 10). -/
inductive LinkEffect : (State → State) → Prop
  | byte (b : Byte) (e : Bool) : LinkEffect (State.receiveByte b e)
  | timeout : LinkEffect State.byteTimeout
  | transmissionEnd : LinkEffect State.transmissionEnd
  | offer (f : Frame) : LinkEffect (State.offer f)

/-- The effect of a command of any family. -/
inductive Effect (f : State → State) : Prop
  | odometry (h : OdometryEffect f)
  | supervision (h : SupervisionEffect f)
  | brake (h : BrakeEffect f)
  | radio (h : RadioEffect f)
  | entrance (h : EntranceEffect f)
  | link (h : LinkEffect f)

/-- A command is POWER_ON, or runs one effect at its time. -/
theorem exec_cases (c : Instr) (s : State) :
    (∃ a b, exec c s = .next (s.powerOn a b).finish) ∨ ∃ t f, Effect f ∧ exec c s = .next (s.run t f) := by
  cases c with
  | powerOn a b => exact .inl ⟨a, b, rfl⟩
  | increment t c e => exact .inr ⟨t, _, .odometry (.increment c e), rfl⟩
  | agreementSpanComplete t => exact .inr ⟨t, _, .odometry .spanComplete, rfl⟩
  | ringEntryStale t => exact .inr ⟨t, _, .odometry .markStale, rfl⟩
  | standstillDeclared t => exact .inr ⟨t, _, .odometry .declareStandstill, rfl⟩
  | markerDetectorEdge t => exact .inr ⟨t, _, .odometry .markerEdge, rfl⟩
  | matchCompletion t => exact .inr ⟨t, _, .odometry .completeMatch, rfl⟩
  | supervisionPass t => exact .inr ⟨t, _, .supervision .pass, rfl⟩
  | effortWindowJudgement t => exact .inr ⟨t, _, .supervision .judgement, rfl⟩
  | slotPeriodStart t => exact .inr ⟨t, _, .brake .slotPeriod, rfl⟩
  | channelIdle t c => exact .inr ⟨t, _, .brake (.idle c), rfl⟩
  | patternWrite t c => exact .inr ⟨t, _, .brake (.write c), rfl⟩
  | huntFind t bits => exact .inr ⟨t, _, .radio (.bits (fun s => s.clock.localMs) bits), rfl⟩
  | frameCompletion t captured bits => exact .inr ⟨t, _, .radio (.bits (fun s => s.clock.msAt captured) bits), rfl⟩
  | blankSpanEnd t bits => exact .inr ⟨t, _, .radio (.bits (fun s => s.clock.localMs) bits), rfl⟩
  | searchPointAdvance t b => exact .inr ⟨t, _, .radio (.bits (fun s => s.clock.localMs) [b]), rfl⟩
  | localMsAdvance t => exact .inr ⟨t, _, .radio .localMs, rfl⟩
  | tFreezeExpiry t => exact .inr ⟨t, _, .radio .freeze, rfl⟩
  | tLostExpiry t => exact .inr ⟨t, _, .radio .lose, rfl⟩
  | authorityExpiry t => exact .inr ⟨t, _, .radio .expireAuthority, rfl⟩
  | restrictionExpiry t => exact .inr ⟨t, _, .radio .expireRestrictions, rfl⟩
  | uplinkFrameBuild t => exact .inr ⟨t, _, .radio .uplink, rfl⟩
  | entranceCycle t inputs => exact .inr ⟨t, _, .entrance (.cycle inputs), rfl⟩
  | unlockTimeout t i => exact .inr ⟨t, _, .entrance (.unlockTimeout i), rfl⟩
  | lockTimeout t i => exact .inr ⟨t, _, .entrance (.lockTimeout i), rfl⟩
  | warningTimeElapsed t i => exact .inr ⟨t, _, .entrance (.warningElapsed i), rfl⟩
  | reopenPauseElapsed t i => exact .inr ⟨t, _, .entrance (.pauseElapsed i), rfl⟩
  | stallWindowEnd t i => exact .inr ⟨t, _, .entrance (.stallEnd i), rfl⟩
  | controlByteReceived t b e => exact .inr ⟨t, _, .link (.byte b e), rfl⟩
  | byteTimeout t => exact .inr ⟨t, _, .link .timeout, rfl⟩
  | transmissionEnd t => exact .inr ⟨t, _, .link .transmissionEnd, rfl⟩
  | _ => exact .inr ⟨_, _, .link (.offer _), rfl⟩

/-! ## What each family leaves alone -/

theorem OdometryEffect.keeps {f : State → State} (h : OdometryEffect f) (s : State) :
    (f s).outsideOdo = s.outsideOdo := by
  cases h with
  | increment c e => exact State.increment_keeps c e s
  | spanComplete => dsimp only; split <;> first | exact State.compareSpan_keeps s | rfl
  | markStale => rfl
  | declareStandstill => exact State.declareStandstill_keeps s
  | markerEdge => exact State.markerEdge_keeps s
  | completeMatch => exact State.completeMatch_keeps s

theorem SupervisionEffect.keeps {f : State → State} (h : SupervisionEffect f) (s : State) :
    (f s).outsideOdo = s.outsideOdo := by
  cases h with
  | pass => exact State.supervisionPass_keeps s
  | judgement => dsimp only; split <;> first | exact State.supervisionPass_keeps s | rfl

theorem BrakeEffect.keeps {f : State → State} (h : BrakeEffect f) (s : State) :
    (f s).outsideBrake = s.outsideBrake := by
  cases h with
  | slotPeriod => exact State.slotPeriod_keeps s
  | idle c => rfl
  | write c => exact State.patternWrite_keeps c s

theorem RadioEffect.keeps {f : State → State} (h : RadioEffect f) (s : State) :
    (f s).outsideRadio = s.outsideRadio := by
  cases h with
  | bits capture bits => exact State.receiveBits_keeps _ bits s
  | localMs => exact (State.ageRecords_keeps _).trans ((State.loseRadio_keeps _).trans (State.freezeRadio_keeps s))
  | freeze => exact State.freezeRadio_keeps s
  | lose => exact State.loseRadio_keeps s
  | expireAuthority => exact State.expireAuthority_keeps s
  | expireRestrictions => exact State.entriesLeave_keeps ..
  | uplink => rfl

theorem EntranceEffect.keeps {f : State → State} (h : EntranceEffect f) (s : State) :
    (f s).outsideEnt = s.outsideEnt := by
  cases h with
  | cycle inputs => exact State.entranceCycle_keeps inputs s
  | _ => exact State.putLeaf_keeps ..

/-! ## Steps -/

/-- The blocks of the part and its configuration: all but the clock, the notices, the link and the queue. -/
abbrev State.blocks (s : State) :=
  (s.odo, s.line, s.radio, s.route, s.sup, s.brake, s.ent, s.cfg, s.configured)

theorem State.offer_blocks (f : Frame) (s : State) : (s.offer f).blocks = s.blocks := by
  unfold State.offer
  split <;> rfl

theorem State.judgeBytes_blocks (b : List Byte) (s : State) : (s.judgeBytes b).blocks = s.blocks := by
  unfold State.judgeBytes
  split
  · rfl
  · split
    · split
      · exact State.offer_blocks ..
      · rfl
    · rfl

theorem State.testSync_blocks (b : Byte) (e : Bool) (s : State) : (s.testSync b e).blocks = s.blocks := by
  unfold State.testSync
  split <;> rfl

theorem State.receiveByte_blocks (b : Byte) (e : Bool) (s : State) : (s.receiveByte b e).blocks = s.blocks := by
  unfold State.receiveByte
  split
  · exact State.testSync_blocks ..
  · split
    · exact State.testSync_blocks ..
    · split
      · rfl
      · exact State.judgeBytes_blocks ..

theorem LinkEffect.keeps {f : State → State} (h : LinkEffect f) (s : State) : (f s).blocks = s.blocks := by
  cases h with
  | byte b e => exact State.receiveByte_blocks b e s
  | timeout => unfold State.byteTimeout; split <;> rfl
  | transmissionEnd => rfl
  | offer f => exact State.offer_blocks f s

theorem State.grantTransmitter_blocks (s : State) : s.grantTransmitter.blocks = s.blocks := by
  rw [State.grantTransmitter_frame]

theorem State.powerOn_blocks (a b : Bool) (s : State) : (s.powerOn a b).blocks = State.reset.blocks := rfl

/-- The settling of the link keeps what the hand-over and the answer to the oldest frame keep. -/
theorem State.settle_keeps {P : State → Prop} (grant : ∀ s : State, P s → P s.grantTransmitter)
    (answer : ∀ f rest (s : State), s.link.buffer = f :: rest → P s →
      P (State.answer f { s with link := { s.link with buffer := rest } })) :
    ∀ (n : Nat) (s : State), P s → P (s.settle n) := by
  intro n
  induction n with
  | zero => exact grant
  | succ n ih =>
    intro s h
    simp only [State.settle]
    split
    · exact ih _ (answer _ _ _ ‹_› (grant s h))
    · exact grant s h

/-- A property that every effect, the settling of the link and POWER_ON keep is kept by every step. -/
theorem step_keeps {P : State → Prop} (pending : ∀ (s : State) q, P s → P { s with pending := q })
    (advance : ∀ (s : State) t, P s → P (s.advance t)) (powerOn : ∀ (s : State) a b, P s → P (s.powerOn a b))
    (effect : ∀ f, Effect f → ∀ s : State, P s → P (f s)) (finish : ∀ s : State, P s → P s.finish) :
    ∀ s u : State, P s → step s = .next u → P u := by
  intro s u h e
  unfold step at e
  split at e
  · cases e; exact h
  · rename_i c rest _
    have hq := pending s rest h
    rcases exec_cases c { s with pending := rest } with ⟨a, b, hc⟩ | ⟨t, f, hf, hc⟩ <;> rw [hc] at e <;> cases e
    · exact finish _ (powerOn _ a b hq)
    · exact finish _ (effect f hf _ (advance _ t hq))

/-- An invariant of the blocks: every step keeps it when the reset meets it and every request and every effect on a block
keeps it. -/
theorem step_keeps_blocks {P : State → Prop} (of_blocks : ∀ {s u : State}, u.blocks = s.blocks → P s → P u)
    (reset : P State.reset) (perform : ∀ r p (s : State), P s → P (s.perform r p).2)
    (odometry : ∀ {f}, OdometryEffect f → ∀ s : State, P s → P (f s))
    (supervision : ∀ {f}, SupervisionEffect f → ∀ s : State, P s → P (f s))
    (brake : ∀ {f}, BrakeEffect f → ∀ s : State, P s → P (f s))
    (radio : ∀ {f}, RadioEffect f → ∀ s : State, P s → P (f s))
    (entrance : ∀ {f}, EntranceEffect f → ∀ s : State, P s → P (f s)) :
    ∀ s u : State, P s → step s = .next u → P u := by
  have judge : ∀ f (s : State), P s → P (s.judge f).2 := by
    intro f s h
    unfold State.judge
    split
    · exact h
    · split
      · exact perform _ _ s h
      · exact h
  refine step_keeps (fun s q => of_blocks rfl) (fun s t => of_blocks rfl)
    (fun s a b _ => of_blocks (State.powerOn_blocks a b s) reset) ?_
    fun s => State.settle_keeps (P := P) (fun s => of_blocks s.grantTransmitter_blocks) ?_ _ s
  · intro f hf s h
    cases hf with
    | odometry hf => exact odometry hf s h
    | supervision hf => exact supervision hf s h
    | brake hf => exact brake hf s h
    | radio hf => exact radio hf s h
    | entrance hf => exact entrance hf s h
    | link hf => exact of_blocks (hf.keeps s) h
  · intro f rest s _ h
    have popped : P { s with link := { s.link with buffer := rest } } := of_blocks (s := s) rfl h
    exact of_blocks (s := (State.judge f { s with link := { s.link with buffer := rest } }).2) rfl (judge f _ popped)

end Sys2Proof.Machine
end

section
/-! The blocks that each request can change (10 §10.4), and the invariants of the link, the configuration record, the brake
channels and the line banks, which follow from it with little more. -/

namespace Sys2Proof.Machine

/-! ## What each request can change -/

theorem State.eq_of_outsideOdo {s u : State} (h : u.outsideOdo = s.outsideOdo) :
    u = { s with odo := u.odo, sup := u.sup, notice := u.notice } := by
  cases s; cases u
  simp only [State.outsideOdo, Prod.mk.injEq] at h
  simp [h]

theorem State.eq_of_outsideEnt {s u : State} (h : u.outsideEnt = s.outsideEnt) :
    u = { s with ent := u.ent, notice := u.notice } := by
  cases s; cases u
  simp only [State.outsideEnt, Prod.mk.injEq] at h
  simp [h]

theorem State.eq_of_outsideRadio {s u : State} (h : u.outsideRadio = s.outsideRadio) :
    u = { s with radio := u.radio, route := u.route, notice := u.notice } := by
  cases s; cases u
  simp only [State.outsideRadio, Prod.mk.injEq] at h
  simp [h]

theorem State.eq_of_outsideBrake {s u : State} (h : u.outsideBrake = s.outsideBrake) :
    u = { s with brake := u.brake, sup := u.sup, notice := u.notice } := by
  cases s; cases u
  simp only [State.outsideBrake, Prod.mk.injEq] at h
  simp [h]

/-- The requests that can change the Supervisor only (beside the notices). -/
def Request.ofSupervisor : List Request := [.setMode, .driveState, .releaseTrip, .detectorTest, .clearFaultRecord]

/-- The requests that can change the Entrance Controller only (beside the notices). -/
def Request.ofEntrances : List Request := [.entranceCommand, .entranceIsolate, .takeoverRequest, .takeoverReturn]

theorem State.setLevel_odo (n : Level) (v p : Nat) (s : State) : (s.setLevel n v p).odo = s.odo := by
  unfold State.setLevel; dsimp only; split <;> rfl

theorem State.changeMode_odo (m : Mode) (s : State) : (s.changeMode m).odo = s.odo := by
  simp only [State.changeMode, State.setCondition_odo, State.setLevel_odo, State.post_odo]

theorem State.setMode_odo (m : Mode) (s : State) : (s.setMode m).2.odo = s.odo := by
  unfold State.setMode
  split
  · rfl
  · split
    · rfl
    · split
      · exact State.changeMode_odo m s
      · rfl

theorem State.setModeCode_odo (n : Nat) (s : State) : (s.setModeCode n).2.odo = s.odo := by
  unfold State.setModeCode
  split
  · exact State.setMode_odo ..
  · split
    · exact State.setMode_odo ..
    · split
      · exact State.setMode_odo ..
      · rfl

theorem State.setModeCode_keeps (n : Nat) (s : State) : (s.setModeCode n).2.outsideOdo = s.outsideOdo := by
  unfold State.setModeCode
  split
  · exact State.setMode_keeps ..
  · split
    · exact State.setMode_keeps ..
    · split
      · exact State.setMode_keeps ..
      · rfl

theorem State.setDrive_odo (a b c : Nat) (s : State) : (s.setDrive a b c).2.odo = s.odo := by
  unfold State.setDrive
  split
  · rfl
  · split <;> rfl

theorem State.releaseTrip_odo (s : State) : s.releaseTrip.2.odo = s.odo := by
  unfold State.releaseTrip
  split
  · simp only [State.setCondition_odo, State.setLevel_odo, State.post_odo]
  · rfl

theorem State.handleFaults_odo (l : List (FaultKind × Option Nat)) (s : State) : (s.handleFaults l).odo = s.odo := by
  unfold State.handleFaults
  (repeat' split) <;> rfl

theorem State.testEffects_odo (n : Nat) (s : State) : (s.testEffects n).odo = s.odo := by
  unfold State.testEffects
  (repeat' split) <;> first | rfl | exact State.handleFaults_odo ..

theorem State.detectorTest_odo (s : State) : s.detectorTest.2.odo = s.odo := by
  unfold State.detectorTest
  split
  · exact State.testEffects_odo ..
  · rfl

theorem State.afterPlacement_sup (s : State) : s.afterPlacement.sup = s.sup := by
  unfold State.afterPlacement; dsimp only; (repeat' split) <;> rfl

theorem State.placeCar_sup (p u : Nat) (s : State) : (s.placeCar p u).sup = s.sup := by
  simp only [State.placeCar, State.publishOdometry_sup, State.afterPlacement_sup]

theorem State.setPosition_sup (p u : Nat) (s : State) : (s.setPosition p u).2.sup = s.sup := by
  unfold State.setPosition
  split
  · split
    · rfl
    · split
      · rfl
      · exact State.placeCar_sup ..
  · rfl

/-- What a request can change, by its kind: one block and the notices; the three requests over several blocks are named. -/
inductive Request.Touches (r : Request) (p : List Byte) (s u : State) : Prop
  | supervisor (h : r ∈ Request.ofSupervisor) (e : u = { s with sup := u.sup, notice := u.notice })
  | odometry (h : r = .setPosition) (e : u = { s with odo := u.odo, notice := u.notice })
  | line (h : r ∈ [Request.loadHeader, .loadSegment, .checkBank]) (e : u = { s with line := u.line })
  | radio (h : r ∈ [Request.clearRadioCounters, .uplinkNote]) (e : u = { s with radio := u.radio })
  | entrances (h : r ∈ Request.ofEntrances) (e : u = { s with ent := u.ent, notice := u.notice })
  | swap (h : r = .swapBank) (e : u = s.swapBank.2)
  | configure (h : r = .configure) (e : u = (s.configure (configOfBytes p)).2)
  | restart (h : r = .restart) (e : u = s.restart.2)
  | notice (e : u = { s with notice := u.notice })

theorem State.perform_touches (r : Request) (p : List Byte) (s : State) : r.Touches p s (s.perform r p).2 := by
  have supervisor : ∀ {u : State}, u.outsideOdo = s.outsideOdo → u.odo = s.odo →
      u = { s with sup := u.sup, notice := u.notice } := by
    intro u h ho
    have := State.eq_of_outsideOdo h
    rwa [ho] at this
  cases r with
  | setMode => exact .supervisor (by decide) (supervisor (State.setModeCode_keeps ..) (State.setModeCode_odo ..))
  | driveState => exact .supervisor (by decide) (supervisor (State.setDrive_keeps ..) (State.setDrive_odo ..))
  | releaseTrip => exact .supervisor (by decide) (supervisor s.releaseTrip_keeps s.releaseTrip_odo)
  | detectorTest => exact .supervisor (by decide) (supervisor s.detectorTest_keeps s.detectorTest_odo)
  | clearFaultRecord => exact .supervisor (by decide) rfl
  | setPosition =>
    have frame := State.eq_of_outsideOdo (State.setPosition_keeps (leAt p 0 3) (leAt p 3 2) s)
    rw [State.setPosition_sup] at frame
    exact .odometry rfl frame
  | loadHeader | loadSegment | checkBank => exact .line (by decide) rfl
  | clearRadioCounters | uplinkNote => exact .radio (by decide) rfl
  | entranceCommand => exact .entrances (by decide) (State.eq_of_outsideEnt (State.entranceCommand_keeps ..))
  | entranceIsolate => exact .entrances (by decide) (State.eq_of_outsideEnt (State.entranceIsolate_keeps ..))
  | takeoverRequest => exact .entrances (by decide) (State.eq_of_outsideEnt (State.takeoverRequest_keeps ..))
  | takeoverReturn => exact .entrances (by decide) (State.eq_of_outsideEnt (State.takeoverReturn_keeps ..))
  | swapBank => exact .swap rfl rfl
  | configure => exact .configure rfl rfl
  | restart => exact .restart rfl rfl
  | ackAlerts =>
    refine .notice ?_
    simp only [State.perform, State.ackAlerts]
    split <;> rfl
  | _ => exact .notice rfl

/-! ## The link -/

/-- The hand-over leaves no reply and no report before an idle transmitter. -/
theorem State.grantTransmitter_busyIf (s : State) :
    (s.grantTransmitter.link.waiting.isSome = true → s.grantTransmitter.link.tx.isSome = true) ∧
    (s.grantTransmitter.notice.queue ≠ [] → s.grantTransmitter.link.tx.isSome = true) := by
  cases h : s.link.tx with
  | some f => rw [State.grantTransmitter_busy h]; simp [h]
  | none =>
    cases w : s.link.waiting with
    | some r => rw [State.grantTransmitter_reply h w]; simp
    | none =>
      cases q : s.notice.queue with
      | nil => rw [State.grantTransmitter_idle w q]; simp [w, q]
      | cons r rest => rw [State.grantTransmitter_report h w q]; simp

/-- Settling with a turn for each frame leaves the link in order, whatever the effect before it has done. -/
theorem State.linkInv_settle : ∀ (n : Nat) (s : State), s.link.buffer.length = n → n ≤ 4 → (s.settle n).linkInv := by
  intro n
  induction n with
  | zero =>
    intro s h _
    have empty : s.link.buffer = [] := List.length_eq_zero_iff.mp h
    exact ⟨by simp [State.settle, empty], by simp [State.settle, empty], s.grantTransmitter_busyIf⟩
  | succ n ih =>
    intro s h hn
    simp only [State.settle]
    split
    · rename_i f rest _ hb
      rw [State.grantTransmitter_buffer] at hb
      exact ih _ (by simpa [State.answer_link, hb] using h) (by omega)
    · rename_i hno
      refine ⟨by simp [h, hn], fun hb => ?_, s.grantTransmitter_busyIf⟩
      obtain ⟨f, rest, hb⟩ := List.exists_cons_of_ne_nil hb
      cases hw : s.grantTransmitter.link.waiting with
      | some r => rfl
      | none => exact absurd hb (hno f rest hw)

/-- A frame joins the receive buffer only while it holds fewer than 4. -/
theorem State.offer_buffer {s : State} (h : s.link.buffer.length ≤ 4) (f : Frame) :
    (s.offer f).link.buffer.length ≤ 4 := by
  unfold State.offer
  split
  · rename_i hlt
    simpa [Config.receiveBuffer] using hlt
  · exact h

theorem State.judgeBytes_buffer {s : State} (h : s.link.buffer.length ≤ 4) (b : List Byte) :
    (s.judgeBytes b).link.buffer.length ≤ 4 := by
  unfold State.judgeBytes
  split
  · exact h
  · split
    · split
      · exact State.offer_buffer (s := s.awaitSync) h _
      · exact h
    · exact h

theorem State.testSync_buffer (b : Byte) (e : Bool) (s : State) : (s.testSync b e).link.buffer = s.link.buffer := by
  unfold State.testSync
  split <;> rfl

theorem State.receiveByte_buffer {s : State} (h : s.link.buffer.length ≤ 4) (b : Byte) (e : Bool) :
    (s.receiveByte b e).link.buffer.length ≤ 4 := by
  unfold State.receiveByte
  split
  · rwa [State.testSync_buffer]
  · split
    · rwa [State.testSync_buffer]
    · split
      · exact h
      · exact State.judgeBytes_buffer h _

theorem LinkEffect.buffer {f : State → State} (hf : LinkEffect f) {s : State} (h : s.link.buffer.length ≤ 4) :
    (f s).link.buffer.length ≤ 4 := by
  cases hf with
  | byte b e => exact State.receiveByte_buffer h b e
  | timeout => unfold State.byteTimeout; split <;> exact h
  | transmissionEnd => exact h
  | offer f => exact State.offer_buffer h f

/-- Effects of the other families leave the link alone. -/
theorem Effect.buffer {f : State → State} (hf : Effect f) {s : State} (h : s.link.buffer.length ≤ 4) :
    (f s).link.buffer.length ≤ 4 := by
  cases hf with
  | odometry hf => rwa [State.eq_of_outsideOdo (hf.keeps s)]
  | supervision hf => rwa [State.eq_of_outsideOdo (hf.keeps s)]
  | brake hf => rwa [State.eq_of_outsideBrake (hf.keeps s)]
  | radio hf => rwa [State.eq_of_outsideRadio (hf.keeps s)]
  | entrance hf => rwa [State.eq_of_outsideEnt (hf.keeps s)]
  | link hf => exact hf.buffer h

theorem State.linkInv_finish {s : State} (h : s.link.buffer.length ≤ 4) : s.finish.linkInv :=
  State.linkInv_settle _ s rfl h

theorem State.powerOn_link (a b : Bool) (s : State) : (s.powerOn a b).link = Link.powerOn a b := rfl

theorem State.powerOn_buffer (a b : Bool) (s : State) : (s.powerOn a b).link.buffer.length ≤ 4 := by
  rw [State.powerOn_link]
  exact Nat.zero_le 4

/-- Settles O53: whatever an effect leaves, a command ends with the link settled. -/
theorem stepsKeepTheLinkInOrder : Obligations.StepsKeepTheLinkInOrder := by
  intro s u h e
  unfold step at e
  split at e
  · cases e; exact h
  · rename_i c rest _
    rcases exec_cases c { s with pending := rest } with ⟨a, b, hc⟩ | ⟨t, f, hf, hc⟩ <;> rw [hc] at e <;> cases e
    · exact State.linkInv_finish (State.powerOn_buffer a b _)
    · exact State.linkInv_finish (hf.buffer h.1)

/-! ## The configuration record -/

theorem State.loseRadio_route (s : State) : s.loseRadio.route = s.route := by
  unfold State.loseRadio
  (repeat' split) <;> rfl

theorem State.freezeRadio_route (s : State) : s.freezeRadio.route = s.route := by
  unfold State.freezeRadio
  (repeat' split) <;> rfl

theorem State.rejudgeRadio_frame (s : State) :
    s.rejudgeRadio = { s with radio := s.rejudgeRadio.radio, notice := s.rejudgeRadio.notice } := by
  have route : s.rejudgeRadio.route = s.route := (State.freezeRadio_route _).trans s.loseRadio_route
  have frame := State.eq_of_outsideRadio s.rejudgeRadio_keeps
  rwa [route] at frame

theorem State.afterPlacement_odoOnly (s : State) : s.afterPlacement = { s with odo := s.afterPlacement.odo } := by
  unfold State.afterPlacement
  dsimp only
  (repeat' split) <;> rfl

/-- A CONFIGURE that is taken changes the record, the Odometry Unit, the radio and the notices (R190, R198). -/
theorem State.takeConfig_frame (c : ConfigRecord) (s : State) :
    ∃ o r n, s.takeConfig c = { s with cfg := c, configured := true, odo := o, radio := r, notice := n } := by
  have placed : ∀ (b : Bool) (u : State), ∃ o r n,
      (if b then u.afterPlacement.dropSpan else u.afterPlacement).publishOdometry.rejudgeRadio =
        { u with odo := o, radio := r, notice := n } := by
    intro b u
    rw [State.rejudgeRadio_frame]
    cases b <;> rw [State.afterPlacement_odoOnly] <;> exact ⟨_, _, _, rfl⟩
  obtain ⟨o, r, n, h⟩ := placed _ _
  exact ⟨o, r, n, h⟩

theorem State.configInv_configure {s : State} (h : s.configInv) (c : ConfigRecord) : (s.configure c).2.configInv := by
  unfold State.configure
  split
  · split
    · exact h
    · rename_i hc
      obtain ⟨o, r, n, e⟩ := s.takeConfig_frame c
      rw [e]
      exact ⟨fun hf => Bool.noConfusion hf, fun _ => hc⟩
  · exact h

/-- The record of a request that does not configure stands. -/
theorem State.perform_cfg {r : Request} (hr : r ≠ .configure) (p : List Byte) (s : State) :
    (s.perform r p).2.cfg = s.cfg ∧ (s.perform r p).2.configured = s.configured := by
  cases s.perform_touches r p with
  | swap h e =>
    rw [e]
    unfold State.swapBank
    split <;> exact ⟨rfl, rfl⟩
  | restart h e =>
    rw [e]
    unfold State.restart
    split <;> exact ⟨rfl, rfl⟩
  | configure h e => exact absurd h hr
  | _ => rename_i e; rw [e]; exact ⟨rfl, rfl⟩

/-- Settles O57: CONFIGURE alone writes the record, and only one that passes every check. -/
theorem stepsKeepTheConfigurationValid : Obligations.StepsKeepTheConfigurationValid := by
  refine step_keeps_blocks (P := State.configInv) ?_ ⟨fun _ => rfl, fun h => absurd h (by decide)⟩ ?_
    (fun hf s h => ?_) (fun hf s h => ?_) (fun hf s h => ?_) (fun hf s h => ?_) (fun hf s h => ?_)
  · intro s u hb h
    simp only [State.blocks, Prod.mk.injEq] at hb
    simpa only [State.configInv, hb] using h
  · intro r p s h
    by_cases hr : r = .configure
    · subst hr; exact State.configInv_configure h _
    · simpa only [State.configInv, State.perform_cfg hr] using h
  · rwa [State.eq_of_outsideOdo (hf.keeps s)]
  · rwa [State.eq_of_outsideOdo (hf.keeps s)]
  · rwa [State.eq_of_outsideBrake (hf.keeps s)]
  · rwa [State.eq_of_outsideRadio (hf.keeps s)]
  · rwa [State.eq_of_outsideEnt (hf.keeps s)]

end Sys2Proof.Machine
end

section
/-! The invariants of the brake channels, the line banks, the Supervisor, the route records and the leaves: each operation
on the block keeps them, every other leaves the block alone. -/

namespace Sys2Proof.Machine

/-! ## Brake channels -/

/-- The invariant of a channel of the unit. -/
theorem Brake.inv_channel {s : State} (h : s.brakeInv) (c : Channel) : (s.brake.channel c).inv c := by
  obtain ⟨hs, hb, he⟩ := h
  cases c
  exacts [hs, hb, he]

theorem State.brakeInv_of_channel {s : State} (h : ∀ c, (s.brake.channel c).inv c) : s.brakeInv :=
  ⟨h .service, h .band, h .emergency⟩

theorem State.brakeInv_setChannel {s : State} (h : s.brakeInv) {c : Channel} {x : BrakeChannel} (hx : x.inv c) :
    State.brakeInv { s with brake := s.brake.setChannel c x } := by
  refine State.brakeInv_of_channel fun d => ?_
  by_cases hd : d = c
  · subst hd; simpa using hx
  · simpa only [Brake.channel_setChannel_other _ _ _ _ hd] using Brake.inv_channel h d

theorem State.brakeInv_putChannel {s : State} (h : s.brakeInv) {c : Channel} {x : BrakeChannel} (hx : x.inv c)
    (fault : Bool) : (s.putChannel c x fault).brakeInv := by
  unfold State.putChannel
  cases fault <;> exact State.brakeInv_setChannel h hx

theorem BrakeChannel.inv_idleAt {c : Channel} {x : BrakeChannel} (h : x.inv c) (n : BitVec 32) : (x.idleAt n).inv c := by
  unfold BrakeChannel.idleAt
  split <;> exact h

/-- An emitted slot stays valid on SERVICE; on a single channel it is neither valid nor fresh. -/
theorem BrakeChannel.inv_emit {c : Channel} {x : BrakeChannel} (h : x.inv c) {i : Nat} (hi : i < 64) :
    (x.emit c i).inv c := by
  obtain ⟨length, run, service, single⟩ := h
  have slot : x.slots.getD i ⟨false, false, false⟩ ∈ x.slots := by
    rw [List.getD_eq_getElem _ _ (by omega)]
    exact List.getElem_mem _
  refine ⟨by simp [BrakeChannel.emit, length], ?_, fun hc y hy => ?_, fun hc y hy => ?_⟩
  · simp only [BrakeChannel.emit]
    split <;> omega
  · rcases List.mem_or_eq_of_mem_set hy with hy | rfl
    · exact service hc y hy
    · subst hc
      change (x.slots.getD i ⟨false, false, false⟩).valid = true
      exact service rfl _ slot
  · rcases List.mem_or_eq_of_mem_set hy with hy | rfl
    · exact single hc y hy
    · cases c
      · exact absurd rfl hc
      · rfl
      · rfl

theorem cycleSlot_lt (n : BitVec 32) : cycleSlot n < 64 := Nat.mod_lt _ (by decide)

/-- A slot of a placed write is a slot of before, or a placed one: valid and fresh. -/
theorem mem_placeFrom {d : Demand} {first k : Nat} {y : Slot} : ∀ {i : Nat} {l : List Slot},
    y ∈ placeFrom d first k i l → y ∈ l ∨ (y.valid = true ∧ y.fresh = true) := by
  intro i l
  induction l generalizing i with
  | nil => exact fun h => .inl h
  | cons x xs ih =>
    intro h
    rw [placeFrom, List.mem_cons] at h
    rcases h with rfl | h
    · split
      · exact .inr ⟨rfl, rfl⟩
      · exact .inl List.mem_cons_self
    · exact (ih h).imp_left (List.mem_cons_of_mem x)

theorem BrakeChannel.inv_place {c : Channel} {x : BrakeChannel} (h : x.inv c) (d : Demand) (start : BitVec 32) (k : Nat) :
    (x.place d start k).inv c := by
  obtain ⟨length, run, service, single⟩ := h
  refine ⟨by simpa [BrakeChannel.place] using length, run, fun hc y hy => ?_, fun hc y hy => ?_⟩
  · rcases mem_placeFrom hy with hy | ⟨hv, _⟩
    exacts [service hc y hy, hv]
  · rcases mem_placeFrom hy with hy | ⟨hv, hf⟩
    exacts [single hc y hy, hf.trans hv.symm]

theorem BrakeChannel.inv_write {c : Channel} {x : BrakeChannel} (h : x.inv c) (d : Demand) (n : BitVec 32) :
    (x.write d n).inv c := by
  have record : (x.record d n).inv c := h
  rcases BrakeChannel.write_cases d n x with ⟨_, _, e⟩ | ⟨_, _, _, _, _, e⟩ | ⟨_, _, _, _, e⟩ <;> rw [e]
  exacts [BrakeChannel.inv_place record .., BrakeChannel.inv_place record .., record]

theorem State.brakeInv_emitChannel {s : State} (h : s.brakeInv) (c : Channel) : (s.emitChannel c).brakeInv :=
  State.brakeInv_putChannel h (BrakeChannel.inv_emit (BrakeChannel.inv_idleAt (Brake.inv_channel h c) _) (cycleSlot_lt _)) _

theorem State.brakeInv_nextSlot {s : State} (h : s.brakeInv) : State.brakeInv { s with brake := s.brake.nextSlot } := by
  have channels : s.brake.nextSlot.service = s.brake.service ∧ s.brake.nextSlot.band = s.brake.band ∧
      s.brake.nextSlot.emergency = s.brake.emergency := by
    unfold Brake.nextSlot
    split <;> exact ⟨rfl, rfl, rfl⟩
  simpa only [State.brakeInv, channels] using h

theorem State.brakeInv_slotPeriod {s : State} (h : s.brakeInv) : s.slotPeriod.brakeInv := by
  have h1 := State.brakeInv_emitChannel (State.brakeInv_nextSlot h) .service
  have h2 := State.brakeInv_emitChannel h1 .band
  have h3 := State.brakeInv_emitChannel h2 .emergency
  unfold State.slotPeriod
  exact h3

theorem State.brakeInv_patternWrite {s : State} (h : s.brakeInv) (c : Channel) : (s.patternWrite c).brakeInv := by
  unfold State.patternWrite
  split
  · exact h
  · unfold State.deliverWrite
    refine State.brakeInv_putChannel (s := { s with sup := { s.sup with prepared := s.sup.prepared.without c } }) h ?_ _
    exact BrakeChannel.inv_write (Brake.inv_channel h c) ..

theorem BrakeEffect.brakeInv {f : State → State} (hf : BrakeEffect f) {s : State} (h : s.brakeInv) : (f s).brakeInv := by
  cases hf with
  | slotPeriod => exact State.brakeInv_slotPeriod h
  | idle c => exact State.brakeInv_setChannel h (BrakeChannel.inv_idleAt (Brake.inv_channel h c) _)
  | write c => exact State.brakeInv_patternWrite h c

theorem BrakeChannel.inv_reset : BrakeChannel.servicePowerOn.inv .service ∧ BrakeChannel.singlePowerOn.inv .band ∧
    BrakeChannel.singlePowerOn.inv .emergency := by decide

/-- Settles O55: an emission and a placed write keep a channel, and nothing else writes a slot. -/
theorem stepsKeepTheBrakeSlots : Obligations.StepsKeepTheBrakeSlots := by
  refine step_keeps_blocks (P := State.brakeInv) ?_ BrakeChannel.inv_reset ?_
    (fun hf s h => ?_) (fun hf s h => ?_) (fun hf s h => hf.brakeInv h) (fun hf s h => ?_) (fun hf s h => ?_)
  · intro s u hb h
    simp only [State.blocks, Prod.mk.injEq] at hb
    simpa only [State.brakeInv, hb] using h
  · intro r p s h
    have kept : (s.perform r p).2.brake = s.brake := congrArg (fun v => v.2.1) (State.perform_keeps r p s)
    simpa only [State.brakeInv, kept] using h
  · rwa [State.eq_of_outsideOdo (hf.keeps s)]
  · rwa [State.eq_of_outsideOdo (hf.keeps s)]
  · rwa [State.eq_of_outsideRadio (hf.keeps s)]
  · rwa [State.eq_of_outsideEnt (hf.keeps s)]

/-! ## Line banks -/

/-- The invariant of the Line Store by itself. -/
abbrev LineStore.inv (l : LineStore) : Prop :=
  (∀ n, (l.bank n).inv) ∧ ∀ n, (l.bank n).state = .active ↔ l.active = some n

theorem State.lineInv_iff {s : State} : s.lineInv ↔ s.line.inv := by
  constructor
  · rintro ⟨ha, hb, sa, sb⟩
    exact ⟨fun n => by cases n <;> assumption, fun n => by cases n <;> assumption⟩
  · rintro ⟨hi, hs⟩
    exact ⟨hi .a, hi .b, hs .a, hs .b⟩

theorem LineStore.standby_ne_active {l : LineStore} : l.active ≠ some l.standby := by
  unfold LineStore.standby
  split <;> simp_all

/-- A standby bank replaced by one in order that is not ACTIVE. -/
theorem LineStore.inv_setStandby {l : LineStore} (h : l.inv) {b : Bank} (hb : b.inv) (hs : b.state ≠ .active) :
    (l.setStandby b).inv := by
  obtain ⟨banks, states⟩ := h
  refine ⟨fun n => ?_, fun n => ?_⟩ <;> simp only [LineStore.setStandby, LineStore.setBank_active] <;>
    by_cases hn : n = l.standby
  · rw [hn, LineStore.bank_setBank_self]; exact hb
  · rw [LineStore.bank_setBank_other _ _ hn]; exact banks n
  · rw [hn, LineStore.bank_setBank_self]
    exact iff_of_false hs LineStore.standby_ne_active
  · rw [LineStore.bank_setBank_other _ _ hn]; exact states n

/-- The judgement reads the header and the places only. -/
theorem Bank.judge_congr {a b : Bank} (hh : a.header = b.header) (hp : a.places = b.places) : a.judge = b.judge := by
  simp only [Bank.judge, Bank.views, hh, hp]

theorem Bank.inv_setState {b : Bank} (h : b.inv) {x : BankState} (hx : x = .checked ∨ x = .active → b.judge = .passed) :
    Bank.inv { b with state := x } :=
  ⟨h.1, hx⟩

theorem LineStore.inv_loadHeader {l : LineStore} (h : l.inv) (i n e : Nat) : (l.loadHeader i n e).2.inv := by
  unfold LineStore.loadHeader
  split
  · exact h
  · exact LineStore.inv_setStandby h
      ⟨(h.1 _).1, fun hs => by simp [Bank.setHeader, Bank.loaded] at hs⟩ (by simp [Bank.setHeader, Bank.loaded])

theorem LineStore.inv_loadSegment {l : LineStore} (h : l.inv) (f : SegmentFields) : (l.loadSegment f).2.inv := by
  unfold LineStore.loadSegment
  split
  · exact h
  · refine LineStore.inv_setStandby h ⟨?_, fun hs => by simp [Bank.setPlace, Bank.loaded] at hs⟩
      (by simp [Bank.setPlace, Bank.loaded])
    simpa [Bank.setPlace, Bank.loaded, LineStore.standbyBank] using (h.1 l.standby).1

theorem LineStore.inv_check {l : LineStore} (h : l.inv) : l.check.2.inv := by
  unfold LineStore.check
  dsimp only
  split
  · exact h
  · refine LineStore.inv_setStandby h ⟨(h.1 _).1, fun hs => ?_⟩ ?_
    · by_cases passed : l.standbyBank.judge = .passed
      · exact passed
      · simp [Bank.judged, passed] at hs
    · simp only [Bank.judged]
      split <;> simp

/-- A swap of a CHECKED standby bank: it becomes the active one, and the active one CHECKED. -/
theorem LineStore.inv_swap {l : LineStore} (h : l.inv) (hs : l.standbyBank.state = .checked) : l.swap.inv := by
  obtain ⟨banks, states⟩ := h
  have judged : ∀ n, (l.bank n).state = .checked ∨ (l.bank n).state = .active → (l.bank n).judge = .passed :=
    fun n => (banks n).2
  have length : ∀ n, (l.bank n).places.length = 128 := fun n => (banks n).1
  cases ha : l.active with
  | none =>
    simp only [LineStore.standbyBank, LineStore.standby, ha] at hs
    refine ⟨fun n => ?_, fun n => ?_⟩ <;> cases n <;>
      simp only [LineStore.swap, LineStore.standby, ha, LineStore.setBank, LineStore.bank]
    · exact ⟨length .a, fun _ => judged .a (.inl hs)⟩
    · exact banks .b
    · have := states .b
      simp only [LineStore.bank, ha] at this
      simpa using this
  | some o =>
    have old := (states o).2 ha
    cases o <;> simp only [LineStore.standbyBank, LineStore.standby, ha] at hs <;>
      refine ⟨fun n => ?_, fun n => ?_⟩ <;> cases n <;>
      simp only [LineStore.swap, LineStore.standby, ha, LineStore.setBank, LineStore.bank, reduceCtorEq,
        Option.some.injEq]
    · exact ⟨length .a, fun _ => judged .a (.inr old)⟩
    · exact ⟨length .b, fun _ => judged .b (.inl hs)⟩
    · exact ⟨length .a, fun _ => judged .a (.inl hs)⟩
    · exact ⟨length .b, fun _ => judged .b (.inr old)⟩

theorem State.perform_line {s : State} (h : s.line.inv) (r : Request) (p : List Byte) : (s.perform r p).2.line.inv := by
  cases s.perform_touches r p with
  | line hr e =>
    fin_cases hr
    exacts [LineStore.inv_loadHeader h .., LineStore.inv_loadSegment h _, LineStore.inv_check h]
  | swap hr e =>
    rw [e]
    unfold State.swapBank
    split
    · rename_i allowed
      refine LineStore.inv_swap h ?_
      simp only [State.swapAllowed, Bool.and_eq_true, beq_iff_eq] at allowed
      exact allowed.2
    · exact h
  | configure hr e =>
    rw [e]
    unfold State.configure
    split
    · split
      · exact h
      · obtain ⟨o, r, n, e⟩ := s.takeConfig_frame (configOfBytes p)
        rw [e]
        exact h
    · exact h
  | restart hr e =>
    rw [e]
    unfold State.restart
    split <;> exact h
  | _ => rename_i e; rw [e]; exact h

/-- Settles O56: a load leaves the standby bank LOADING, a check judges it, a swap exchanges the two. -/
theorem stepsKeepTheActiveBankSound : Obligations.StepsKeepTheActiveBankSound := by
  refine step_keeps_blocks (P := State.lineInv) ?_ ?_ ?_
    (fun hf s h => ?_) (fun hf s h => ?_) (fun hf s h => ?_) (fun hf s h => ?_) (fun hf s h => ?_)
  · intro s u hb h
    simp only [State.blocks, Prod.mk.injEq] at hb
    simpa only [State.lineInv, hb] using h
  · exact ⟨⟨rfl, by decide⟩, ⟨rfl, by decide⟩, by decide, by decide⟩
  · intro r p s h
    exact State.lineInv_iff.2 (State.perform_line (State.lineInv_iff.1 h) r p)
  · rwa [State.eq_of_outsideOdo (hf.keeps s)]
  · rwa [State.eq_of_outsideOdo (hf.keeps s)]
  · rwa [State.eq_of_outsideBrake (hf.keeps s)]
  · rwa [State.eq_of_outsideRadio (hf.keeps s)]
  · rwa [State.eq_of_outsideEnt (hf.keeps s)]

end Sys2Proof.Machine
end

section
/-! What the Odometry Unit's operations are made of: changes of its own record, notices, and the engagement failure handed
to the Supervisor. A property that each of these keeps is kept by every effect of the unit. -/

namespace Sys2Proof.Machine

/-- A property of the state that a change of the odometry, a notice and the engagement hand-over each keep. -/
structure OdometryClosed (P : State → Prop) : Prop where
  odo : ∀ (s : State) (o : Odometry), P s → P { s with odo := o }
  post : ∀ (s : State) (b : ReportBody), P s → P (s.post b)
  raise : ∀ (s : State) (k : AlertKind), P s → P (s.raise k)
  setCondition : ∀ (s : State) (k : AlertKind) (b : Bool), P s → P (s.setCondition k b)
  failure : ∀ s : State, P s → P { s with sup := { s.sup with engagementFailure := true } }

namespace OdometryClosed

variable {P : State → Prop} (C : OdometryClosed P) {s : State}

include C

theorem publishOdometry (h : P s) : P s.publishOdometry :=
  C.setCondition _ _ _ (C.setCondition _ _ _ (C.setCondition _ _ _ h))

theorem degrade (h : P s) : P s.degrade := C.publishOdometry (C.odo _ _ h)

theorem compareSpan (h : P s) : P s.compareSpan := by
  unfold State.compareSpan
  dsimp only
  split
  · exact C.degrade (C.setCondition _ _ _ (C.odo _ _ h))
  · exact C.publishOdometry (C.odo _ _ h)

theorem compareComplete (h : P s) : P (if s.spanComplete then s.compareSpan else s) := by
  split
  · exact C.compareSpan h
  · exact h

theorem missMarker (h : P s) (m : Marker) : P (s.missMarker m) :=
  C.publishOdometry (C.odo _ _ (C.raise _ _ (C.odo _ _ h)))

theorem missedTest (h : P s) (d : Dir) (m : Option Marker) : P (s.missedTest d m) := by
  unfold State.missedTest
  split
  · exact h
  · split
    · exact C.missMarker h _
    · exact h

theorem waitingTests (h : P s) (k : Capture) : P (s.waitingTests k) := by
  unfold State.waitingTests
  generalize k.waiting.filter _ = l
  induction l generalizing s with
  | nil => exact h
  | cons w l ih => exact ih (C.missedTest h _ _)

theorem decideEngagement (h : P s) (v : SegView) (pin whl : Int) : P (s.decideEngagement v pin whl) := by
  unfold State.decideEngagement
  split
  · exact C.odo _ _ h
  · exact C.odo _ _ h
  · exact C.odo _ _ (C.failure _ h)

theorem crossUp (h : P s) (w v : SegView) : P (s.crossUp w v) := by
  unfold State.crossUp
  split
  · split
    · split
      · exact C.decideEngagement h ..
      · exact h
    · exact C.odo _ _ h
    · exact C.odo _ _ h
  · split
    · exact C.odo _ _ h
    · exact h

theorem crossDown (h : P s) (w : SegView) : P (s.crossDown w) := by
  unfold State.crossDown
  split
  · split
    · exact C.odo _ _ h
    · exact h
  · exact h

theorem crossAllUp : ∀ (l : List SegView) {s : State}, P s → P (State.crossAllUp l s)
  | [], _, h => h
  | [_], _, h => h
  | _ :: v :: l, _, h => crossAllUp (v :: l) (C.publishOdometry (C.crossUp h _ _))

theorem crossAllDown : ∀ (l : List SegView) {s : State}, P s → P (State.crossAllDown l s)
  | [], _, h => h
  | [_], _, h => h
  | _ :: v :: l, _, h => crossAllDown (v :: l) (C.publishOdometry (C.crossDown h _))

theorem afterMove (h : P s) (d : Dir) (b : Option SegView) : P (s.afterMove d b) := by
  unfold State.afterMove
  split
  · split
    · exact h
    · cases d <;> dsimp only <;> split
      · exact C.crossAllUp _ h
      · exact C.odo _ _ (C.crossAllUp _ h)
      · exact C.crossAllDown _ h
      · exact C.odo _ _ (C.crossAllDown _ h)
  · exact C.odo _ _ (C.odo _ _ h)
  · exact h

theorem moveReference (h : P s) (d : Dir) (len : Nat) : P (s.moveReference d len) := by
  unfold State.moveReference
  split
  · exact h
  · exact C.odo _ _ h

theorem growReference (h : P s) (len rate : Nat) : P (s.growReference len rate) := by
  unfold State.growReference
  dsimp only
  split
  · exact C.odo _ _ h
  · exact C.degrade (C.odo _ _ h)

theorem moveBy (h : P s) (c : Counter) (d : Dir) (b : Option SegView) : P (s.moveBy c d b) := by
  have grown := fun o => C.growReference (C.publishOdometry (C.moveReference (C.odo s o h) d (incrementOf s.cfg c)))
    (incrementOf s.cfg c) (rateOf s.cfg c)
  unfold State.moveBy
  dsimp only
  split
  · exact C.odo _ _ (C.publishOdometry (C.afterMove (C.compareComplete (grown _)) _ _))
  · exact C.missedTest (C.publishOdometry (C.afterMove (C.compareComplete (grown _)) _ _)) _ _

theorem increment (h : P s) (c : Counter) (e : Edge) : P (s.increment c e) := by
  unfold State.increment
  split
  · exact C.odo _ _ h
  · unfold State.countIncrement
    dsimp only
    split
    · exact C.moveBy (C.odo _ _ h) ..
    · exact C.odo _ _ h

theorem declareStandstill (h : P s) : P s.declareStandstill := by
  unfold State.declareStandstill
  split
  · exact C.odo _ _ h
  · exact h

theorem rejectEdge (h : P s) (t : Time) : P (s.rejectEdge t) := C.raise _ _ (C.odo _ _ h)

theorem markerEdge (h : P s) : P s.markerEdge := by
  unfold State.markerEdge
  split
  · exact h
  · exact h
  · exact C.rejectEdge h _
  · exact C.odo _ _ h

theorem afterPlacement (h : P s) : P s.afterPlacement := by
  rw [State.afterPlacement_odoOnly]
  exact C.odo _ _ h

theorem acceptEdge (h : P s) (e : Nat) (k : Capture) (m : Marker) : P (s.acceptEdge e k m) :=
  C.waitingTests (C.post _ _ (C.publishOdometry (C.odo _ _ (C.afterPlacement (C.odo _ _ h))))) k

theorem rejectCapture (h : P s) (k : Capture) : P (s.rejectCapture k) := C.waitingTests (C.rejectEdge h _) k

theorem completeMatch (h : P s) : P s.completeMatch := by
  unfold State.completeMatch
  split
  · exact h
  · dsimp only
    split
    · exact C.odo _ _ h
    · exact C.odo _ _ h
    · split
      · exact C.rejectCapture (C.odo _ _ h) _
      · split
        · exact C.acceptEdge (C.odo _ _ h) ..
        · exact C.rejectCapture (C.odo _ _ h) _

theorem placeCar (h : P s) (p u : Nat) : P (s.placeCar p u) := C.publishOdometry (C.afterPlacement (C.odo _ _ h))

/-- Every effect of the unit keeps a property that its parts keep. -/
theorem effect {f : State → State} (hf : OdometryEffect f) (h : P s) : P (f s) := by
  cases hf with
  | increment c e => exact C.increment h c e
  | spanComplete => exact C.compareComplete h
  | markStale => exact C.odo _ _ h
  | declareStandstill => exact C.declareStandstill h
  | markerEdge => exact C.markerEdge h
  | completeMatch => exact C.completeMatch h

end OdometryClosed

/-! ## The Supervisor's mode, level, trip record and test step -/

/-- What the invariant of the Supervisor speaks of. -/
abbrev Supervisor.core (u : Supervisor) := (u.mode, u.level, u.trip.isSome, u.modeBefore, u.testStep)

theorem State.supervisorInv_of_core {s u : State} (h : u.sup.core = s.sup.core) (i : s.supervisorInv) :
    u.supervisorInv := by
  simp only [Supervisor.core, Prod.mk.injEq] at h
  simpa only [State.supervisorInv, h] using i

/-- The Odometry Unit hands over an engagement failure and nothing else. -/
theorem OdometryEffect.core {f : State → State} (hf : OdometryEffect f) (s : State) : (f s).sup.core = s.sup.core :=
  OdometryClosed.effect (P := fun u => u.sup.core = s.sup.core)
    ⟨fun _ _ h => h, fun _ _ h => h, fun _ _ h => h, fun _ _ _ h => h, fun _ h => h⟩ hf rfl

theorem State.putChannel_core (c : Channel) (x : BrakeChannel) (b : Bool) (s : State) :
    (s.putChannel c x b).sup.core = s.sup.core := by
  unfold State.putChannel
  cases b <;> rfl

theorem State.emitChannel_core (c : Channel) (s : State) : (s.emitChannel c).sup.core = s.sup.core :=
  State.putChannel_core ..

theorem State.patternWrite_core (c : Channel) (s : State) : (s.patternWrite c).sup.core = s.sup.core := by
  unfold State.patternWrite
  split
  · rfl
  · rw [State.deliverWrite, State.putChannel_core]

theorem BrakeEffect.core {f : State → State} (hf : BrakeEffect f) (s : State) : (f s).sup.core = s.sup.core := by
  cases hf with
  | slotPeriod => rw [State.slotPeriod, State.emitChannel_core, State.emitChannel_core, State.emitChannel_core]
  | idle c => rfl
  | write c => exact State.patternWrite_core c s

theorem State.handleFaults_core (l : List (FaultKind × Option Nat)) (s : State) :
    (s.handleFaults l).sup.core = s.sup.core := by
  unfold State.handleFaults
  (repeat' split) <;> rfl

theorem State.joinCause_core (s : State) (c : Cause) : (s.joinCause c).sup.core = s.sup.core := by
  unfold State.joinCause
  split
  · rfl
  · split
    · rfl
    · rename_i t ht _
      simp [Supervisor.core, ht]

/-- Entry into TRIPPED (R115). -/
theorem State.enterTrip_sup (r : PassResults) (f : Cause) (l : List Cause) (s : State) :
    (s.enterTrip r f l).sup =
      { s.sup with
        mode := .tripped, modeBefore := some s.sup.mode, level := .emergency, effort := .idle,
        trip := some ⟨f, s.odo.position, r.speed, r.permitted, r.time, s.sup.mode, l⟩ } := by
  simp only [State.enterTrip, State.publishLevel_sup, State.setLevel_sup, State.post_sup, State.raise_sup]

theorem State.continueRunning_sup (r : PassResults) (e : Effort) (s : State) :
    (s.continueRunning r e).sup =
      { s.sup with effort := e, level := levelAfter s.cfg s.sup.level r.speed r.permitted } := by
  simp only [State.continueRunning, State.publishLevel_sup, State.setLevel_sup]

theorem levelAfter_ne_emergency (c : ConfigRecord) (l : Level) (v p : Nat) : levelAfter c l v p ≠ .emergency := by
  unfold levelAfter
  (repeat' split) <;> simp

theorem State.supervisorInv_enterTrip {s : State} (h : s.supervisorInv) (hm : s.sup.mode = .shunt ∨ s.sup.mode = .line)
    (r : PassResults) (f : Cause) (l : List Cause) : (s.enterTrip r f l).supervisorInv := by
  obtain ⟨-, -, -, hstep, hparked⟩ := h
  rw [State.supervisorInv, State.enterTrip_sup]
  refine ⟨fun _ => ⟨rfl, rfl, by simpa using hm⟩, fun hn => absurd rfl hn, fun hn => ?_, hstep, fun ht => ?_⟩
  · rcases hn with hn | hn <;> cases hn
  · rw [hparked ht] at hm
    simp at hm

theorem State.supervisorInv_continueRunning {s : State} (h : s.supervisorInv)
    (hm : s.sup.mode = .shunt ∨ s.sup.mode = .line) (r : PassResults) (e : Effort) :
    (s.continueRunning r e).supervisorInv := by
  obtain ⟨-, hother, -, hstep, hparked⟩ := h
  rw [State.supervisorInv, State.continueRunning_sup]
  refine ⟨fun ht => ?_, fun hn => ⟨levelAfter_ne_emergency _ _ _ _, (hother hn).2⟩, fun hn => ?_, hstep, hparked⟩
  · rcases hm with hm | hm <;> exact absurd (hm.symm.trans ht) (by decide)
  · rcases hm with hm | hm <;> rcases hn with hn | hn <;> exact absurd (hm.symm.trans hn) (by decide)

theorem State.supervisorInv_judgeRunning {s : State} (h : s.supervisorInv)
    (hm : s.sup.mode = .shunt ∨ s.sup.mode = .line) (r : PassResults) (o : Bool) :
    (s.judgeRunning r o).supervisorInv := by
  have cleared : State.supervisorInv
      { s with sup := { s.sup with engagementFailure := false, outputFault := false } } := h
  unfold State.judgeRunning
  dsimp only
  split
  · exact State.supervisorInv_enterTrip cleared hm ..
  · split
    · exact State.supervisorInv_enterTrip cleared hm ..
    · exact State.supervisorInv_continueRunning cleared hm ..

theorem State.judgeTripped_core (o : Bool) (s : State) : (s.judgeTripped o).sup.core = s.sup.core := by
  unfold State.judgeTripped
  rw [State.publishLevel_sup]
  exact foldl_keeps (fun u => u.sup.core) State.joinCause State.joinCause_core _ _

theorem State.supervisorInv_judgePass {s : State} (h : s.supervisorInv) (r : PassResults) :
    (s.judgePass r).supervisorInv := by
  have stopped : State.supervisorInv { s with sup := { s.sup with stopPoint := (s.overrun r).1 } } := h
  unfold State.judgePass
  dsimp only
  split
  · exact State.supervisorInv_judgeRunning stopped (.inl ‹_›) r _
  · exact State.supervisorInv_judgeRunning stopped (.inr ‹_›) r _
  · exact State.supervisorInv_of_core (State.judgeTripped_core ..) stopped
  · exact stopped

theorem State.supervisorInv_pass {s : State} (h : s.supervisorInv) : s.supervisionPass.supervisorInv := by
  have formed : State.supervisorInv (State.handleFaults s.odometryPass.passResults.2
      { s.odometryPass with
        sup := { s.odometryPass.sup with
          pass := s.odometryPass.passResults.1, inputPosition := s.odometryPass.odo.position } }) :=
    State.supervisorInv_of_core (s := s) (State.handleFaults_core ..) h
  exact State.supervisorInv_of_core (s := State.judgePass _ _) rfl (State.supervisorInv_judgePass formed _)

/-! ### Requests -/

theorem State.changeMode_sup (m : Mode) (s : State) :
    (s.changeMode m).sup =
      { s.sup with
        mode := m, level := levelAfterChange s.sup.mode m s.sup.level,
        modeBefore := if s.sup.mode = .tripped then none else s.sup.modeBefore, effort := .idle, stopPoint := none } := by
  simp only [State.changeMode, State.setCondition_sup, State.setLevel_sup, State.post_sup, Supervisor.changed]

theorem levelAfterChange_cases (a b : Mode) (l : Level) :
    levelAfterChange a b l = .none ∨
    (levelAfterChange a b l = l ∧ ((a = .shunt ∧ b = .line) ∨ (a = .line ∧ b = .shunt))) := by
  cases a <;> cases b <;> simp [levelAfterChange]

/-- A change by request enters no TRIPPED, and leaves a level other than NONE between SHUNT and LINE only. -/
theorem State.supervisorInv_changeMode {s : State} (h : s.supervisorInv) (ht : s.sup.testStep = 0) {m : Mode}
    (hm : m ≠ .tripped) : (s.changeMode m).supervisorInv := by
  obtain ⟨-, hother, -, -, -⟩ := h
  rw [State.supervisorInv, State.changeMode_sup]
  have before : (if s.sup.mode = .tripped then none else s.sup.modeBefore) = none := by
    split
    · rfl
    · rename_i hn; exact (hother hn).2
  refine ⟨fun h => absurd h hm, fun _ => ⟨?_, before⟩, fun hs => ?_, by simp [ht], fun hn => absurd ht hn⟩ <;>
    rcases levelAfterChange_cases s.sup.mode m s.sup.level with e | ⟨e, hc⟩ <;> simp only [e]
  · simp
  · refine (hother ?_).1
    rcases hc with ⟨hc, -⟩ | ⟨hc, -⟩ <;> simp [hc]
  · rcases hc with ⟨-, hc⟩ | ⟨-, hc⟩ <;> simp [hc] at hs

theorem State.supervisorInv_setMode {s : State} (h : s.supervisorInv) {m : Mode} (hm : m ≠ .tripped) :
    (s.setMode m).2.supervisorInv := by
  unfold State.setMode
  split
  · exact h
  · rename_i ht
    split
    · exact h
    · split
      · exact State.supervisorInv_changeMode h (not_not.mp ht) hm
      · exact h

theorem State.supervisorInv_releaseTrip {s : State} (h : s.supervisorInv) : s.releaseTrip.2.supervisorInv := by
  unfold State.releaseTrip
  split
  · rename_i hs
    obtain ⟨htrip, -, -, hstep, hparked⟩ := h
    obtain ⟨-, -, back⟩ := htrip hs.1
    have notest : s.sup.testStep = 0 := by
      by_contra hn
      exact absurd (hs.1.symm.trans (hparked hn)) (by decide)
    simp only [State.supervisorInv, State.setCondition_sup, State.setLevel_sup, State.post_sup]
    rcases back with back | back <;> simp [back, notest]
  · exact h

theorem State.testEffects_core (n : Nat) (s : State) : (s.testEffects n).sup.core = s.sup.core := by
  unfold State.testEffects
  (repeat' split) <;> first | rfl | exact State.handleFaults_core ..

theorem nextStep_le (n : Nat) : nextStep n ≤ 5 := by
  unfold nextStep
  split <;> omega

theorem State.supervisorInv_detectorTest {s : State} (h : s.supervisorInv) : s.detectorTest.2.supervisorInv := by
  unfold State.detectorTest
  split
  · rename_i hs
    obtain ⟨htrip, hother, hlevel, -, -⟩ := h
    refine State.supervisorInv_of_core (State.testEffects_core ..) ?_
    exact ⟨htrip, hother, hlevel, nextStep_le _, fun _ => hs.1⟩
  · exact h

theorem State.supervisorInv_restart {s : State} (h : s.supervisorInv) : s.restart.2.supervisorInv := by
  unfold State.restart
  split
  · exact ⟨fun hn => Mode.noConfusion hn, fun _ => ⟨fun hl => Level.noConfusion hl, rfl⟩, fun _ => rfl, Nat.zero_le _, fun hn => absurd rfl hn⟩
  · exact h

theorem State.supervisorInv_setModeCode {s : State} (h : s.supervisorInv) (n : Nat) :
    (s.setModeCode n).2.supervisorInv := by
  unfold State.setModeCode
  split
  · exact State.supervisorInv_setMode h (by decide)
  · split
    · exact State.supervisorInv_setMode h (by decide)
    · split
      · exact State.supervisorInv_setMode h (by decide)
      · exact h

theorem State.supervisorInv_setDrive {s : State} (h : s.supervisorInv) (a b c : Nat) :
    (s.setDrive a b c).2.supervisorInv := by
  unfold State.setDrive
  split
  · exact h
  · split <;> exact h

theorem State.supervisorInv_perform {s : State} (h : s.supervisorInv) (r : Request) (p : List Byte) :
    (s.perform r p).2.supervisorInv := by
  cases s.perform_touches r p with
  | supervisor hr e =>
    fin_cases hr
    exacts [State.supervisorInv_setModeCode h _, State.supervisorInv_setDrive h .., State.supervisorInv_releaseTrip h,
      State.supervisorInv_detectorTest h, h]
  | swap hr e =>
    rw [e]
    unfold State.swapBank
    split <;> exact h
  | configure hr e =>
    rw [e]
    unfold State.configure
    split
    · split
      · exact h
      · obtain ⟨o, r, n, e⟩ := s.takeConfig_frame (configOfBytes p)
        rw [e]
        exact h
    · exact h
  | restart hr e => rw [e]; exact State.supervisorInv_restart h
  | _ => rename_i e; rw [e]; exact h

/-- Settles O54: a trip, the levels of a pass and the changes of mode by request are the only writers. -/
theorem stepsKeepModeAndLevelConsistent : Obligations.StepsKeepModeAndLevelConsistent := by
  refine step_keeps_blocks (P := State.supervisorInv) ?_ ?_ (fun r p s h => State.supervisorInv_perform h r p)
    (fun hf s h => State.supervisorInv_of_core (hf.core s) h) (fun hf s h => ?_)
    (fun hf s h => State.supervisorInv_of_core (hf.core s) h) (fun hf s h => ?_) (fun hf s h => ?_)
  · intro s u hb h
    simp only [State.blocks, Prod.mk.injEq] at hb
    simpa only [State.supervisorInv, hb] using h
  · exact ⟨fun hn => Mode.noConfusion hn, fun _ => ⟨by decide, rfl⟩, fun _ => rfl, Nat.zero_le _, fun hn => absurd rfl hn⟩
  · cases hf with
    | pass => exact State.supervisorInv_pass h
    | judgement => dsimp only; split; exacts [State.supervisorInv_pass h, h]
  · rwa [State.eq_of_outsideRadio (hf.keeps s)]
  · rwa [State.eq_of_outsideEnt (hf.keeps s)]

end Sys2Proof.Machine
end

section
/-! The invariants of the route records (R69 to R77) and of the leaves (R145), operation by operation. -/

namespace Sys2Proof.Machine

/-! ## The restriction list -/

/-- An entry of the list in range (R69). -/
abbrev Restriction.ok (r : Restriction) : Prop := r.fromPos < r.toPos ∧ r.limit ≤ 15000

/-- The order of the list with distinct ids (R71). -/
abbrev Restriction.Follows (a b : Restriction) : Prop := a.before b = true ∧ a.id ≠ b.id

/-- The invariant of the Route Store by itself. -/
abbrev Route.inv (r : Route) : Prop :=
  r.restrictions.length ≤ 16 ∧ r.restrictions.Pairwise Restriction.Follows ∧ (∀ x ∈ r.restrictions, x.ok) ∧
  r.holds.Pairwise (· < ·)

theorem Restriction.before_iff (a b : Restriction) :
    a.before b = true ↔ a.fromPos < b.fromPos ∨ (a.fromPos = b.fromPos ∧ a.id < b.id) := by
  simp [Restriction.before]

theorem Restriction.before_trans {a b c : Restriction} (hab : a.before b = true) (hbc : b.before c = true) :
    a.before c = true := by
  rw [Restriction.before_iff] at *
  omega

/-- Of two entries of distinct ids the one that is not before follows. -/
theorem Restriction.before_of_not {a b : Restriction} (h : a.before b ≠ true) (hid : a.id ≠ b.id) : b.before a = true := by
  rw [ne_eq, Restriction.before_iff] at h
  rw [Restriction.before_iff]
  omega

/-- An entry of a new id is placed in the order of the list (R71). -/
theorem insertRestriction_pairwise {r : Restriction} : ∀ {l : List Restriction}, l.Pairwise Restriction.Follows →
    (∀ x ∈ l, x.id ≠ r.id) → (insertRestriction r l).Pairwise Restriction.Follows := by
  intro l
  induction l with
  | nil => intro _ _; exact List.pairwise_singleton ..
  | cons y ys ih =>
    intro h hid
    obtain ⟨hy, hys⟩ := List.pairwise_cons.1 h
    rw [insertRestriction]
    split
    · rename_i hb
      refine List.pairwise_cons.2 ⟨fun x hx => ⟨?_, (hid x hx).symm⟩, h⟩
      rcases List.mem_cons.1 hx with rfl | hx
      · exact hb
      · exact Restriction.before_trans hb (hy x hx).1
    · rename_i hb
      refine List.pairwise_cons.2 ⟨fun x hx => ?_, ih hys fun x hx => hid x (List.mem_cons_of_mem y hx)⟩
      have hyr := hid y List.mem_cons_self
      rcases (mem_insertRestriction r x ys).1 hx with rfl | hx
      · exact ⟨Restriction.before_of_not hb hyr.symm, hyr⟩
      · exact hy x hx

theorem insertStation_pairwise (n : Nat) : ∀ {l : List Nat}, l.Pairwise (· < ·) → (insertStation n l).Pairwise (· < ·) := by
  intro l
  induction l with
  | nil => intro _; exact List.pairwise_singleton ..
  | cons y ys ih =>
    intro h
    obtain ⟨hy, hys⟩ := List.pairwise_cons.1 h
    rw [insertStation]
    split
    · refine List.pairwise_cons.2 ⟨fun x hx => ?_, h⟩
      rcases List.mem_cons.1 hx with rfl | hx
      · assumption
      · exact Nat.lt_trans ‹_› (hy x hx)
    · split
      · exact h
      · refine List.pairwise_cons.2 ⟨fun x hx => ?_, ih hys⟩
        rcases (mem_insertStation n x ys).1 hx with rfl | hx
        · omega
        · exact hy x hx

/-- A part of the list keeps what the list has. -/
theorem Route.inv_sublist {r : Route} (h : r.inv) {l : List Restriction} (hl : l.Sublist r.restrictions) (c : Option Nat)
    (v : Byte) : Route.inv { r with restrictions := l, cap := c, version := v } := by
  obtain ⟨length, order, ok, holds⟩ := h
  exact ⟨hl.length_le.trans length, order.sublist hl, fun x hx => ok x (hl.subset hx), holds⟩

theorem State.routeInv_entriesLeave {s : State} (h : s.route.inv) {l : List Restriction}
    (hl : l.Sublist s.route.restrictions) (n : Nat) : (s.entriesLeave n l).route.inv := by
  unfold State.entriesLeave
  split
  · exact h
  · exact Route.inv_sublist h hl _ _

theorem State.routeInv_expireRestrictions {s : State} (h : s.route.inv) : s.expireRestrictions.route.inv :=
  State.routeInv_entriesLeave h List.filter_sublist _

theorem State.routeInv_expireAuthority {s : State} (h : s.route.inv) : s.expireAuthority.route.inv := by
  unfold State.expireAuthority
  split
  · exact h
  · split <;> exact h

theorem State.routeInv_ageRecords {s : State} (h : s.route.inv) : s.ageRecords.route.inv :=
  State.routeInv_expireRestrictions (State.routeInv_expireAuthority h)

theorem State.routeInv_takeAuthority {s : State} (h : s.route.inv) (a : Authority) : (s.takeAuthority a).route.inv := by
  unfold State.takeAuthority
  dsimp only
  split
  · exact h
  · exact h
  · split <;> exact h

/-- A placed entry replaces the one of its id, or joins a list of fewer than 16. -/
theorem State.routeInv_placeRestriction {s : State} (h : s.route.inv) {r : Restriction} (hr : r.ok)
    (room : (∃ x ∈ s.route.restrictions, x.id = r.id) ∨ s.route.restrictions.length < 16) :
    (s.placeRestriction r).route.inv := by
  obtain ⟨length, order, ok, holds⟩ := h
  have sub : (withoutId r.id s.route.restrictions).Sublist s.route.restrictions := List.filter_sublist
  have fewer : (withoutId r.id s.route.restrictions).length < 16 := by
    rcases room with ⟨x, hx, hid⟩ | hlt
    · have : (withoutId r.id s.route.restrictions).length < s.route.restrictions.length :=
        List.length_filter_lt_length_iff_exists.2 ⟨x, hx, by simp [hid]⟩
      omega
    · exact sub.length_le.trans_lt hlt
  refine ⟨by simpa [State.placeRestriction] using fewer,
    insertRestriction_pairwise (order.sublist sub) fun x hx => ((mem_withoutId ..).1 hx).2, fun x hx => ?_, holds⟩
  rcases (mem_insertRestriction ..).1 hx with rfl | hx
  exacts [hr, ok x (sub.subset hx)]

theorem clampRestriction_ok {e : Option Nat} {now : Option Time} {r : Restriction}
    (h : ¬restrictionRefused now (clampRestriction e r) = true) : (clampRestriction e r).ok := by
  simp only [restrictionRefused, Bool.or_eq_true, Bool.not_eq_true', not_or, decide_eq_false_iff_not,
    not_not] at h
  exact ⟨h.1, Nat.min_le_right ..⟩

theorem State.routeInv_setRestriction {s : State} (h : s.route.inv) (r : Restriction) :
    (s.setRestriction r).2.route.inv := by
  unfold State.setRestriction
  dsimp only
  split
  · exact h
  · rename_i hok
    split
    · rename_i room
      refine State.routeInv_placeRestriction h (clampRestriction_ok hok) ?_
      simp only [Bool.or_eq_true, List.any_eq_true, beq_iff_eq, decide_eq_true_eq] at room
      exact room
    · exact h

theorem State.routeInv_takeValleyTime {s : State} (h : s.route.inv) (v : Time) : (s.takeValleyTime v).route.inv := by
  refine State.routeInv_ageRecords ?_
  dsimp only
  split
  · exact h
  · split <;> exact h

theorem State.routeInv_holdStation {s : State} (h : s.route.inv) (n : Nat) (b : Bool) :
    (s.holdStation n b).route.inv := by
  obtain ⟨length, order, ok, holds⟩ := h
  refine ⟨length, order, ok, ?_⟩
  cases b
  exacts [holds.sublist List.filter_sublist, insertStation_pairwise n holds]

theorem State.routeInv_deliver {s : State} (h : s.route.inv) (m : Telegram) : (s.deliver m).route.inv := by
  cases m with
  | malformed r => cases r <;> exact h
  | authority a => exact State.routeInv_takeAuthority h a
  | set r => exact State.routeInv_setRestriction h r
  | lift id => exact State.routeInv_entriesLeave h List.filter_sublist _
  | hold n b => exact State.routeInv_holdStation h n b
  | valleyTime v => exact State.routeInv_takeValleyTime h v
  | ignored | notice => exact h

theorem State.routeInv_goodSettledFrame {s : State} (h : s.route.inv) (f : List Byte) :
    (s.goodSettledFrame f).route.inv := by
  unfold State.goodSettledFrame State.deliverFrame
  refine State.routeInv_deliver (State.routeInv_deliver ?_ _) _
  rwa [State.publishRadio_route]

theorem State.routeInv_judgeContents {s : State} (h : s.route.inv) (f : List Byte) : (s.judgeContents f).route.inv := by
  unfold State.judgeContents
  dsimp only
  split
  · exact h
  · split
    · exact h
    · split
      · refine State.routeInv_goodSettledFrame ?_ f
        exact h
      · exact h

theorem State.routeInv_judgeLocked {s : State} (h : s.route.inv) : s.judgeLocked.route.inv := by
  unfold State.judgeLocked
  dsimp only
  split <;> split
  · refine State.routeInv_judgeContents ?_ _
    exact h
  · exact h
  · refine State.routeInv_judgeContents ?_ _
    exact h
  · exact h

theorem State.judgeConfirm_route (s : State) : s.judgeConfirm.route = s.route := by
  unfold State.judgeConfirm
  dsimp only
  (repeat' split) <;> rfl

theorem State.routeInv_runFramer (n : Nat) : ∀ {s : State}, s.route.inv → (State.runFramer n s).route.inv := by
  induction n with
  | zero => exact fun h => h
  | succ n ih =>
    intro s h
    rw [State.runFramer]
    split
    · split
      · exact h
      · split
        · exact ih (by rwa [State.enterConfirm_route])
        · exact ih h
    · split
      · exact h
      · exact ih (by rwa [State.judgeConfirm_route])
    · split
      · exact h
      · exact ih (State.routeInv_judgeLocked h)

theorem State.countSpan_route (b : Bool) (s : State) : (s.countSpan b).route = s.route := by
  unfold State.countSpan
  dsimp only
  (repeat' split) <;> rfl

theorem State.routeInv_receiveBits (c : Time) : ∀ (l : List Bool) {s : State}, s.route.inv →
    (s.receiveBits c l).route.inv
  | [], _, h => h
  | b :: l, s, h => by
    refine State.routeInv_receiveBits c l (s := s.receiveBit c b) (State.routeInv_runFramer _ ?_)
    rwa [State.countSpan_route]

theorem RadioEffect.routeInv {f : State → State} (hf : RadioEffect f) {s : State} (h : s.route.inv) :
    (f s).route.inv := by
  cases hf with
  | bits capture bits => exact State.routeInv_receiveBits _ bits h
  | localMs => exact State.routeInv_ageRecords (by rwa [State.loseRadio_route, State.freezeRadio_route])
  | freeze => rwa [State.freezeRadio_route]
  | lose => rwa [State.loseRadio_route]
  | expireAuthority => exact State.routeInv_expireAuthority h
  | expireRestrictions => exact State.routeInv_expireRestrictions h
  | uplink => exact h

theorem clampRestrictions_pairwise (e : Nat) {l : List Restriction} (h : l.Pairwise Restriction.Follows) :
    (clampRestrictions e l).Pairwise Restriction.Follows :=
  ((List.pairwise_map.2 h : (l.map fun r => { r with toPos := min r.toPos e }).Pairwise Restriction.Follows)).filter _

theorem mem_clampRestrictions {e : Nat} {x : Restriction} {l : List Restriction} :
    x ∈ clampRestrictions e l ↔ ∃ r ∈ l, x = { r with toPos := min r.toPos e } ∧ x.fromPos < x.toPos := by
  simp only [clampRestrictions, List.mem_filter, List.mem_map, decide_eq_true_eq]
  constructor
  · rintro ⟨⟨r, hr, rfl⟩, hx⟩
    exact ⟨r, hr, rfl, hx⟩
  · rintro ⟨r, hr, rfl, hx⟩
    exact ⟨⟨r, hr, rfl⟩, hx⟩

theorem clampRestrictions_length_le (e : Nat) (l : List Restriction) : (clampRestrictions e l).length ≤ l.length :=
  (List.length_filter_le ..).trans (List.length_map _).le

/-- A new line end clamps the ends and removes the entries that it leaves empty (R77). -/
theorem Route.inv_newLineEnd {r : Route} (h : r.inv) (e : Nat) : (r.newLineEnd e).inv := by
  obtain ⟨length, order, ok, holds⟩ := h
  refine ⟨(clampRestrictions_length_le ..).trans length, clampRestrictions_pairwise e order, fun x hx => ?_, holds⟩
  obtain ⟨y, hy, rfl, hlt⟩ := mem_clampRestrictions.1 hx
  exact ⟨hlt, (ok y hy).2⟩

theorem Route.inv_powerOn : Route.powerOn.inv := by decide

theorem State.routeInv_perform {s : State} (h : s.route.inv) (r : Request) (p : List Byte) :
    (s.perform r p).2.route.inv := by
  cases s.perform_touches r p with
  | swap hr e =>
    rw [e]
    unfold State.swapBank
    split
    · exact Route.inv_newLineEnd h _
    · exact h
  | configure hr e =>
    rw [e]
    unfold State.configure
    split
    · split
      · exact h
      · obtain ⟨o, r, n, e⟩ := s.takeConfig_frame (configOfBytes p)
        rw [e]
        exact h
    · exact h
  | restart hr e =>
    rw [e]
    unfold State.restart
    split
    · exact Route.inv_powerOn
    · exact h
  | _ => rename_i e; rw [e]; exact h

/-- Settles O59: entries are placed in order and otherwise only leave the list or are clamped. -/
theorem stepsKeepTheRestrictionsOrdered : Obligations.StepsKeepTheRestrictionsOrdered := by
  refine step_keeps_blocks (P := State.routeInv) ?_ Route.inv_powerOn (fun r p s h => State.routeInv_perform h r p)
    (fun hf s h => ?_) (fun hf s h => ?_) (fun hf s h => ?_) (fun hf s h => hf.routeInv h) (fun hf s h => ?_)
  · intro s u hb h
    simp only [State.blocks, Prod.mk.injEq] at hb
    simpa only [State.routeInv, hb] using h
  · rwa [State.eq_of_outsideOdo (hf.keeps s)]
  · rwa [State.eq_of_outsideOdo (hf.keeps s)]
  · rwa [State.eq_of_outsideBrake (hf.keeps s)]
  · rwa [State.eq_of_outsideEnt (hf.keeps s)]

/-! ## The leaves -/

/-- The leaves of a state in order, leaf by leaf. -/
def State.leavesOk (s : State) : Prop := ∀ i, (s.ent.leaves.get i).inv

theorem State.leavesInv_iff {s : State} : s.leavesInv ↔ s.leavesOk := by
  simp only [State.leavesInv, Eight.mem_toList]
  exact ⟨fun h i => h _ ⟨i, rfl⟩, fun h r ⟨i, hi⟩ => hi ▸ h i⟩

theorem State.leavesOk_of_leaves {s u : State} (e : u.ent.leaves = s.ent.leaves) (h : s.leavesOk) : u.leavesOk := by
  rwa [State.leavesOk, e]

theorem State.leavesOk_of_set {s u : State} (h : s.leavesOk) {r : LeafRecord} (hr : r.inv) {i : Fin 8}
    (e : u.ent.leaves = s.ent.leaves.set i r) : u.leavesOk := by
  intro j
  rw [e]
  by_cases hj : j = i
  · subst hj; rwa [Eight.get_set_self]
  · rw [Eight.get_set_other _ _ _ _ hj]; exact h j

theorem State.leavesOk_putLeaf {s : State} (h : s.leavesOk) {r : LeafRecord} (hr : r.inv) (i : Fin 8) :
    (s.putLeaf i r).leavesOk :=
  State.leavesOk_of_set h hr (by rw [State.putLeaf_ent])

/-- Operations leaf by leaf. -/
theorem State.leavesOk_foldl {g : State → Fin 8 → State} (hg : ∀ (s : State) i, s.leavesOk → (g s i).leavesOk) :
    ∀ (l : List (Fin 8)) {s : State}, s.leavesOk → (l.foldl g s).leavesOk
  | [], _, h => h
  | i :: l, s, h => State.leavesOk_foldl hg l (hg s i h)

namespace LeafRecord

variable {r : LeafRecord}

/-- A leaf that is read keeps its outputs, its cause and its phase; its failed reads count to 3. -/
theorem inv_read (h : r.inv) (x : LeafInput) : (r.read x).inv := by
  obtain ⟨outputs, cause, phase, failed, attempts⟩ := h
  unfold LeafRecord.read
  split
  · exact ⟨outputs, cause, phase, Nat.zero_le 3, attempts⟩
  · exact ⟨outputs, cause, phase, Nat.min_le_right .., attempts⟩

theorem inv_notPending (h : r.inv) (hs : r.state ≠ .opened) : LeafRecord.inv { r with pending := false } := by
  obtain ⟨outputs, rest⟩ := h
  refine ⟨outputs.imp_right ?_, rest⟩
  exact fun ⟨_, ho, _⟩ => absurd ho hs

/-- A leaf that enters a state has the outputs of that state, whatever it had before. -/
theorem inv_entered {now : Time} {st : LeafState} {ph : Option Phase} (counts : r.failed ≤ 3 ∧ r.attempts ≤ 3)
    (hs : st ≠ .fault) (hp : ph.isSome = true ↔ st = .closing ∨ st = .reopening) : (r.enter now st ph).inv :=
  ⟨.inl rfl, by simp [LeafRecord.enter, hs], by simpa [LeafRecord.enter] using hp, counts⟩

theorem inv_attempts (h : r.inv) {n : Nat} (hn : n ≤ 3) : LeafRecord.inv { r with attempts := n } := by
  obtain ⟨outputs, cause, phase, failed, -⟩ := h
  exact ⟨outputs, cause, phase, failed, hn⟩

theorem inv_returnMark (h : r.inv) (b : Bool) : LeafRecord.inv { r with returnMark := b } := h

theorem inv_stall (h : r.inv) (x : Option (Nat × Time)) : LeafRecord.inv { r with stall := x } := h

theorem inv_target (h : r.inv) (x : Option Nat) : LeafRecord.inv { r with target := x } := h

theorem inv_enterClosing (h : r.inv) (now : Time) : (r.enterClosing now).inv :=
  inv_stall (LeafRecord.inv_enter h (by decide) (by decide)) _

theorem inv_unlockTimeout (h : r.inv) (now : Time) : (r.unlockTimeout now).inv := by
  unfold LeafRecord.unlockTimeout
  split
  exacts [LeafRecord.inv_enterFault h, h]

theorem inv_warningElapsed (h : r.inv) (now : Time) (n : Nat) : (r.warningElapsed now n).inv := by
  unfold LeafRecord.warningElapsed
  split
  exacts [inv_enterClosing h now, h]

theorem inv_lockTimeout (h : r.inv) (now : Time) (n : Nat) : (r.lockTimeout now n).inv := by
  unfold LeafRecord.lockTimeout
  split
  exacts [LeafRecord.inv_enterFault h, h]

theorem inv_pauseElapsed (h : r.inv) (now : Time) : (r.pauseElapsed now).inv := by
  unfold LeafRecord.pauseElapsed
  split
  exacts [inv_enterClosing h now, h]

theorem inv_obstacle (h : r.inv) (now : Time) (n : Nat) : (r.obstacle now n).inv := by
  unfold LeafRecord.obstacle
  dsimp only
  split
  · exact inv_target (inv_attempts (LeafRecord.inv_enter h (by decide) (by decide)) (Nat.min_le_right ..)) _
  · exact inv_attempts (LeafRecord.inv_enter h (by decide) (by decide)) (Nat.min_le_right ..)

theorem inv_stallEnd (h : r.inv) (now : Time) (c : ConfigRecord) : (r.stallEnd now c).inv := by
  unfold LeafRecord.stallEnd
  split
  · split
    · split
      exacts [inv_obstacle h .., inv_stall h _]
    · exact h
  · exact h

theorem inv_stepReopening (h : r.inv) (now : Time) : (r.stepReopening now).inv := by
  unfold LeafRecord.stepReopening
  split
  · split
    exacts [LeafRecord.inv_enter h (by decide) (by decide), h]
  · exact h

theorem inv_stepClosing (h : r.inv) (now : Time) (c : ConfigRecord) : (r.stepClosing now c).inv := by
  unfold LeafRecord.stepClosing
  split
  exacts [LeafRecord.inv_enter h (by decide) (by decide), inv_stallEnd h ..]

theorem inv_step (h : r.inv) (now : Time) (c : ConfigRecord) : (r.step now c).inv := by
  unfold LeafRecord.step
  split
  · split
    exacts [inv_unlockTimeout h now, LeafRecord.inv_enter h (by decide) (by decide)]
  · split
    exacts [LeafRecord.inv_enter h (by decide) (by decide), h]
  · exact inv_warningElapsed h ..
  · split
    exacts [LeafRecord.inv_enter h (by decide) (by decide), inv_lockTimeout h ..]
  · exact inv_stepClosing h ..
  · exact inv_pauseElapsed h now
  · exact LeafRecord.inv_enter h (by decide) (by decide)
  · exact inv_stepReopening h now
  · split
    exacts [LeafRecord.inv_enterFault h, h]
  · exact h

theorem inv_handOver (h : r.inv) (now : Time) : (r.handOver now).inv :=
  inv_returnMark (inv_attempts (LeafRecord.inv_enter h (by decide) (by decide)) (Nat.zero_le 3)) _

theorem inv_commandOpen (h : r.inv) (now : Time) : (r.commandOpen now).inv := by
  unfold LeafRecord.commandOpen
  split
  · exact h
  · split
    all_goals first | exact h | exact LeafRecord.inv_enter h (by decide) (by decide)

theorem inv_closeMove (h : r.inv) (now : Time) (n : Nat) : (r.closeMove now n).inv := by
  unfold LeafRecord.closeMove
  split
  all_goals first | exact h | exact LeafRecord.inv_enter h (by decide) (by decide) | skip
  split
  · split <;> exact LeafRecord.inv_enter h (by decide) (by decide)
  · exact h

theorem inv_commandClose (h : r.inv) (now : Time) (n : Nat) : (r.commandClose now n).inv := by
  have started : LeafRecord.inv { r with attempts := 0 } := inv_attempts h (Nat.zero_le 3)
  unfold LeafRecord.commandClose
  dsimp only
  split
  · exact started
  · split
    exacts [inv_closeMove started .., inv_returnMark (inv_closeMove started ..) _]

theorem inv_fromSensors (h : r.inv) (now : Time) (n : Nat) : (r.fromSensors now n).inv := by
  have started : LeafRecord.inv { r with attempts := 0 } := inv_attempts h (Nat.zero_le 3)
  unfold LeafRecord.fromSensors
  dsimp only
  split
  · exact LeafRecord.inv_enterFault started
  · split <;> exact LeafRecord.inv_enter started (by decide) (by decide)

theorem inv_takeBack (h : r.inv) (now : Time) (n : Nat) (b : Bool) : (r.takeBack now n b).inv := by
  unfold LeafRecord.takeBack
  dsimp only
  split
  · split
    exacts [inv_returnMark (inv_fromSensors h ..) _, inv_fromSensors h ..]
  · exact h

end LeafRecord

theorem State.leavesOk_readLeaf {s : State} (h : s.leavesOk) (x : LeafInput) (i : Fin 8) : (s.readLeaf x i).leavesOk := by
  have hr := LeafRecord.inv_read (h i) x
  unfold State.readLeaf
  dsimp only
  split
  · split
    exacts [State.leavesOk_putLeaf h (LeafRecord.inv_enterFault hr) i, State.leavesOk_putLeaf h hr i]
  · split
    · exact State.leavesOk_putLeaf h hr i
    · split
      · refine State.leavesOk_of_set h (i := i) (r := LeafRecord.enter s.clock.now _ none
          { (s.ent.leaves.get i).read x with pending := false }) (LeafRecord.inv_entered hr.2.2.2 ?_ ?_) rfl <;>
          split <;> decide
      · rename_i hf
        refine State.leavesOk_putLeaf h (LeafRecord.inv_notPending hr fun ho => ?_) i
        exact hf (by rw [ho]; rfl)

theorem State.leavesOk_handOverLeaf (s : State) (i : Fin 8) (h : s.leavesOk) : (s.handOverLeaf i).leavesOk := by
  unfold State.handOverLeaf
  dsimp only
  split
  exacts [h, State.leavesOk_putLeaf h (LeafRecord.inv_handOver (h i) _) i]

theorem State.leavesOk_grantTakeover {s : State} (h : s.leavesOk) (d : Side) : (s.grantTakeover d).leavesOk := by
  unfold State.grantTakeover
  split
  · have moved := State.leavesOk_foldl State.leavesOk_handOverLeaf d.leaves h
    exact State.leavesOk_of_leaves (by rw [State.post_ent, Entrances.setTakeover_leaves]) moved
  · exact h

theorem State.leavesOk_releaseSide {s : State} (h : s.leavesOk) (d : Side) : (s.releaseSide d).leavesOk := by
  have cleared : ∀ (u : State) i, u.leavesOk → (u.clearMark i).leavesOk :=
    fun u i hu => State.leavesOk_of_set hu (LeafRecord.inv_returnMark (hu i) false) rfl
  have released : State.leavesOk { s with ent := s.ent.setRelease d (s.formRelease d) } :=
    State.leavesOk_of_leaves (Entrances.setRelease_leaves ..) h
  unfold State.releaseSide
  dsimp only
  split <;> split
  exacts [State.leavesOk_foldl cleared _ released, released,
    State.leavesOk_of_leaves (by rfl) (State.leavesOk_foldl cleared d.leaves released),
    State.leavesOk_of_leaves (by rfl) released]

theorem State.leavesOk_summed {s : State} (b : Bool) (h : s.leavesOk) :
    State.leavesOk { s with ent := { s.ent with allLocked := b } } := h

theorem State.leavesOk_entranceCycle {s : State} (h : s.leavesOk) (inputs : Eight LeafInput) :
    (s.entranceCycle inputs).leavesOk := by
  have read : ∀ {u : State}, u.leavesOk → (allLeaves.foldl (fun s i => s.readLeaf (inputs.get i) i) u).leavesOk :=
    fun hu => State.leavesOk_foldl (fun _ i hv => State.leavesOk_readLeaf hv _ i) allLeaves hu
  have stepped : ∀ {u : State}, u.leavesOk → (allLeaves.foldl State.stepLeaf u).leavesOk :=
    fun hu => State.leavesOk_foldl (fun _ i hv => State.leavesOk_putLeaf hv (LeafRecord.inv_step (hv i) _ _) i) allLeaves hu
  have published : ∀ {u : State}, u.leavesOk → u.publishEntrances.leavesOk := fun hu => State.leavesOk_of_leaves rfl hu
  unfold State.entranceCycle
  refine published (State.leavesOk_releaseSide (State.leavesOk_releaseSide ?_ _) _)
  refine State.leavesOk_summed _ (stepped ?_)
  refine State.leavesOk_grantTakeover (State.leavesOk_grantTakeover (read ?_) _) _
  exact h

theorem EntranceEffect.leavesOk {f : State → State} (hf : EntranceEffect f) {s : State} (h : s.leavesOk) :
    (f s).leavesOk := by
  cases hf with
  | cycle inputs => exact State.leavesOk_entranceCycle h inputs
  | unlockTimeout i => exact State.leavesOk_putLeaf h (LeafRecord.inv_unlockTimeout (h i) _) i
  | lockTimeout i => exact State.leavesOk_putLeaf h (LeafRecord.inv_lockTimeout (h i) ..) i
  | warningElapsed i => exact State.leavesOk_putLeaf h (LeafRecord.inv_warningElapsed (h i) ..) i
  | pauseElapsed i => exact State.leavesOk_putLeaf h (LeafRecord.inv_pauseElapsed (h i) _) i
  | stallEnd i => exact State.leavesOk_putLeaf h (LeafRecord.inv_stallEnd (h i) ..) i

theorem State.leavesOk_changeLeaves {s : State} (h : s.leavesOk) (d : Side) {f : LeafRecord → LeafRecord}
    (hf : ∀ r : LeafRecord, r.inv → (f r).inv) : (s.changeLeaves d f).leavesOk :=
  State.leavesOk_foldl (fun _ i hu => State.leavesOk_putLeaf hu (hf _ (hu i)) i) d.leaves h

theorem State.leavesOk_entranceCommand {s : State} (h : s.leavesOk) (a b : Nat) : (s.entranceCommand a b).2.leavesOk := by
  unfold State.entranceCommand State.openSide State.closeSide
  split
  · exact h
  · dsimp only
    split
    · split
      · exact h
      · split
        exacts [State.leavesOk_changeLeaves h _ fun r hr => LeafRecord.inv_commandOpen hr _, h]
    · split
      · split
        exacts [h, State.leavesOk_changeLeaves h _ fun r hr => LeafRecord.inv_commandClose hr ..]
      · exact h

theorem State.leavesOk_entranceIsolate {s : State} (h : s.leavesOk) (a b : Nat) : (s.entranceIsolate a b).2.leavesOk := by
  unfold State.entranceIsolate State.restoreLeaf State.isolateLeaf
  dsimp only
  split
  · rename_i hi
    split
    · split
      · exact h
      · split
        exacts [State.leavesOk_putLeaf h (LeafRecord.inv_fromSensors (h ⟨a, hi⟩) ..) _, h]
    · split
      · split
        · exact h
        · split
          · exact h
          · split
            · exact State.leavesOk_putLeaf h (LeafRecord.inv_returnMark (LeafRecord.inv_attempts
                (LeafRecord.inv_enter (h ⟨a, hi⟩) (by decide) (by decide)) (Nat.zero_le 3)) _) _
            · exact h
      · exact h
  · exact h

theorem State.leavesOk_setTakeover {s : State} (h : s.leavesOk) (d : Side) (k : Takeover) :
    State.leavesOk { s with ent := s.ent.setTakeover d k } :=
  State.leavesOk_of_leaves (Entrances.setTakeover_leaves ..) h

theorem State.leavesOk_takeoverRequest {s : State} (h : s.leavesOk) (a : Nat) : (s.takeoverRequest a).2.leavesOk := by
  unfold State.takeoverRequest State.requestTakeover
  split
  · exact h
  · split
    exacts [State.leavesOk_setTakeover h _ _, h, h]

theorem State.leavesOk_takeoverReturn {s : State} (h : s.leavesOk) (a : Nat) : (s.takeoverReturn a).2.leavesOk := by
  unfold State.takeoverReturn State.returnTakeover
  split
  · exact h
  · split
    · exact h
    · exact State.leavesOk_of_leaves rfl (State.leavesOk_setTakeover h _ .none)
    · exact State.leavesOk_of_leaves rfl (State.leavesOk_setTakeover
        (State.leavesOk_changeLeaves h _ fun r hr => LeafRecord.inv_takeBack hr _ _ _) _ .none)

theorem State.leavesOk_perform {s : State} (h : s.leavesOk) (r : Request) (p : List Byte) :
    (s.perform r p).2.leavesOk := by
  cases s.perform_touches r p with
  | entrances hr e =>
    fin_cases hr
    exacts [State.leavesOk_entranceCommand h _ _, State.leavesOk_entranceIsolate h _ _, State.leavesOk_takeoverRequest h _,
      State.leavesOk_takeoverReturn h _]
  | swap hr e =>
    rw [e]
    unfold State.swapBank
    split <;> exact h
  | configure hr e =>
    rw [e]
    unfold State.configure
    split
    · split
      · exact h
      · obtain ⟨o, r, n, e⟩ := s.takeConfig_frame (configOfBytes p)
        rw [e]
        exact h
    · exact h
  | restart hr e =>
    rw [e]
    unfold State.restart
    split <;> exact h
  | _ => rename_i e; rw [e]; exact h

theorem LeafRecord.inv_powerOn : LeafRecord.powerOn.inv := by decide

theorem State.reset_leavesOk : State.reset.leavesOk := by
  intro i
  have : State.reset.ent.leaves.get i = LeafRecord.powerOn := by fin_cases i <;> rfl
  rw [this]
  exact LeafRecord.inv_powerOn

/-- Settles O60: a leaf changes state by entering one, with the outputs of that state. -/
theorem stepsKeepTheLeafOutputs : Obligations.StepsKeepTheLeafOutputs := by
  intro s u h e
  rw [State.leavesInv_iff] at h ⊢
  refine step_keeps_blocks (P := State.leavesOk) ?_ State.reset_leavesOk (fun r p s h => State.leavesOk_perform h r p)
    (fun hf s h => ?_) (fun hf s h => ?_) (fun hf s h => ?_) (fun hf s h => ?_) (fun hf s h => hf.leavesOk h) s u h e
  · intro s u hb h
    simp only [State.blocks, Prod.mk.injEq] at hb
    exact State.leavesOk_of_leaves (by rw [hb.2.2.2.2.2.2.1]) h
  · rwa [State.eq_of_outsideOdo (hf.keeps s)]
  · rwa [State.eq_of_outsideOdo (hf.keeps s)]
  · rwa [State.eq_of_outsideBrake (hf.keeps s)]
  · rwa [State.eq_of_outsideRadio (hf.keeps s)]

end Sys2Proof.Machine
end

section
/-! The ranges of the Odometry Unit (R1 to R17), operation by operation, and the greatest uncertainty of an UNLOCALISED
record. -/

namespace Sys2Proof.Machine

/-- The ranges of the record, by name. -/
structure Odometry.InRange (o : Odometry) : Prop where
  remainder : o.remainder < 1000
  distanceRem : o.distanceRem < 1000
  credit : o.credit < 1000
  uncertainty : o.uncertainty ≤ 65535
  distance : o.distance ≤ 16777215
  speed : o.speed ≤ 15000
  missed : o.missed ≤ 255
  pinErrors : o.pinErrors ≤ 65535
  whlErrors : o.whlErrors ≤ 65535
  pinRing : o.pinRing.length ≤ 64
  whlRing : o.whlRing.length ≤ 64
  log : o.log.length ≤ 8
  movement : o.movementUm.natAbs ≤ 65535000
  unlocalised : o.localisation = .unlocalised → o.uncertainty = 65535

theorem State.odometryInv_iff {s : State} : s.odometryInv ↔ s.cfg.markerAccuracy ≤ 65535 ∧ s.odo.InRange := by
  constructor
  · rintro ⟨ha, h1, h2, h3, h4, h5, h6, h7, h8, h9, h10, h11, h12, h13, h14⟩
    exact ⟨ha, h1, h2, h3, h4, h5, h6, h7, h8, h9, h10, h11, h12, h13, h14⟩
  · rintro ⟨ha, h1, h2, h3, h4, h5, h6, h7, h8, h9, h10, h11, h12, h13, h14⟩
    exact ⟨ha, h1, h2, h3, h4, h5, h6, h7, h8, h9, h10, h11, h12, h13, h14⟩

namespace Odometry.InRange

variable {o : Odometry}

theorem growDistance (h : o.InRange) (um : Nat) : (o.growDistance um).InRange :=
  { h with
    distance := Nat.min_le_right ..
    distanceRem := Nat.mod_lt _ (by decide) }

theorem clampTo (h : o.InRange) (n : Nat) : (o.clampTo n).InRange := by
  rcases o.clampTo_cases n with ⟨_, e⟩ | ⟨_, e⟩ <;> rw [e]
  · exact { h with remainder := Nat.zero_lt_succ _ }
  · exact { h with remainder := Nat.zero_lt_succ _, uncertainty := le_refl _, unlocalised := fun _ => rfl }

theorem placeAt (h : o.InRange) (e : Nat) (um : Int) : (o.placeAt e um).InRange := by
  unfold Odometry.placeAt
  split
  · exact h.clampTo _
  · split
    · exact h.clampTo _
    · exact { h with remainder := Nat.mod_lt _ (by decide) }

/-- A record at the greatest uncertainty stays there as it grows. -/
theorem growUncertainty (h : o.InRange) (g : Nat) : (o.growUncertainty g).InRange := by
  unfold Odometry.growUncertainty
  split
  · exact { h with credit := (Nat.sub_le ..).trans_lt h.credit }
  · have spent := ceilDiv_spec (g - o.credit) (b := 1000) (by decide)
    refine { h with uncertainty := Nat.min_le_right .., credit := ?_, unlocalised := fun hu => ?_ }
    · dsimp only
      omega
    · dsimp only [Config.maxUncertainty]
      rw [h.unlocalised hu]
      omega

theorem raiseUncertainty (h : o.InRange) (n : Nat) (b : Bool) (p : Span) :
    Odometry.InRange
      { o with disagree := b, uncertainty := min (o.uncertainty + n) Config.maxUncertainty, span := p } :=
  { h with
    uncertainty := Nat.min_le_right ..
    unlocalised := fun hu => by
      dsimp only [Config.maxUncertainty]
      rw [h.unlocalised hu]
      omega }

theorem degrade (h : o.InRange) (n : Nat) : (o.degrade n).InRange := by
  rcases o.degrade_cases n with e | ⟨_, e⟩ <;> rw [e]
  · exact h
  · exact { h with unlocalised := fun hu => Localisation.noConfusion hu }

theorem degradeMissed (h : o.InRange) : o.degradeMissed.InRange := by
  unfold Odometry.degradeMissed
  split
  · exact { h with unlocalised := fun hu => Localisation.noConfusion hu }
  · exact h

theorem setCapture (h : o.InRange) (k : Option Capture) : Odometry.InRange { o with capture := k } := { h with }

theorem count (h : o.InRange) (c : Counter) (d : Dir) (t : Time) : (o.count c d t).InRange := by
  cases c
  · exact { h with pinRing := ringPush_length _ h.pinRing }
  · exact { h with whlRing := ringPush_length _ h.whlRing }

theorem phaseError (h : o.InRange) (c : Counter) : (o.phaseError c).InRange := by
  cases c
  · exact { h with pinErrors := Nat.min_le_right .. }
  · exact { h with whlErrors := Nat.min_le_right .. }

theorem markStale (h : o.InRange) (t : Time) : (o.markStale t).InRange :=
  { h with
    pinRing := (ringMark_length t o.pinRing).trans_le h.pinRing
    whlRing := (ringMark_length t o.whlRing).trans_le h.whlRing }

theorem logPush (h : o.InRange) (e : LogEntry) : Odometry.InRange { o with log := logPush o.log e } := by
  refine { h with log := ?_ }
  dsimp only
  rw [logPush_eq e h.log, List.length_append, List.length_drop, List.length_singleton]
  have := h.log
  omega

theorem missed_marker (h : o.InRange) (m : Option Nat) :
    Odometry.InRange { o with missed := min (o.missed + 1) 255, lastPassed := m } :=
  { h with missed := Nat.min_le_right .. }

/-- A record placed at an uncertainty is LOCALISED or DEGRADED. -/
theorem localisedBy_ne_unlocalised (uMax u : Nat) : localisedBy uMax u ≠ .unlocalised := by
  unfold localisedBy
  split <;> decide

theorem acceptMarker (h : o.InRange) {accuracy : Nat} (ha : accuracy ≤ 65535) (e uMax : Nat) (correction : Int)
    (m : Marker) : (o.acceptMarker e accuracy uMax correction m).InRange := by
  have placed := h.placeAt e (o.placeUm + correction)
  have counted : ∀ {p : Odometry}, p.InRange → Odometry.InRange
      { p with credit := 0, missed := 0, lastAccepted := some m.id, lastPassed := some m.id, distance := 0,
               distanceRem := 0 } := fun hp =>
    { hp with
      credit := Nat.zero_lt_succ _, missed := Nat.zero_le _, distance := Nat.zero_le _,
      distanceRem := Nat.zero_lt_succ _ }
  unfold Odometry.acceptMarker
  dsimp only
  split
  · exact counted placed
  · exact
      { counted placed with
        uncertainty := ha
        unlocalised := fun hu => absurd hu (localisedBy_ne_unlocalised _ _) }

theorem swapped (h : o.InRange) (same : Bool) (e : Nat) : (o.swapped same e).InRange := by
  have cleared : Odometry.InRange { o with capture := none, engagement := .idle, span := Span.zero, lastPassed := none } :=
    { h with }
  unfold Odometry.swapped
  dsimp only
  split
  · split
    · exact cleared.clampTo e
    · exact cleared
  · exact
      { h with
        remainder := Nat.zero_lt_succ _, uncertainty := le_refl _, distance := Nat.zero_le _,
        distanceRem := Nat.zero_lt_succ _, missed := Nat.zero_le _, unlocalised := fun _ => rfl }

end Odometry.InRange

/-! ## The operations on the state -/

theorem movementAdd_natAbs_le (m um : Int) : (movementAdd m um).natAbs ≤ 65535000 := by
  have := movementAdd_bounds m um
  omega

section
variable {s : State}

theorem State.inRange_compareSpan (h : s.odo.InRange) : s.compareSpan.odo.InRange := by
  unfold State.compareSpan
  dsimp only
  split
  · exact (h.raiseUncertainty ..).degrade _
  · exact { h with }

theorem State.inRange_compareComplete (h : s.odo.InRange) :
    (if s.spanComplete then s.compareSpan else s).odo.InRange := by
  split
  · exact State.inRange_compareSpan h
  · exact h

theorem State.inRange_missedTest (h : s.odo.InRange) (d : Dir) (m : Option Marker) : (s.missedTest d m).odo.InRange := by
  cases m with
  | none => exact h
  | some m =>
    rw [State.missedTest_odo]
    split
    · exact (h.missed_marker _).degradeMissed
    · exact h

theorem State.inRange_waitingTests (h : s.odo.InRange) (k : Capture) : (s.waitingTests k).odo.InRange := by
  unfold State.waitingTests
  generalize k.waiting.filter _ = l
  induction l generalizing s with
  | nil => exact h
  | cons w l ih => exact ih (State.inRange_missedTest h ..)

/-- A change of the engagement check and of the span leaves every range alone. -/
theorem Odometry.InRange.of_engagement {o : Odometry} (h : o.InRange) (g : Engagement) (p : Span) :
    Odometry.InRange { o with engagement := g, span := p } := { h with }

theorem State.decideEngagement_odo (v : SegView) (pin whl : Int) (s : State) :
    (s.decideEngagement v pin whl).odo =
      { s.odo with engagement := (s.decideEngagement v pin whl).odo.engagement } := by
  unfold State.decideEngagement
  split <;> rfl

theorem State.crossUp_odo (w v : SegView) (s : State) :
    (s.crossUp w v).odo = { s.odo with engagement := (s.crossUp w v).odo.engagement } := by
  unfold State.crossUp
  split
  · split
    · split
      · exact State.decideEngagement_odo ..
      · rfl
    · rfl
    · rfl
  · split <;> rfl

theorem State.crossDown_odo (w : SegView) (s : State) :
    (s.crossDown w).odo = { s.odo with engagement := (s.crossDown w).odo.engagement } := by
  unfold State.crossDown
  split
  · split <;> rfl
  · rfl

theorem State.crossAllUp_odo : ∀ (l : List SegView) (s : State),
    (State.crossAllUp l s).odo = { s.odo with engagement := (State.crossAllUp l s).odo.engagement }
  | [], _ => rfl
  | [_], _ => rfl
  | w :: v :: l, s => by
    rw [State.crossAllUp, State.crossAllUp_odo (v :: l), State.publishOdometry_odo, State.crossUp_odo]

theorem State.crossAllDown_odo : ∀ (l : List SegView) (s : State),
    (State.crossAllDown l s).odo = { s.odo with engagement := (State.crossAllDown l s).odo.engagement }
  | [], _ => rfl
  | [_], _ => rfl
  | w :: v :: l, s => by
    rw [State.crossAllDown, State.crossAllDown_odo (v :: l), State.publishOdometry_odo, State.crossDown_odo]

/-- The pinion point's move touches the engagement check and the span only. -/
theorem State.afterMove_odo (d : Dir) (b : Option SegView) (s : State) :
    (s.afterMove d b).odo =
      { s.odo with engagement := (s.afterMove d b).odo.engagement, span := (s.afterMove d b).odo.span } := by
  unfold State.afterMove
  split
  · split
    · rfl
    · cases d <;> dsimp only <;> split
      · rw [State.crossAllUp_odo]
      · rw [State.dropSpan_odo, State.crossAllUp_odo]
      · rw [State.crossAllDown_odo]
      · rw [State.dropSpan_odo, State.crossAllDown_odo]
  · rfl
  · rfl

theorem State.inRange_afterMove (h : s.odo.InRange) (d : Dir) (b : Option SegView) : (s.afterMove d b).odo.InRange := by
  rw [State.afterMove_odo]
  exact h.of_engagement ..

theorem State.afterPlacement_odo (s : State) :
    s.afterPlacement.odo = { s.odo with engagement := s.afterPlacement.odo.engagement, span := s.afterPlacement.odo.span } := by
  unfold State.afterPlacement
  dsimp only
  (repeat' split) <;> rfl

theorem State.inRange_afterPlacement (h : s.odo.InRange) : s.afterPlacement.odo.InRange := by
  rw [State.afterPlacement_odo]
  exact h.of_engagement ..

theorem State.inRange_moveReference (h : s.odo.InRange) (d : Dir) (n : Nat) : (s.moveReference d n).odo.InRange := by
  unfold State.moveReference
  split
  · exact h
  · exact h.placeAt ..

theorem State.inRange_growReference (h : s.odo.InRange) (len rate : Nat) : (s.growReference len rate).odo.InRange := by
  unfold State.growReference
  dsimp only
  split
  · exact h.growUncertainty _
  · exact (h.growUncertainty _).degrade _

theorem State.inRange_moveBy (h : s.odo.InRange) (c : Counter) (d : Dir) (b : Option SegView) :
    (s.moveBy c d b).odo.InRange := by
  have started : ∀ p, Odometry.InRange
      { s.odo.growDistance (incrementOf s.cfg c) with
        movementUm := movementAdd s.odo.movementUm (d.signed (incrementOf s.cfg c)), lastPassed := p,
        lastRefDir := some d } :=
    fun p => { h.growDistance (incrementOf s.cfg c) with movement := movementAdd_natAbs_le .. }
  have moved : ∀ {u : State}, u.odo.InRange →
      ((u.moveReference d (incrementOf s.cfg c)).publishOdometry.growReference (incrementOf s.cfg c)
        (rateOf s.cfg c)).odo.InRange :=
    fun hu => State.inRange_growReference (by rw [State.publishOdometry_odo]; exact State.inRange_moveReference hu ..) ..
  have settled : ∀ {u : State}, u.odo.InRange → ((if u.spanComplete then u.compareSpan else u).afterMove d b).odo.InRange :=
    fun hu => State.inRange_afterMove (State.inRange_compareComplete hu) ..
  unfold State.moveBy
  dsimp only
  split
  · refine Odometry.InRange.setCapture ?_ _
    rw [State.publishOdometry_odo]
    refine settled (moved ?_)
    exact started _
  · refine State.inRange_missedTest ?_ ..
    rw [State.publishOdometry_odo]
    refine settled (moved ?_)
    exact started _

theorem State.inRange_increment (h : s.odo.InRange) (c : Counter) (e : Edge) : (s.increment c e).odo.InRange := by
  unfold State.increment
  split
  · exact h.phaseError c
  · rename_i d _
    have counted : ∀ (b : Bool) p g, Odometry.InRange
        { (if b then { s.odo.count c d s.clock.now with span := p } else s.odo.count c d s.clock.now) with
          engagement := g } := by
      intro b p g
      cases b
      · exact { h.count c d s.clock.now with }
      · exact { h.count c d s.clock.now with }
    unfold State.countIncrement
    dsimp only
    split
    · refine State.inRange_moveBy ?_ ..
      exact counted s.spanRuns _ _
    · exact counted s.spanRuns _ _

theorem State.inRange_markerEdge (h : s.odo.InRange) : s.markerEdge.odo.InRange := by
  unfold State.markerEdge
  split
  · exact h
  · exact h
  · exact h.logPush _
  · exact { h with }

theorem State.inRange_acceptEdge (h : s.odo.InRange) (ha : s.cfg.markerAccuracy ≤ 65535) (e : Nat) (k : Capture)
    (m : Marker) : (s.acceptEdge e k m).odo.InRange := by
  have placed := fun δ => State.inRange_afterPlacement
    (s := { s with odo := s.odo.acceptMarker e s.cfg.markerAccuracy s.cfg.uMax δ m }) (h.acceptMarker ha e _ δ m)
  unfold State.acceptEdge
  refine State.inRange_waitingTests ?_ k
  exact { (placed (k.correction s.cfg.readerOffset m)).logPush _ with }

theorem State.inRange_rejectCapture (h : s.odo.InRange) (k : Capture) : (s.rejectCapture k).odo.InRange :=
  State.inRange_waitingTests (s := s.rejectEdge k.edgeTime) (h.logPush _) k

theorem State.inRange_completeMatch (h : s.odo.InRange) (ha : s.cfg.markerAccuracy ≤ 65535) :
    s.completeMatch.odo.InRange := by
  have released : Odometry.InRange { s.odo with capture := none } := { h with }
  unfold State.completeMatch
  split
  · exact h
  · dsimp only
    split
    · exact released
    · exact released
    · split
      · exact State.inRange_rejectCapture (s := { s with odo := { s.odo with capture := none } }) released _
      · split
        · exact State.inRange_acceptEdge (s := { s with odo := { s.odo with capture := none } }) released ha ..
        · exact State.inRange_rejectCapture (s := { s with odo := { s.odo with capture := none } }) released _

theorem State.inRange_declareStandstill (h : s.odo.InRange) : s.declareStandstill.odo.InRange := by
  unfold State.declareStandstill
  split
  · exact { h with speed := Nat.zero_le _, movement := Nat.zero_le _ }
  · exact h

theorem OdometryEffect.inRange {f : State → State} (hf : OdometryEffect f) (h : s.odo.InRange)
    (ha : s.cfg.markerAccuracy ≤ 65535) : (f s).odo.InRange := by
  cases hf with
  | increment c e => exact State.inRange_increment h c e
  | spanComplete => exact State.inRange_compareComplete h
  | markStale => exact h.markStale _
  | declareStandstill => exact State.inRange_declareStandstill h
  | markerEdge => exact State.inRange_markerEdge h
  | completeMatch => exact State.inRange_completeMatch h ha

/-! ### The pass -/

theorem speedEstimate_le (t : Time) (c : ConfigRecord) (len : Nat) {previous : Nat} (h : previous ≤ 15000)
    (ring : List RingEntry) : speedEstimate t c len previous ring ≤ 15000 := by
  have h15 : Config.maxSpeed = 15000 := rfl
  unfold speedEstimate
  dsimp only
  split
  · split
    · exact h15.le
    · exact Nat.min_le_right ..
  · split
    · exact Nat.zero_le _
    · split
      · exact Nat.zero_le _
      · split
        · exact h
        · exact Nat.min_le_right ..

theorem State.inRange_odometryPass (h : s.odo.InRange) : s.odometryPass.odo.InRange := by
  refine { h.markStale s.clock.now with speed := speedEstimate_le _ _ _ h.speed _, movement := ?_ }
  unfold State.odometryPass
  dsimp only
  split
  · exact Nat.zero_le _
  · exact h.movement

theorem State.judgePass_odo (r : PassResults) (s : State) : (s.judgePass r).odo = s.odo := by
  have trip : ∀ (f l) (u : State), (u.enterTrip r f l).odo = u.odo := by
    intro f l u
    simp only [State.enterTrip, State.publishLevel_odo, State.setLevel_odo, State.post_odo, State.raise_odo]
  have running : ∀ (o : Bool) (u : State), (u.judgeRunning r o).odo = u.odo := by
    intro o u
    unfold State.judgeRunning
    dsimp only
    split
    · rw [trip]
    · split
      · rw [trip]
      · simp only [State.continueRunning, State.publishLevel_odo, State.setLevel_odo]
  have joined : ∀ (u : State) c, (u.joinCause c).odo = u.odo := by
    intro u c
    unfold State.joinCause
    (repeat' split) <;> rfl
  unfold State.judgePass
  dsimp only
  split
  · rw [running]
  · rw [running]
  · rw [State.judgeTripped, State.publishLevel_odo, foldl_keeps State.odo State.joinCause joined]
  · rfl

/-- A pass leaves the odometry as its first stage formed it. -/
theorem State.supervisionPass_odo (s : State) : s.supervisionPass.odo = s.odometryPass.odo := by
  unfold State.supervisionPass
  dsimp only
  rw [State.setDemands_odo, State.judgePass_odo, State.handleFaults_odo]

/-! ### Requests -/

theorem State.inRange_placeCar (h : s.odo.InRange) (ha : s.cfg.markerAccuracy ≤ 65535) (p : Nat) {u : Nat}
    (hu : u ≤ 65535) : (s.placeCar p u).odo.InRange := by
  unfold State.placeCar
  refine State.inRange_afterPlacement ?_
  exact
    { h with
      remainder := Nat.zero_lt_succ _, credit := Nat.zero_lt_succ _, missed := Nat.zero_le _,
      distance := Nat.zero_le _, distanceRem := Nat.zero_lt_succ _, uncertainty := Nat.max_le.2 ⟨hu, ha⟩,
      unlocalised := fun hl => absurd hl (Odometry.InRange.localisedBy_ne_unlocalised _ _) }

theorem leAt_lt (p : List Byte) (i n : Nat) : leAt p i n < 256 ^ n := by
  have bound : ∀ l : List Byte, ofLe l < 256 ^ l.length := by
    intro l
    induction l with
    | nil => simp [ofLe]
    | cons b l ih =>
      have := b.isLt
      rw [ofLe, List.length_cons, pow_succ]
      omega
  refine (bound _).trans_le (Nat.pow_le_pow_right (by decide) ?_)
  exact List.length_take_le ..

end

/-- With no first bad field every field is in its range. -/
theorem configFirstBad_none : ∀ {n : Nat} {fs : List (Nat × Nat × Nat)} {vs : List Nat},
    configFirstBad n fs vs = none → ∀ {i f v}, fs[i]? = some f → vs[i]? = some v →
      configFieldOk (n + i) v f.2.1 f.2.2 = true
  | _, [], _, _, _, _, _, hf, _ => by simp at hf
  | _, _ :: _, [], _, _, _, _, _, hv => by simp at hv
  | n, (w, lo, hi) :: fs, x :: vs, h, i, f, v, hf, hv => by
    rw [configFirstBad] at h
    split at h
    · rename_i ok
      cases i with
      | zero =>
        simp only [List.getElem?_cons_zero, Option.some.injEq] at hf hv
        subst hf hv
        exact ok
      | succ i =>
        simp only [List.getElem?_cons_succ] at hf hv
        have := configFirstBad_none h hf hv
        rwa [Nat.add_assoc, Nat.add_comm 1 i] at this
    · cases h

theorem configBad_none {c : ConfigRecord} (h : configBad c = none) :
    configFirstBad 1 configFields (configValues c) = none ∧ configCrossBad c = none := by
  unfold configBad at h
  split at h
  · cases h
  · exact ⟨‹_›, h⟩

theorem markerAccuracy_le_of_configBad {c : ConfigRecord} (h : configBad c = none) : c.markerAccuracy ≤ 1000 := by
  have ok := configFirstBad_none (configBad_none h).1 (i := 11) rfl rfl
  rw [configFieldOk, if_neg (by decide)] at ok
  simp only [Bool.and_eq_true, decide_eq_true_eq] at ok
  exact ok.2

section
variable {s : State}

theorem State.takeConfig_inRange (h : s.odo.InRange) (c : ConfigRecord) : (s.takeConfig c).odo.InRange := by
  have placed : ∀ (b : Bool) {u : State}, u.odo.InRange →
      (if b then u.afterPlacement.dropSpan else u.afterPlacement).publishOdometry.rejudgeRadio.odo.InRange := by
    intro b u hu
    rw [State.rejudgeRadio_frame]
    cases b
    · exact State.inRange_afterPlacement hu
    · exact { State.inRange_afterPlacement hu with }
  exact placed _ (u := { s with cfg := c, configured := true, odo := _ }) { h with }

theorem State.odometryInv_configure (h : s.odometryInv) (c : ConfigRecord) : (s.configure c).2.odometryInv := by
  unfold State.configure
  split
  · split
    · exact h
    · rename_i hc
      rw [State.odometryInv_iff] at h ⊢
      obtain ⟨o, r, n, e⟩ := s.takeConfig_frame c
      refine ⟨?_, State.takeConfig_inRange h.2 c⟩
      rw [e]
      exact (markerAccuracy_le_of_configBad hc).trans (by decide)
  · exact h

theorem State.odometryInv_perform (h : s.odometryInv) (r : Request) (p : List Byte) : (s.perform r p).2.odometryInv := by
  cases s.perform_touches r p with
  | odometry hr e =>
    subst hr
    have cfg : (s.perform .setPosition p).2.cfg = s.cfg := by rw [e]
    rw [State.odometryInv_iff] at h ⊢
    refine ⟨by rw [cfg]; exact h.1, ?_⟩
    change (s.setPosition (leAt p 0 3) (leAt p 3 2)).2.odo.InRange
    unfold State.setPosition
    split
    · split
      · exact h.2
      · split
        · exact h.2
        · exact State.inRange_placeCar h.2 h.1 _ (Nat.le_of_lt_succ (leAt_lt p 3 2))
    · exact h.2
  | swap hr e =>
    rw [e]
    unfold State.swapBank
    split
    · rw [State.odometryInv_iff] at h ⊢
      exact ⟨h.1, h.2.swapped ..⟩
    · exact h
  | configure hr e => rw [e]; exact State.odometryInv_configure h _
  | restart hr e =>
    rw [e]
    unfold State.restart
    split <;> exact h
  | _ => rename_i e; rw [e]; exact h

end

theorem Odometry.inRange_powerOn : Odometry.powerOn.InRange := by constructor <;> decide

/-- Settles O58: each operation of the unit keeps the ranges, and a clamp or a swap that loses the record sets u. -/
theorem stepsKeepTheOdometryInRange : Obligations.StepsKeepTheOdometryInRange := by
  refine step_keeps_blocks (P := State.odometryInv) ?_ (State.odometryInv_iff.2 ⟨by decide, Odometry.inRange_powerOn⟩)
    (fun r p s h => State.odometryInv_perform h r p)
    (fun hf s h => ?_) (fun hf s h => ?_) (fun hf s h => ?_) (fun hf s h => ?_) (fun hf s h => ?_)
  · intro s u hb h
    simp only [State.blocks, Prod.mk.injEq] at hb
    simpa only [State.odometryInv, hb] using h
  · rw [State.odometryInv_iff] at h ⊢
    refine ⟨?_, hf.inRange h.2 h.1⟩
    rw [State.eq_of_outsideOdo (hf.keeps s)]
    exact h.1
  · rw [State.odometryInv_iff] at h ⊢
    refine ⟨?_, ?_⟩
    · rw [State.eq_of_outsideOdo (hf.keeps s)]
      exact h.1
    · cases hf with
      | pass => rw [State.supervisionPass_odo]; exact State.inRange_odometryPass h.2
      | judgement =>
        dsimp only
        split
        · rw [State.supervisionPass_odo]; exact State.inRange_odometryPass h.2
        · exact h.2
  · rwa [State.eq_of_outsideBrake (hf.keeps s)]
  · rwa [State.eq_of_outsideRadio (hf.keeps s)]
  · rwa [State.eq_of_outsideEnt (hf.keeps s)]

end Sys2Proof.Machine
end

section
/-! Every operation posts, raises, sets and forces through the operations of the Alert Set, so that all of them keep the
alert entries and the numbering of the report queue (R169, R178). -/

namespace Sys2Proof.Machine

/-- The notices are in order after any of the Odometry Unit's operations when they were before. -/
theorem noticeInv_odometryClosed : OdometryClosed State.noticeInv where
  odo _ _ := State.noticeInv_of rfl
  post _ b h := State.noticeInv_post h b
  raise _ k h := State.noticeInv_raise h k
  setCondition _ k b h := State.noticeInv_setCondition h k b
  failure _ := State.noticeInv_of rfl

section
variable {s : State}

/-! ## Supervision -/

theorem State.noticeInv_publishLevel (h : s.noticeInv) (b : Bool) : (s.publishLevel b).noticeInv :=
  State.noticeInv_setCondition (State.noticeInv_setCondition h ..) ..

theorem State.noticeInv_setLevel (h : s.noticeInv) (n : Level) (v p : Nat) : (s.setLevel n v p).noticeInv := by
  unfold State.setLevel
  dsimp only
  split
  · exact h
  · refine State.noticeInv_post ?_ _
    exact State.noticeInv_of rfl h

theorem State.noticeInv_handleFaults (h : s.noticeInv) (l : List (FaultKind × Option Nat)) :
    (s.handleFaults l).noticeInv := by
  unfold State.handleFaults
  split
  · exact h
  · split
    · exact State.noticeInv_of rfl h
    · refine State.noticeInv_raise ?_ _
      exact State.noticeInv_of rfl h

theorem State.noticeInv_enterTrip (h : s.noticeInv) (r : PassResults) (f : Cause) (l : List Cause) :
    (s.enterTrip r f l).noticeInv := by
  unfold State.enterTrip
  refine State.noticeInv_publishLevel (State.noticeInv_setLevel (State.noticeInv_post (State.noticeInv_raise ?_ _) _) ..) _
  exact State.noticeInv_of rfl h

theorem State.noticeInv_continueRunning (h : s.noticeInv) (r : PassResults) (e : Effort) :
    (s.continueRunning r e).noticeInv := by
  unfold State.continueRunning
  refine State.noticeInv_publishLevel (State.noticeInv_setLevel ?_ ..) _
  exact State.noticeInv_of rfl h

theorem State.noticeInv_judgeRunning (h : s.noticeInv) (r : PassResults) (o : Bool) :
    (s.judgeRunning r o).noticeInv := by
  have cleared : State.noticeInv { s with sup := { s.sup with engagementFailure := false, outputFault := false } } :=
    State.noticeInv_of rfl h
  unfold State.judgeRunning
  dsimp only
  split
  · exact State.noticeInv_enterTrip cleared ..
  · split
    · exact State.noticeInv_enterTrip cleared ..
    · exact State.noticeInv_continueRunning cleared ..

theorem State.noticeInv_joinCause (h : s.noticeInv) (c : Cause) : (s.joinCause c).noticeInv := by
  unfold State.joinCause
  split
  · exact h
  · split
    · exact h
    · refine State.noticeInv_raise ?_ _
      exact State.noticeInv_of rfl h

theorem State.noticeInv_joinCauses : ∀ (l : List Cause) {s : State}, s.noticeInv →
    (l.foldl State.joinCause s).noticeInv
  | [], _, h => h
  | c :: l, _, h => State.noticeInv_joinCauses l (State.noticeInv_joinCause h c)

theorem State.noticeInv_judgePass (h : s.noticeInv) (r : PassResults) : (s.judgePass r).noticeInv := by
  have stopped : State.noticeInv { s with sup := { s.sup with stopPoint := (s.overrun r).1 } } :=
    State.noticeInv_of rfl h
  unfold State.judgePass
  dsimp only
  split
  · exact State.noticeInv_judgeRunning stopped ..
  · exact State.noticeInv_judgeRunning stopped ..
  · refine State.noticeInv_publishLevel (State.noticeInv_joinCauses _ ?_) _
    exact State.noticeInv_of rfl h
  · refine State.noticeInv_publishLevel ?_ _
    exact State.noticeInv_of rfl h

theorem State.noticeInv_supervisionPass (h : s.noticeInv) : s.supervisionPass.noticeInv := by
  unfold State.supervisionPass
  dsimp only
  refine State.noticeInv_of (s := State.judgePass _ _) rfl (State.noticeInv_judgePass (State.noticeInv_handleFaults ?_ _) _)
  exact State.noticeInv_of rfl h

theorem SupervisionEffect.noticeInv {f : State → State} (hf : SupervisionEffect f) (h : s.noticeInv) :
    (f s).noticeInv := by
  cases hf with
  | pass => exact State.noticeInv_supervisionPass h
  | judgement => dsimp only; split; exacts [State.noticeInv_supervisionPass h, h]

/-! ## Brake outputs -/

theorem State.noticeInv_putChannel (h : s.noticeInv) (c : Channel) (x : BrakeChannel) (b : Bool) :
    (s.putChannel c x b).noticeInv := by
  unfold State.putChannel
  cases b
  · exact State.noticeInv_of rfl h
  · refine State.noticeInv_raise ?_ _
    exact State.noticeInv_of rfl h

theorem State.noticeInv_emitChannel (h : s.noticeInv) (c : Channel) : (s.emitChannel c).noticeInv :=
  State.noticeInv_putChannel h ..

theorem State.noticeInv_slotPeriod (h : s.noticeInv) : s.slotPeriod.noticeInv := by
  unfold State.slotPeriod
  refine State.noticeInv_emitChannel (State.noticeInv_emitChannel (State.noticeInv_emitChannel ?_ _) _) _
  exact State.noticeInv_of rfl h

theorem State.noticeInv_patternWrite (h : s.noticeInv) (c : Channel) : (s.patternWrite c).noticeInv := by
  unfold State.patternWrite
  split
  · exact h
  · refine State.noticeInv_putChannel ?_ ..
    exact State.noticeInv_of rfl h

theorem BrakeEffect.noticeInv {f : State → State} (hf : BrakeEffect f) (h : s.noticeInv) : (f s).noticeInv := by
  cases hf with
  | slotPeriod => exact State.noticeInv_slotPeriod h
  | idle c => exact State.noticeInv_of rfl h
  | write c => exact State.noticeInv_patternWrite h c

/-! ## Radio and route records -/

theorem State.noticeInv_publishRadio (h : s.noticeInv) : s.publishRadio.noticeInv :=
  State.noticeInv_setCondition (State.noticeInv_setCondition (State.noticeInv_setCondition
    (State.noticeInv_setCondition h ..) ..) ..) ..

theorem State.noticeInv_setRadio (h : s.noticeInv) (r : Radio) : State.noticeInv { s with radio := r } :=
  State.noticeInv_of rfl h

/-- The framer publishes from a state with another radio. -/
theorem State.noticeInv_publishWith (h : s.noticeInv) (r : Radio) : (State.publishRadio { s with radio := r }).noticeInv :=
  State.noticeInv_publishRadio (State.noticeInv_of rfl h)

theorem State.noticeInv_loseRadio (h : s.noticeInv) : s.loseRadio.noticeInv := by
  unfold State.loseRadio
  split
  · exact h
  · split
    exacts [State.noticeInv_publishWith h _, h]

theorem State.noticeInv_freezeRadio (h : s.noticeInv) : s.freezeRadio.noticeInv := by
  unfold State.freezeRadio
  split
  · split
    exacts [State.noticeInv_publishWith h _, h]
  · exact h

theorem State.noticeInv_expireAuthority (h : s.noticeInv) : s.expireAuthority.noticeInv := by
  unfold State.expireAuthority
  split
  · exact h
  · split
    · refine State.noticeInv_raise ?_ _
      exact State.noticeInv_of rfl h
    · exact h

theorem State.noticeInv_entriesLeave (h : s.noticeInv) (n : Nat) (l : List Restriction) :
    (s.entriesLeave n l).noticeInv := by
  unfold State.entriesLeave
  split
  · exact h
  · refine State.noticeInv_setCondition ?_ ..
    exact State.noticeInv_of rfl h

theorem State.noticeInv_ageRecords (h : s.noticeInv) : s.ageRecords.noticeInv :=
  State.noticeInv_entriesLeave (State.noticeInv_expireAuthority h) ..

theorem State.noticeInv_takeAuthority (h : s.noticeInv) (a : Authority) : (s.takeAuthority a).noticeInv := by
  unfold State.takeAuthority
  dsimp only
  split
  · exact h
  · exact State.noticeInv_post h _
  · split
    · exact State.noticeInv_post h _
    · refine State.noticeInv_post ?_ _
      exact State.noticeInv_of rfl h

theorem State.noticeInv_setRestriction (h : s.noticeInv) (r : Restriction) : (s.setRestriction r).2.noticeInv := by
  unfold State.setRestriction
  dsimp only
  split
  · exact State.noticeInv_raise h _
  · split
    · exact State.noticeInv_of rfl h
    · refine State.noticeInv_setCondition ?_ ..
      exact State.noticeInv_of rfl (State.noticeInv_raise h .restrictionRefused)

theorem State.noticeInv_takeValleyTime (h : s.noticeInv) (v : Time) : (s.takeValleyTime v).noticeInv := by
  unfold State.takeValleyTime
  refine State.noticeInv_ageRecords ?_
  dsimp only
  split
  · exact State.noticeInv_of rfl h
  · split
    · exact State.noticeInv_of rfl (State.noticeInv_raise h .valleyTimeJump)
    · exact State.noticeInv_of rfl h

theorem State.noticeInv_deliver (h : s.noticeInv) (m : Telegram) : (s.deliver m).noticeInv := by
  cases m with
  | malformed r =>
    cases r with
    | none => exact h
    | some id => exact State.noticeInv_of rfl h
  | authority a => exact State.noticeInv_takeAuthority h a
  | set r => exact State.noticeInv_of rfl (State.noticeInv_setRestriction h r)
  | lift id =>
    refine State.noticeInv_of rfl (State.noticeInv_entriesLeave h
      (if (withoutId id s.route.restrictions).length < s.route.restrictions.length then 1 else 0)
      (withoutId id s.route.restrictions))
  | hold n b => exact State.noticeInv_of rfl h
  | valleyTime v => exact State.noticeInv_takeValleyTime h v
  | ignored => exact h
  | notice text => exact State.noticeInv_post h _

theorem State.noticeInv_goodSettledFrame (h : s.noticeInv) (f : List Byte) : (s.goodSettledFrame f).noticeInv := by
  unfold State.goodSettledFrame State.deliverFrame
  exact State.noticeInv_deliver (State.noticeInv_deliver (State.noticeInv_publishWith h _) _) _

theorem State.noticeInv_judgeContents (h : s.noticeInv) (f : List Byte) : (s.judgeContents f).noticeInv := by
  unfold State.judgeContents
  dsimp only
  split
  · exact State.noticeInv_of rfl h
  · split
    · exact State.noticeInv_of rfl h
    · split
      · refine State.noticeInv_goodSettledFrame ?_ f
        exact State.noticeInv_of rfl h
      · exact State.noticeInv_of rfl h

theorem State.noticeInv_judgeLocked (h : s.noticeInv) : s.judgeLocked.noticeInv := by
  have contents : ∀ (f : List Byte) (r : Radio), (State.judgeContents f { s with radio := r }).noticeInv :=
    fun f r => State.noticeInv_judgeContents (s := { s with radio := r }) (State.noticeInv_of rfl h) f
  unfold State.judgeLocked
  dsimp only
  split <;> split
  · exact State.noticeInv_setRadio (contents _ _) _
  · exact State.noticeInv_of rfl h
  · exact State.noticeInv_setRadio (contents _ _) _
  · exact State.noticeInv_of rfl h

theorem State.judgeConfirm_notice (s : State) : s.judgeConfirm.notice = s.notice := by
  unfold State.judgeConfirm
  dsimp only
  (repeat' split) <;> rfl

theorem State.noticeInv_runFramer (n : Nat) : ∀ {s : State}, s.noticeInv → (State.runFramer n s).noticeInv := by
  induction n with
  | zero => exact fun h => h
  | succ n ih =>
    intro s h
    rw [State.runFramer]
    split
    · split
      · exact h
      · split
        · exact ih (State.noticeInv_publishWith h _)
        · exact ih (State.noticeInv_of rfl h)
    · split
      · exact h
      · exact ih (State.noticeInv_of s.judgeConfirm_notice h)
    · split
      · exact h
      · exact ih (State.noticeInv_judgeLocked h)

theorem State.noticeInv_countSpan (h : s.noticeInv) (b : Bool) : (s.countSpan b).noticeInv := by
  unfold State.countSpan
  dsimp only
  split
  · split
    exacts [State.noticeInv_of rfl h, State.noticeInv_publishWith h _]
  · exact h

theorem State.noticeInv_receiveBits (c : Time) : ∀ (l : List Bool) {s : State}, s.noticeInv →
    (s.receiveBits c l).noticeInv
  | [], _, h => h
  | b :: l, s, h => by
    refine State.noticeInv_receiveBits c l (s := s.receiveBit c b) (State.noticeInv_runFramer _ ?_)
    exact State.noticeInv_of rfl (State.noticeInv_countSpan h b)

theorem RadioEffect.noticeInv {f : State → State} (hf : RadioEffect f) (h : s.noticeInv) : (f s).noticeInv := by
  cases hf with
  | bits capture bits => exact State.noticeInv_receiveBits _ bits h
  | localMs => exact State.noticeInv_ageRecords (State.noticeInv_loseRadio (State.noticeInv_freezeRadio h))
  | freeze => exact State.noticeInv_freezeRadio h
  | lose => exact State.noticeInv_loseRadio h
  | expireAuthority => exact State.noticeInv_expireAuthority h
  | expireRestrictions => exact State.noticeInv_entriesLeave h ..
  | uplink => exact State.noticeInv_of rfl h

/-! ## Entrances -/

theorem State.noticeInv_putLeaf (h : s.noticeInv) (i : Fin 8) (r : LeafRecord) : (s.putLeaf i r).noticeInv := by
  unfold State.putLeaf
  dsimp only
  split
  · exact State.noticeInv_of rfl h
  · refine State.noticeInv_post ?_ _
    exact State.noticeInv_of rfl h

theorem State.noticeInv_foldl {α : Type} {g : State → α → State} (hg : ∀ (s : State) a, s.noticeInv → (g s a).noticeInv) :
    ∀ (l : List α) {s : State}, s.noticeInv → (l.foldl g s).noticeInv
  | [], _, h => h
  | a :: l, s, h => State.noticeInv_foldl hg l (hg s a h)

theorem State.noticeInv_readLeaf (h : s.noticeInv) (x : LeafInput) (i : Fin 8) : (s.readLeaf x i).noticeInv := by
  unfold State.readLeaf
  dsimp only
  split
  · split <;> exact State.noticeInv_putLeaf h ..
  · split
    · exact State.noticeInv_putLeaf h ..
    · split
      · refine State.noticeInv_post ?_ _
        exact State.noticeInv_of rfl h
      · exact State.noticeInv_putLeaf h ..

theorem State.noticeInv_grantTakeover (h : s.noticeInv) (d : Side) : (s.grantTakeover d).noticeInv := by
  have handed : ∀ (u : State) i, u.noticeInv → (u.handOverLeaf i).noticeInv := by
    intro u i hu
    unfold State.handOverLeaf
    dsimp only
    split
    exacts [hu, State.noticeInv_putLeaf hu ..]
  have posted : ∀ {u : State} (e : Entrances) b, u.noticeInv → (State.post b { u with ent := e }).noticeInv :=
    fun e b hu => State.noticeInv_post (State.noticeInv_of rfl hu) b
  unfold State.grantTakeover
  split
  · exact posted _ _ (State.noticeInv_foldl handed _ h)
  · exact h

theorem State.noticeInv_releaseSide (h : s.noticeInv) (d : Side) : (s.releaseSide d).noticeInv := by
  have cleared : ∀ {u : State}, u.noticeInv → (d.leaves.foldl State.clearMark u).noticeInv :=
    fun hu => State.noticeInv_foldl (g := State.clearMark) (fun _ _ hv => State.noticeInv_of rfl hv) _ hu
  have released : State.noticeInv { s with ent := s.ent.setRelease d (s.formRelease d) } := State.noticeInv_of rfl h
  unfold State.releaseSide
  dsimp only
  split <;> split
  · exact cleared released
  · exact released
  · exact State.noticeInv_post (cleared released) _
  · exact State.noticeInv_post released _

theorem State.noticeInv_summed (h : s.noticeInv) (b : Bool) :
    State.noticeInv { s with ent := { s.ent with allLocked := b } } := State.noticeInv_of rfl h

theorem State.noticeInv_readLeaves (h : s.noticeInv) (inputs : Eight LeafInput) (l : List (Fin 8)) :
    (l.foldl (fun s i => s.readLeaf (inputs.get i) i) s).noticeInv :=
  State.noticeInv_foldl (fun _ i hv => State.noticeInv_readLeaf hv _ i) l h

theorem State.noticeInv_stepLeaves (h : s.noticeInv) (l : List (Fin 8)) : (l.foldl State.stepLeaf s).noticeInv :=
  State.noticeInv_foldl (fun _ i hv => State.noticeInv_putLeaf hv i _) l h

theorem State.noticeInv_publishEntrances (h : s.noticeInv) : s.publishEntrances.noticeInv :=
  State.noticeInv_setCondition (State.noticeInv_setCondition h ..) ..

theorem State.noticeInv_entranceCycle (h : s.noticeInv) (inputs : Eight LeafInput) :
    (s.entranceCycle inputs).noticeInv := by
  unfold State.entranceCycle
  refine State.noticeInv_publishEntrances (State.noticeInv_releaseSide (State.noticeInv_releaseSide ?_ _) _)
  refine State.noticeInv_summed ?_ _
  refine State.noticeInv_stepLeaves ?_ _
  refine State.noticeInv_grantTakeover (State.noticeInv_grantTakeover ?_ _) _
  refine State.noticeInv_readLeaves ?_ inputs _
  exact State.noticeInv_of rfl h

theorem EntranceEffect.noticeInv {f : State → State} (hf : EntranceEffect f) (h : s.noticeInv) : (f s).noticeInv := by
  cases hf with
  | cycle inputs => exact State.noticeInv_entranceCycle h inputs
  | _ => exact State.noticeInv_putLeaf h ..

/-! ## The link -/

theorem State.noticeInv_offer (h : s.noticeInv) (f : Frame) : (s.offer f).noticeInv := by
  unfold State.offer
  split
  exacts [State.noticeInv_of rfl h, State.noticeInv_raise h _]

theorem State.noticeInv_discardFrame (h : s.noticeInv) : s.discardFrame.noticeInv :=
  State.noticeInv_raise (s := s.awaitSync) (State.noticeInv_of rfl h) _

theorem State.noticeInv_testSync (h : s.noticeInv) (b : Byte) (e : Bool) : (s.testSync b e).noticeInv := by
  unfold State.testSync
  split
  exacts [State.noticeInv_of rfl h, h]

theorem State.noticeInv_judgeBytes (h : s.noticeInv) (b : List Byte) : (s.judgeBytes b).noticeInv := by
  unfold State.judgeBytes
  split
  · exact State.noticeInv_discardFrame h
  · split
    · split
      · exact State.noticeInv_offer (s := s.awaitSync) (State.noticeInv_of rfl h) _
      · exact State.noticeInv_discardFrame h
    · exact State.noticeInv_of rfl h

theorem LinkEffect.noticeInv {f : State → State} (hf : LinkEffect f) (h : s.noticeInv) : (f s).noticeInv := by
  cases hf with
  | byte b e =>
    unfold State.receiveByte
    split
    · exact State.noticeInv_testSync h b e
    · split
      · exact State.noticeInv_testSync (State.noticeInv_discardFrame h) b e
      · split
        exacts [State.noticeInv_discardFrame h, State.noticeInv_judgeBytes h _]
  | timeout =>
    unfold State.byteTimeout
    split
    exacts [State.noticeInv_discardFrame h, h]
  | transmissionEnd => exact State.noticeInv_of rfl h
  | offer f => exact State.noticeInv_offer h f

theorem Effect.noticeInv {f : State → State} (hf : Effect f) (h : s.noticeInv) : (f s).noticeInv := by
  cases hf with
  | odometry hf => exact noticeInv_odometryClosed.effect hf h
  | supervision hf => exact hf.noticeInv h
  | brake hf => exact hf.noticeInv h
  | radio hf => exact hf.noticeInv h
  | entrance hf => exact hf.noticeInv h
  | link hf => exact hf.noticeInv h

/-! ## Requests -/

/-- Acknowledging entries in range leaves them in range. -/
theorem State.noticeInv_alerts (h : s.noticeInv) {l : List AlertEntry} (length : l.length = 21)
    (counts : ∀ e ∈ l, e.count ≤ 255) : State.noticeInv { s with notice := { s.notice with alerts := l } } := by
  obtain ⟨-, -, rest⟩ := h
  exact ⟨length, counts, rest⟩

theorem State.noticeInv_testClear (h : s.noticeInv) : State.noticeInv { s with notice := s.notice.testClear } := by
  refine State.noticeInv_alerts h (by simpa using h.1) fun e he => ?_
  obtain ⟨x, -, rfl⟩ := List.mem_map.1 he
  exact Nat.zero_le _

theorem State.noticeInv_resetClear (h : s.noticeInv) : State.noticeInv { s with notice := s.notice.resetClear } := by
  refine State.noticeInv_alerts h (by simp) fun e he => ?_
  rw [List.eq_of_mem_replicate he]
  exact Nat.zero_le _

theorem State.noticeInv_acknowledge (h : s.noticeInv) (kinds : BitVec 24) :
    State.noticeInv { s with notice := s.notice.acknowledge kinds } := by
  refine State.noticeInv_alerts h ((Notice.acknowledgeFrom_length ..).trans h.1) fun e he => ?_
  obtain ⟨i, hi⟩ := List.mem_iff_getElem?.1 he
  rw [Notice.acknowledgeFrom_get, Option.map_eq_some_iff] at hi
  obtain ⟨x, hx, rfl⟩ := hi
  split
  · exact Nat.zero_le _
  · exact h.2.1 x (List.mem_of_getElem? hx)

theorem State.noticeInv_testEffects (h : s.noticeInv) (n : Nat) : (s.testEffects n).noticeInv := by
  unfold State.testEffects
  (repeat' split)
  · exact State.noticeInv_force (State.noticeInv_force h _) _
  · exact State.noticeInv_force (State.noticeInv_force h _) _
  · exact State.noticeInv_force (State.noticeInv_force (State.noticeInv_testClear h) _) _
  · exact State.noticeInv_raise (State.noticeInv_force h _) _
  · exact State.noticeInv_handleFaults h _
  · exact State.noticeInv_testClear h

theorem State.noticeInv_changeMode (h : s.noticeInv) (m : Mode) : (s.changeMode m).noticeInv := by
  unfold State.changeMode
  refine State.noticeInv_setCondition (State.noticeInv_setLevel (State.noticeInv_post ?_ _) ..) ..
  exact State.noticeInv_of rfl h

theorem State.noticeInv_setMode (h : s.noticeInv) (m : Mode) : (s.setMode m).2.noticeInv := by
  unfold State.setMode
  (repeat' split) <;> first | exact h | exact State.noticeInv_changeMode h m

theorem State.noticeInv_releaseTrip (h : s.noticeInv) : s.releaseTrip.2.noticeInv := by
  unfold State.releaseTrip
  split
  · refine State.noticeInv_setCondition (State.noticeInv_setLevel (State.noticeInv_post ?_ _) ..) ..
    exact State.noticeInv_of rfl h
  · exact h

theorem State.noticeInv_detectorTest (h : s.noticeInv) : s.detectorTest.2.noticeInv := by
  unfold State.detectorTest
  split
  · refine State.noticeInv_testEffects ?_ _
    exact State.noticeInv_of rfl h
  · exact h

theorem State.noticeInv_setDrive (h : s.noticeInv) (a b c : Nat) : (s.setDrive a b c).2.noticeInv := by
  unfold State.setDrive
  split
  · exact h
  · split
    exacts [h, State.noticeInv_of rfl h]

theorem State.noticeInv_setPosition (h : s.noticeInv) (p u : Nat) : (s.setPosition p u).2.noticeInv := by
  unfold State.setPosition
  (repeat' split) <;> first | exact h | exact noticeInv_odometryClosed.placeCar h ..

theorem State.noticeInv_swapBank (h : s.noticeInv) : s.swapBank.2.noticeInv := by
  unfold State.swapBank
  split
  · refine noticeInv_odometryClosed.publishOdometry ?_
    exact State.noticeInv_of rfl h
  · exact h

theorem State.noticeInv_rejudgeRadio (h : s.noticeInv) : s.rejudgeRadio.noticeInv :=
  State.noticeInv_freezeRadio (State.noticeInv_loseRadio h)

theorem State.noticeInv_configure (h : s.noticeInv) (c : ConfigRecord) : (s.configure c).2.noticeInv := by
  have placed : ∀ (b : Bool) {u : State}, u.noticeInv →
      (if b then u.afterPlacement.dropSpan else u.afterPlacement).publishOdometry.rejudgeRadio.noticeInv := by
    intro b u hu
    have after := noticeInv_odometryClosed.afterPlacement hu
    refine State.noticeInv_rejudgeRadio (noticeInv_odometryClosed.publishOdometry ?_)
    cases b
    · exact after
    · exact State.noticeInv_of rfl after
  unfold State.configure
  split
  · split
    · exact h
    · refine placed _ ?_
      exact State.noticeInv_of rfl h
  · exact h

theorem State.noticeInv_restart (h : s.noticeInv) : s.restart.2.noticeInv := by
  unfold State.restart
  split
  · refine noticeInv_odometryClosed.publishOdometry (State.noticeInv_publishRadio ?_)
    exact State.noticeInv_of rfl (State.noticeInv_resetClear h)
  · exact h

theorem State.noticeInv_changeLeaves (h : s.noticeInv) (d : Side) (f : LeafRecord → LeafRecord) :
    (s.changeLeaves d f).noticeInv :=
  State.noticeInv_foldl (fun _ i hu => State.noticeInv_putLeaf hu i _) d.leaves h

theorem State.noticeInv_entranceCommand (h : s.noticeInv) (a b : Nat) : (s.entranceCommand a b).2.noticeInv := by
  unfold State.entranceCommand State.openSide State.closeSide
  (repeat' split) <;> first | exact h | exact State.noticeInv_changeLeaves h ..

theorem State.noticeInv_entranceIsolate (h : s.noticeInv) (a b : Nat) : (s.entranceIsolate a b).2.noticeInv := by
  unfold State.entranceIsolate State.restoreLeaf State.isolateLeaf
  dsimp only
  (repeat' split) <;> first | exact h | exact State.noticeInv_putLeaf h ..

theorem State.noticeInv_takeoverRequest (h : s.noticeInv) (a : Nat) : (s.takeoverRequest a).2.noticeInv := by
  unfold State.takeoverRequest State.requestTakeover
  (repeat' split) <;> exact h

theorem State.noticeInv_takeoverReturn (h : s.noticeInv) (a : Nat) : (s.takeoverReturn a).2.noticeInv := by
  have posted : ∀ {u : State} (e : Entrances) b, u.noticeInv → (State.post b { u with ent := e }).noticeInv :=
    fun e b hu => State.noticeInv_post (State.noticeInv_of rfl hu) b
  unfold State.takeoverReturn State.returnTakeover
  split
  · exact h
  · split
    · exact h
    · exact posted _ _ h
    · exact posted _ _ (State.noticeInv_changeLeaves h _ _)

theorem State.noticeInv_setModeCode (h : s.noticeInv) (n : Nat) : (s.setModeCode n).2.noticeInv := by
  unfold State.setModeCode
  (repeat' split) <;> first | exact h | exact State.noticeInv_setMode h _

theorem State.noticeInv_ackAlerts (h : s.noticeInv) (kinds : BitVec 24) : (s.ackAlerts kinds).2.noticeInv := by
  unfold State.ackAlerts
  split
  exacts [h, State.noticeInv_acknowledge h kinds]

theorem State.noticeInv_perform (h : s.noticeInv) (r : Request) (p : List Byte) : (s.perform r p).2.noticeInv := by
  cases r with
  | setMode => exact State.noticeInv_setModeCode h _
  | driveState => exact State.noticeInv_setDrive h ..
  | releaseTrip => exact State.noticeInv_releaseTrip h
  | detectorTest => exact State.noticeInv_detectorTest h
  | setPosition => exact State.noticeInv_setPosition h ..
  | swapBank => exact State.noticeInv_swapBank h
  | entranceCommand => exact State.noticeInv_entranceCommand h ..
  | entranceIsolate => exact State.noticeInv_entranceIsolate h ..
  | takeoverRequest => exact State.noticeInv_takeoverRequest h _
  | takeoverReturn => exact State.noticeInv_takeoverReturn h _
  | ackAlerts => exact State.noticeInv_ackAlerts h _
  | configure => exact State.noticeInv_configure h _
  | restart => exact State.noticeInv_restart h
  | _ => exact State.noticeInv_of rfl h

theorem State.noticeInv_answer (h : s.noticeInv) (f : Frame) : (State.answer f s).noticeInv := by
  have judged : (s.judge f).2.noticeInv := by
    unfold State.judge
    split
    · exact h
    · split
      exacts [State.noticeInv_perform h _ _, h]
  exact State.noticeInv_of rfl judged

end

theorem State.noticeInv_powerOn (s : State) (a b : Bool) : (s.powerOn a b).noticeInv := by
  refine noticeInv_odometryClosed.publishOdometry (State.noticeInv_publishRadio ?_)
  refine ⟨rfl, fun e he => ?_, Nat.zero_le _, Nat.zero_le _, fun i hi => absurd hi (Nat.not_lt_zero i)⟩
  rw [List.eq_of_mem_replicate he]
  exact Nat.zero_le _

/-- Settles O52: every effect writes the notices through the operations of the Alert Set, which keep them in order. -/
theorem stepsKeepTheReportsNumbered : Obligations.StepsKeepTheReportsNumbered := by
  refine step_keeps (P := State.noticeInv) (fun s q => State.noticeInv_of rfl) (fun s t => State.noticeInv_of rfl)
    (fun s a b _ => s.noticeInv_powerOn a b) (fun f hf s h => hf.noticeInv h)
    fun s => State.settle_keeps (P := State.noticeInv) (fun s => State.noticeInv_grant) (fun f rest s _ h => ?_) _ s
  refine State.noticeInv_answer ?_ f
  exact State.noticeInv_of rfl h

end Sys2Proof.Machine
end

section
/-! The step, power-on, posting, and the link around commands (10 §10.1 to §10.3). -/

namespace Sys2Proof.Machine

/-- Settles O1: the two branches of a step. -/
theorem stepRunsFrontCommand : Obligations.StepRunsFrontCommand := by
  refine ⟨fun c rest s => rfl, fun s h => ?_⟩
  rw [step]
  split
  · rfl
  · rename_i c rest hp
    exact absurd (h.symm.trans hp) (List.cons_ne_nil c rest).symm

/-- A condition that stands as its owner sets it changes nothing (R170). -/
theorem Notice.setActive_same {n : Notice} {k : AlertKind} {b : Bool} (h : (n.entry k).active = b) (t : Time) :
    n.setActive t k b = n := by
  rcases n.setActive_cases t k b with ⟨_, e⟩ | ⟨ha, _, _⟩ | ⟨ha, hb, _, _⟩
  · exact e
  · rw [h] at ha
    cases b <;> cases ha
  · rw [h, hb] at ha
    cases ha

theorem State.setCondition_same {s : State} {k : AlertKind} {b : Bool} (h : (s.notice.entry k).active = b) :
    s.setCondition k b = s := by
  rw [State.setCondition, Notice.setActive_same h]

/-- The Alert Set and the report queue once RADIO_LOST has latched, its ALERT report still waiting (R180). -/
def Notice.withLost : Notice := { Notice.afterPowerOn with queue := [Report.afterPowerOn] }

/-- The power-on blocks once RADIO_LOST has latched. -/
def State.withLost (a b : Bool) (s : State) : State := { s.powerOnBlocks a b with notice := Notice.withLost }

theorem Notice.powerOn_setActive_lost : Notice.powerOn.setActive 0 .radioLost true = Notice.withLost := rfl

theorem State.powerOnBlocks_setLost (a b : Bool) (s : State) :
    (s.powerOnBlocks a b).setCondition .radioLost true = s.withLost a b :=
  congrArg (fun n => { s.powerOnBlocks a b with notice := n }) Notice.powerOn_setActive_lost

theorem State.withLost_clear {a b : Bool} {s : State} {k : AlertKind} (h : (Notice.withLost.entry k).active = false) :
    (s.withLost a b).setCondition k false = s.withLost a b :=
  State.setCondition_same h

/-- Of the seven conditions that the owners evaluate after power-on only RADIO_LOST holds. -/
theorem State.powerOn_eq (a b : Bool) (s : State) : s.powerOn a b = s.withLost a b := by
  have radio : (s.powerOnBlocks a b).publishRadio = s.withLost a b := calc
    _ = ((((s.powerOnBlocks a b).setCondition .radioDegraded false).setCondition .radioLost true).setCondition
          .valleyUnheard false).setCondition .carrierBlank false := rfl
    _ = _ := by
      rw [State.setCondition_same (s := s.powerOnBlocks a b) (k := .radioDegraded) (b := false) rfl,
        State.powerOnBlocks_setLost, State.withLost_clear rfl, State.withLost_clear rfl]
  have odometry : (s.withLost a b).publishOdometry = s.withLost a b := calc
    _ = (((s.withLost a b).setCondition .positionDegraded false).setCondition .odometryDisagree false).setCondition
          .engagementUnproven false := rfl
    _ = _ := by rw [State.withLost_clear rfl, State.withLost_clear rfl, State.withLost_clear rfl]
  rw [State.powerOn, State.evaluateOwners, radio, odometry]

/-- Settles O2: the owners' evaluation leaves one report, which the idle transmitter takes. -/
theorem powerOnLeavesResetValues : Obligations.PowerOnLeavesResetValues := by
  intro strap1 strap2 s
  refine congrArg Host.Outcome.next ?_
  rw [State.powerOn_eq, State.finish_empty rfl,
    State.grantTransmitter_report (s := s.withLost strap1 strap2) rfl rfl rfl]
  rfl

/-- Settles O9: the two cases of posting. -/
theorem reportsAreNumberedOrDropped : Obligations.ReportsAreNumberedOrDropped := by
  intro body s
  constructor
  · intro h
    rw [State.post, Notice.post_joins h]
  · intro h
    rw [State.post, Notice.post_dropped h]

theorem State.noticeInv_reset : State.reset.noticeInv := by
  refine ⟨rfl, ?_, Nat.zero_le _, Nat.zero_le _, fun i hi => absurd hi (Nat.not_lt_zero i)⟩
  decide

/-- Settles O51: each invariant evaluated on the values after reset. -/
theorem resetMeetsTheInvariants : Obligations.ResetMeetsTheInvariants :=
  ⟨State.noticeInv_reset, by decide,
    ⟨fun hn => Mode.noConfusion hn, fun _ => ⟨by decide, rfl⟩, fun _ => rfl, Nat.zero_le _, fun hn => absurd rfl hn⟩,
    BrakeChannel.inv_reset, ⟨⟨rfl, by decide⟩, ⟨rfl, by decide⟩, by decide, by decide⟩,
    ⟨fun _ => rfl, fun h => Bool.noConfusion h⟩, State.odometryInv_iff.2 ⟨by decide, Odometry.inRange_powerOn⟩,
    Route.inv_powerOn, State.leavesInv_iff.2 State.reset_leavesOk⟩

/-! ## Requests at the link -/

/-- Settles O3: the laws of a held, a full and a ready link, for every request command. -/
theorem requestsAreBufferedOrAnswered : Obligations.RequestsAreBufferedOrAnswered := by
  intro c t f s hc
  rw [exec_request hc]
  refine ⟨fun h b => ?_, fun h b => ?_, fun h => ?_⟩
  · rw [State.request_held h b]
  · rw [State.request_full h b]
  · rw [State.request_ready h]
    rfl

/-- The KINDs of the catalogue are those of its requests. -/
theorem catalogueKinds_eq : catalogueKinds = Request.all.map fun r => r.kind.toNat := rfl

theorem requestOf_eq_none_iff (kind : Byte) : requestOf kind = none ↔ kind.toNat ∉ catalogueKinds := by
  rw [requestOf, List.find?_eq_none, catalogueKinds_eq, List.mem_map, not_exists]
  refine forall_congr' fun r => ?_
  rw [not_and, beq_iff_eq, ← BitVec.toNat_inj]

/-- A payload of another length than its request's is answered BAD_FIELD 0 (R187 test 2). -/
theorem State.judge_wrongLength {f : Frame} {r : Request} {n : Nat} (hr : requestOf f.kind = some r)
    (hn : r.length = some n) (hp : f.payload.length ≠ n) (s : State) : s.judge f = (.badField 0, s) := by
  have wrong : r.lengthOk f.payload.length = false := by
    rw [Request.lengthOk, hn]
    simpa using hp
  simp only [State.judge, hr, wrong, Bool.false_eq_true, if_false]

theorem State.judge_unknown {f : Frame} (h : requestOf f.kind = none) (s : State) : s.judge f = (.unknownKind, s) := by
  simp only [State.judge, h]

/-- Settles O4: the first two tests of the judgement, and the catalogue's KINDs. -/
theorem unjudgedRequestsChangeNothing : Obligations.UnjudgedRequestsChangeNothing := by
  refine ⟨fun t tag kind payload s hk h => ?_, fun f r s hr ⟨n, hn, hp⟩ => State.judge_wrongLength hr hn hp s,
    requestOf_eq_none_iff⟩
  have answered := State.request_replied h t kind tag payload
    (State.judge_unknown (f := ⟨kind, tag, payload⟩) hk (s.advance t))
  exact congrArg Host.Outcome.next answered

/-! ## The end of a command -/

theorem State.answer_held (f : Frame) {s : State} (h : s.link.tx.isSome = true) : (State.answer f s).linkHeld := by
  rw [State.linkHeld, State.answer_link]
  exact ⟨rfl, h⟩

/-- With no reply waiting behind a transmission the oldest frame is dispatched, and its reply waits (R186). -/
theorem State.finish_dispatch {f : Frame} {rest : List Frame} {s : State} (hb : s.link.buffer = f :: rest)
    (hw : s.link.waiting = none) (ht : s.link.tx.isSome = true) :
    s.finish = State.answer f { s with link := { s.link with buffer := rest } } := by
  obtain ⟨x, hx⟩ := Option.isSome_iff_exists.1 ht
  rw [State.finish, hb, List.length_cons]
  simp only [State.settle, State.grantTransmitter_busy hx, hw, hb]
  refine State.settle_held (State.answer_held f ?_) _
  exact ht

/-- Settles O5: the laws of settling, one for each state of the link. -/
theorem commandEndSettlesTheLink : Obligations.CommandEndSettlesTheLink := by
  intro s
  refine ⟨State.finish_held, State.finish_empty, fun f rest hb hw ht => ?_⟩
  rw [State.finish_dispatch hb hw ht]
  refine ⟨rfl, ?_⟩
  rw [State.answer_link]
  exact ⟨rfl, rfl, rfl⟩

/-- With the transmitter free and a reply waiting, the reply goes out and the oldest frame is dispatched. -/
theorem State.finish_reply_dispatch {r : Reply} {f : Frame} {rest : List Frame} {s : State} (ht : s.link.tx = none)
    (hw : s.link.waiting = some r) (hb : s.link.buffer = f :: rest) :
    s.finish =
      State.answer f
        { s with link := { s.link with tx := some (.reply r), waiting := none, buffer := rest } } := by
  rw [State.finish, hb, List.length_cons]
  simp only [State.settle, State.grantTransmitter_reply ht hw, hb]
  exact State.settle_held (State.answer_held f rfl) _

/-- Settles O6: TRANSMISSION_END frees the transmitter, and the command ends with its hand-over. -/
theorem transmissionEndHandsOn : Obligations.TransmissionEndHandsOn := by
  intro t s
  have ends : exec (.transmissionEnd t) s = .next (s.advance t).transmissionEnd.finish := rfl
  rw [ends]
  refine ⟨fun r hw hb => ?_, fun r f rest hw hb => ?_, fun r rest hw hb hq => ?_, fun hw hb hq => ?_⟩
  · rw [State.finish_empty (s := (s.advance t).transmissionEnd) hb,
      State.grantTransmitter_reply (s := (s.advance t).transmissionEnd) rfl hw]
    rfl
  · rw [State.finish_reply_dispatch (s := (s.advance t).transmissionEnd) rfl hw hb]
    rfl
  · rw [State.finish_empty (s := (s.advance t).transmissionEnd) hb,
      State.grantTransmitter_report (s := (s.advance t).transmissionEnd) rfl hw hq]
    rfl
  · rw [State.finish_empty (s := (s.advance t).transmissionEnd) hb,
      State.grantTransmitter_idle (s := (s.advance t).transmissionEnd) hw hq]
    rfl

end Sys2Proof.Machine
end

section
/-! The bytes of control frames and their reception (10 §10.1, §10.2). -/

namespace Sys2Proof.Machine

/-! ## Bytes of words -/

theorem le_two (n : Nat) : le 2 n = [BitVec.ofNat 8 n, BitVec.ofNat 8 (n / 256)] := rfl

/-- A word of two bytes and the number that the bytes code. -/
theorem word_eq_append_iff (w : BitVec 16) (high low : Byte) :
    w = high ++ low ↔ w.toNat = low.toNat + 256 * high.toNat := by
  rw [← BitVec.toNat_inj, BitVec.toNat_append, Nat.shiftLeft_eq, ← Nat.shiftLeft_eq,
    ← Nat.shiftLeft_add_eq_or_of_lt low.isLt, Nat.shiftLeft_eq]
  omega

theorem ofNat_div_eq_extract {w : Nat} (x : BitVec w) (k : Nat) :
    BitVec.ofNat 8 (x.toNat / 2 ^ k) = x.extractLsb' k 8 := by
  rw [← BitVec.toNat_inj, BitVec.extractLsb'_toNat, BitVec.toNat_ofNat, Nat.shiftRight_eq_div_pow]

theorem ofNat_toNat_eq_extract {w : Nat} (x : BitVec w) : BitVec.ofNat 8 x.toNat = x.extractLsb' 0 8 := by
  rw [← ofNat_div_eq_extract, Nat.pow_zero, Nat.div_one]

theorem le_two_word (w : BitVec 16) : le 2 w.toNat = [w.extractLsb' 0 8, w.extractLsb' 8 8] := by
  rw [← ofNat_div_eq_extract w 8, ← ofNat_toNat_eq_extract]
  rfl

theorem le_three_word (w : BitVec 24) :
    le 3 w.toNat = [w.extractLsb' 0 8, w.extractLsb' 8 8, w.extractLsb' 16 8] := by
  rw [← ofNat_div_eq_extract w 8, ← ofNat_div_eq_extract w 16, ← ofNat_toNat_eq_extract]
  simp only [le, Nat.div_div_eq_div_mul, Nat.reduceMul, Nat.reducePow]

theorem le_four_word (w : BitVec 32) :
    le 4 w.toNat = [w.extractLsb' 0 8, w.extractLsb' 8 8, w.extractLsb' 16 8, w.extractLsb' 24 8] := by
  rw [← ofNat_div_eq_extract w 8, ← ofNat_div_eq_extract w 16, ← ofNat_div_eq_extract w 24,
    ← ofNat_toNat_eq_extract]
  simp only [le, Nat.div_div_eq_div_mul, Nat.reduceMul, Nat.reducePow]

theorem word_eq_bytes (w : BitVec 16) : w = w.extractLsb' 8 8 ++ w.extractLsb' 0 8 := by
  rw [word_eq_append_iff, BitVec.extractLsb'_toNat, BitVec.extractLsb'_toNat, Nat.shiftRight_eq_div_pow]
  have := w.isLt
  omega

/-! ## Whole frame bytes (R182) -/

theorem byteAt_append_left {a : List Byte} (b : List Byte) {i : Nat} (h : i < a.length) :
    byteAt (a ++ b) i = byteAt a i := by
  rw [byteAt, byteAt, List.getD_append _ _ _ _ h]

/-- The CRC of whole frame bytes matches when its two bytes are the last two, the low one first. -/
theorem controlCrcOk_iff {w : List Byte} {n : Nat} (h : w.length = 6 + n) :
    controlCrcOk w = true ↔
      crc16 ((w.drop 1).take (3 + n)) = byteAt w (n + 5) ++ byteAt w (n + 4) := by
  have tail : w.drop (w.length - 2) = [byteAt w (n + 4), byteAt w (n + 5)] := by
    rw [show w.length - 2 = n + 4 by omega, List.drop_eq_getElem_cons (by omega), List.drop_eq_getElem_cons (by omega),
      List.drop_eq_nil_of_le (by omega), byteAt, byteAt, List.getD_eq_getElem _ _ (by omega),
      List.getD_eq_getElem _ _ (by omega)]
  rw [controlCrcOk, tail, slice, show w.length - 3 = 3 + n by omega, beq_iff_eq, word_eq_append_iff]
  simp only [ofLe, Nat.mul_zero, Nat.add_zero]

theorem frameOf_eq {w : List Byte} {n : Nat} (h : w.length = 6 + n) :
    frameOf w = ⟨byteAt w 2, byteAt w 3, (w.drop 4).take n⟩ := by
  rw [frameOf, List.dropLast_eq_take, List.dropLast_eq_take, List.take_take]
  congr 2
  rw [List.length_take, List.length_drop]
  omega

/-! ## One byte (R183, R184) -/

theorem State.receiveByte_outside {s : State} (h : s.link.reception = .awaitSync) (b : Byte) (e : Bool) :
    s.receiveByte b e = s.testSync b e := by
  rw [State.receiveByte, h]

theorem State.testSync_sync (s : State) :
    s.testSync 0x5A#8 false = { s with link := { s.link with reception := .receiving [0x5A#8] s.clock.now } } :=
  if_pos ⟨rfl, rfl⟩

theorem State.testSync_other {b : Byte} {e : Bool} (h : ¬ (b = 0x5A#8 ∧ e = false)) (s : State) :
    s.testSync b e = s :=
  if_neg h

theorem State.byteTimeout_due {s : State} {bytes : List Byte} {last : Time}
    (h : s.link.reception = .receiving bytes last) (due : 10000 ≤ Time.since s.clock.now last) :
    s.byteTimeout = s.discardFrame := by
  rw [State.byteTimeout, State.byteAge, h]
  exact if_pos (decide_eq_true due)

theorem State.byteTimeout_early {s : State} {bytes : List Byte} {last : Time}
    (h : s.link.reception = .receiving bytes last) (early : Time.since s.clock.now last < 10000) :
    s.byteTimeout = s := by
  rw [State.byteTimeout, State.byteAge, h]
  exact if_neg fun due => absurd (of_decide_eq_true due) (Nat.not_le.2 early)

theorem State.byteTimeout_outside {s : State} (h : s.link.reception = .awaitSync) : s.byteTimeout = s := by
  rw [State.byteTimeout, State.byteAge, h]
  rfl

theorem State.receiveByte_late {s : State} {bytes : List Byte} {last : Time}
    (h : s.link.reception = .receiving bytes last) (late : 10000 < Time.since s.clock.now last) (b : Byte) (e : Bool) :
    s.receiveByte b e = s.discardFrame.testSync b e := by
  simp only [State.receiveByte, State.byteAge, h]
  exact if_pos (decide_eq_true late)

theorem State.receiveByte_error {s : State} {bytes : List Byte} {last : Time}
    (h : s.link.reception = .receiving bytes last) (soon : Time.since s.clock.now last ≤ 10000) (b : Byte) :
    s.receiveByte b true = s.discardFrame := by
  simp only [State.receiveByte, State.byteAge, h]
  refine (if_neg ?_).trans (if_pos trivial)
  rw [decide_eq_true_iff]
  exact Nat.not_le.2 (Nat.lt_succ_of_le soon)

theorem State.receiveByte_judged {s : State} {bytes : List Byte} {last : Time}
    (h : s.link.reception = .receiving bytes last) (soon : Time.since s.clock.now last ≤ 10000) (b : Byte) :
    s.receiveByte b false = s.judgeBytes (bytes ++ [b]) := by
  simp only [State.receiveByte, State.byteAge, h]
  refine (if_neg ?_).trans (if_neg Bool.false_ne_true)
  rw [decide_eq_true_iff]
  exact Nat.not_le.2 (Nat.lt_succ_of_le soon)

theorem State.judgeBytes_long {w : List Byte} (h : w.length = 2) (l : 112 < (byteAt w 1).toNat) (s : State) :
    s.judgeBytes w = s.discardFrame := by
  rw [State.judgeBytes, if_pos ⟨h, l⟩]

theorem State.judgeBytes_partial {w : List Byte} (l : w.length = 2 → (byteAt w 1).toNat ≤ 112)
    (h : w.length < 6 + (byteAt w 1).toNat) (s : State) :
    s.judgeBytes w = { s with link := { s.link with reception := .receiving w s.clock.now } } := by
  rw [State.judgeBytes, if_neg fun ⟨p, q⟩ => absurd (l p) (Nat.not_le.2 q), if_neg (Nat.ne_of_lt h)]

theorem State.judgeBytes_whole {w : List Byte} (h : w.length = 6 + (byteAt w 1).toNat) (s : State) :
    s.judgeBytes w = if controlCrcOk w then s.awaitSync.offer (frameOf w) else s.discardFrame := by
  rw [State.judgeBytes, if_neg fun ⟨p, _⟩ => absurd (h.symm.trans p) (by omega), if_pos h]

theorem State.offer_room {s : State} (h : s.link.buffer.length < 4) (f : Frame) :
    s.offer f = { s with link := { s.link with buffer := s.link.buffer ++ [f] } } := by
  exact if_pos h

theorem State.offer_full {s : State} (h : 4 ≤ s.link.buffer.length) (f : Frame) :
    s.offer f = s.raise .linkFrameBad := by
  exact if_neg (Nat.not_lt.2 h)

/-- Settles O8: the equations of one byte received, for each state of the receiver. -/
theorem bytesAreReceived : Obligations.BytesAreReceived := by
  intro t b e s reset
  have received : exec (.controlByteReceived t b e) s = .next ((s.advance t).receiveByte b e).finish := rfl
  have timeout : exec (.byteTimeout t) s = .next (s.advance t).byteTimeout.finish := rfl
  have discard : (s.advance t).discardFrame = reset.raise .linkFrameBad := rfl
  rw [received, timeout]
  refine ⟨fun h => ?_, fun bytes last h soon => ?_, fun bytes last h late => ?_, fun bytes last h due => ?_, ?_⟩
  · rw [State.receiveByte_outside (s := s.advance t) h]
    split_ifs with sync
    · rw [sync.1, sync.2, State.testSync_sync]
      rfl
    · rw [State.testSync_other sync]
  · intro whole count crc f
    have wl : whole.length = bytes.length + 1 := List.length_append
    have c1 (two : 2 ≤ bytes.length) : (byteAt whole 1).toNat = count :=
      congrArg BitVec.toNat (byteAt_append_left [b] two)
    have c0 (one : bytes.length = 1) : byteAt whole 1 = b := by
      rw [byteAt, List.getD_append_right _ _ _ _ (by omega), one]
      rfl
    have judged (he : e = false) : (s.advance t).receiveByte b e = (s.advance t).judgeBytes whole := by
      rw [he, State.receiveByte_judged (s := s.advance t) h soon]
    have full (two : 2 ≤ bytes.length) (len : whole.length = 6 + count) :
        (s.advance t).judgeBytes whole = if controlCrcOk whole then reset.offer f else reset.raise .linkFrameBad := by
      rw [State.judgeBytes_whole (by rw [c1 two, len]), frameOf_eq len]
      rfl
    refine ⟨fun he => ?_, fun he one long => ?_, fun he short => ?_, fun ⟨he, two, len⟩ ok room => ?_,
      fun ⟨he, two, len⟩ ok none => ?_, fun ⟨he, two, len⟩ bad => ?_⟩
    · rw [he, State.receiveByte_error (s := s.advance t) h soon, discard]
    · rw [judged he, State.judgeBytes_long (by omega) (by rw [c0 one]; exact long), discard]
    · rw [judged he, State.judgeBytes_partial]
      · rfl
      · intro w2
        rcases short with ⟨one, ok⟩ | ⟨two, _⟩
        · rw [c0 one]; exact ok
        · omega
      · rcases short with ⟨one, _⟩ | ⟨two, l⟩
        · omega
        · rw [c1 two]; exact l
    · rw [judged he, full two len, if_pos ((controlCrcOk_iff len).2 ok), State.offer_room (s := reset) room]
    · rw [judged he, full two len, if_pos ((controlCrcOk_iff len).2 ok), State.offer_full (s := reset) none]
    · rw [judged he, full two len, if_neg fun ok => bad ((controlCrcOk_iff len).1 ok)]
  · rw [State.receiveByte_late (s := s.advance t) h late, discard]
    split_ifs with sync
    · rw [sync.1, sync.2, State.testSync_sync]
      rfl
    · rw [State.testSync_other sync]
  · rw [State.byteTimeout_due (s := s.advance t) h due, discard]
  · rintro (h | ⟨bytes, last, h, early⟩)
    · rw [State.byteTimeout_outside (s := s.advance t) h]
    · rw [State.byteTimeout_early (s := s.advance t) h early]

/-! ## A frame sent and received (R182, R188) -/

theorem frameBytes_eq (f : Frame) :
    frameBytes f =
      0x5A#8 :: BitVec.ofNat 8 f.payload.length :: f.kind :: f.tag ::
        (f.payload ++ le 2 (crc16 (BitVec.ofNat 8 f.payload.length :: f.kind :: f.tag :: f.payload)).toNat) := rfl

theorem frameBytes_length (f : Frame) : (frameBytes f).length = 6 + f.payload.length := by
  simp [frameBytes_eq]
  omega

theorem frameBytes_count {f : Frame} (h : f.payload.length ≤ 112) :
    (byteAt (frameBytes f) 1).toNat = f.payload.length := by
  rw [frameBytes_eq]
  exact Nat.mod_eq_of_lt (by omega)

theorem frameOf_frameBytes (f : Frame) : frameOf (frameBytes f) = f := by
  rw [frameOf_eq (frameBytes_length f), frameBytes_eq]
  simp [byteAt]

theorem controlCrcOk_frameBytes (f : Frame) : controlCrcOk (frameBytes f) = true := by
  have drop (x a b c : Byte) (p : List Byte) (q : List Byte) (hq : q.length = 2) :
      (x :: a :: b :: c :: (p ++ q)).drop ((x :: a :: b :: c :: (p ++ q)).length - 2) = q := by
    rw [show (x :: a :: b :: c :: (p ++ q)).length - 2 = (x :: a :: b :: c :: p).length by simp [hq]]
    exact List.drop_left (l₁ := x :: a :: b :: c :: p)
  have take (x a b c : Byte) (p q : List Byte) (hq : q.length = 2) :
      slice (x :: a :: b :: c :: (p ++ q)) 1 ((x :: a :: b :: c :: (p ++ q)).length - 3) = a :: b :: c :: p := by
    rw [show (x :: a :: b :: c :: (p ++ q)).length - 3 = (a :: b :: c :: p).length by simp [hq]]
    exact List.take_left (l₁ := a :: b :: c :: p)
  rw [controlCrcOk, frameBytes_eq, drop _ _ _ _ _ _ (le_length _ _), take _ _ _ _ _ _ (le_length _ _), ofLe_le,
    beq_iff_eq]
  exact (Nat.mod_eq_of_lt (BitVec.isLt _)).symm

/-- The state with the bytes `w` of a frame received up to now. -/
def State.receiving (w : List Byte) (s : State) : State :=
  { s with link := { s.link with reception := .receiving w s.clock.now } }

theorem State.receiving_next (w : List Byte) (b : Byte) (s : State) :
    (s.receiving w).receiveByte b false = (s.receiving w).judgeBytes (w ++ [b]) := by
  refine State.receiveByte_judged (s := s.receiving w) rfl ?_ b
  change Time.since s.clock.now s.clock.now ≤ 10000
  rw [Time.since, BitVec.sub_self]
  exact Nat.zero_le _

/-- The bytes of a frame that follow a part of it already received offer the frame. -/
theorem State.receive_rest (f : Frame) (hf : f.payload.length ≤ 112) (s : State) :
    ∀ (rest got : List Byte), got ++ rest = frameBytes f → got ≠ [] → rest ≠ [] →
      rest.foldl (fun u b => u.receiveByte b false) (s.receiving got) = s.awaitSync.offer f
  | [], _, _, _, hr => absurd rfl hr
  | b :: rest, got, e, hg, _ => by
    have whole : (got ++ [b]) ++ rest = frameBytes f := by simpa using e
    have two : 1 < (got ++ [b]).length := by
      rw [List.length_append]
      exact Nat.succ_lt_succ (List.length_pos_of_ne_nil hg)
    have count : (byteAt (got ++ [b]) 1).toNat = f.payload.length := by
      rw [← frameBytes_count hf, ← whole, byteAt_append_left rest two]
    rw [List.foldl_cons, State.receiving_next]
    cases rest with
    | nil =>
      rw [List.append_nil] at whole
      rw [List.foldl_nil, State.judgeBytes_whole (by rw [count, whole, frameBytes_length]), whole,
        if_pos (controlCrcOk_frameBytes f), frameOf_frameBytes]
      rfl
    | cons c rest =>
      have len : (got ++ [b]).length + (rest.length + 1) = 6 + f.payload.length := by
        rw [← frameBytes_length, ← whole, List.length_append (as := got ++ [b]), List.length_cons]
      rw [State.judgeBytes_partial (by rw [count]; exact fun _ => hf) (by rw [count]; omega)]
      exact State.receive_rest f hf s (c :: rest) (got ++ [b]) whole (List.ne_nil_of_length_pos (by omega))
        (List.cons_ne_nil c rest)

theorem State.receive_frame (f : Frame) (hf : f.payload.length ≤ 112) (s : State)
    (h : s.link.reception = .awaitSync) :
    (frameBytes f).foldl (fun u b => u.receiveByte b false) s = s.offer f := by
  have wait : s.awaitSync = s := by
    rw [State.awaitSync, ← h]
  have rest := State.receive_rest f hf s (frameBytes f).tail [0x5A#8] rfl (List.cons_ne_nil _ _)
    (List.cons_ne_nil _ _)
  rw [wait] at rest
  rw [← rest, frameBytes_eq, List.foldl_cons, State.receiveByte_outside h, State.testSync, if_pos ⟨rfl, rfl⟩]
  rfl

/-- Settles O7: the reception of a frame's bytes, the frame bytes, and the payloads of replies and reports. -/
theorem frameBytesReachTheBuffer : Obligations.FrameBytesReachTheBuffer := by
  refine ⟨fun f s hf h => State.receive_frame f hf s h, fun f => ?_, fun r => ⟨r.result.rest, ?_, ?_, ?_, ?_, ?_⟩,
    fun r => ⟨(Config.contentBytes r.body).take 107, List.length_take_le _ _, ?_⟩,
    fun s => ⟨fun h => ?_, fun x h => ?_⟩⟩
  · intro covered
    refine ⟨(crc16 covered).extractLsb' 0 8, (crc16 covered).extractLsb' 8 8, ?_, word_eq_bytes _⟩
    rw [← le_two_word]
    rfl
  · rw [TxFrame.wire, TxFrame.frame, Result.payload]
    cases r.result <;> rfl
  · intro n h
    rw [h]
    rfl
  · rintro (h | h | h | h | h) <;> rw [h] <;> rfl
  · intro data h
    rw [h]
    rfl
  · intro kinds h
    rw [h, ← le_three_word]
    rfl
  · rw [TxFrame.wire, TxFrame.frame, Report.payload, le_four_word]
    cases r.body <;> rfl
  · rw [State.lineBytes, h]
  · rw [State.lineBytes, h]

end Sys2Proof.Machine
end

section
/-! Latching, conditions, forcing and acknowledgement of the alert kinds (09 §9.2 to §9.4). -/

namespace Sys2Proof.Machine

/-! ## Setting and forcing a condition (R170, R174) -/

theorem AlertEntry.follow_forced (e : AlertEntry) (b : Bool) : (e.follow (some b)).forced = e.forced := by
  unfold AlertEntry.follow
  dsimp only
  split_ifs <;> rfl

theorem AlertEntry.follow_rise {e : AlertEntry} (ha : e.active = false) (hf : e.forced = false) :
    e.follow (some true) = { e with active := true, latched := true, count := min (e.count + 1) 255 } :=
  if_pos ⟨rfl, ha, hf⟩

theorem AlertEntry.follow_quiet {e : AlertEntry} {b : Bool} (h : b = false ∨ e.active = true ∨ e.forced = true) :
    e.follow (some b) = { e with active := b } := by
  refine if_neg fun ⟨hb, ha, hf⟩ => ?_
  rw [hb, ha, hf] at h
  simp at h

theorem Notice.setActive_rise {n : Notice} {k : AlertKind} (ha : (n.entry k).active = false)
    (hf : (n.entry k).forced = false) (t : Time) :
    n.setActive t k true = (n.setEntry k { n.entry k with active := true }).latch t k := by
  simp [Notice.setActive, ha, hf]

theorem Notice.setActive_quiet_queue {n : Notice} {k : AlertKind} {b : Bool}
    (h : b = false ∨ (n.entry k).active = true ∨ (n.entry k).forced = true) (t : Time) :
    (n.setActive t k b).queue = n.queue := by
  rcases n.setActive_cases t k b with ⟨_, e⟩ | ⟨_, _, e⟩ | ⟨ha, hb, hf, _⟩
  · rw [e]
  · rw [e, Notice.setEntry_queue]
  · rw [ha, hb, hf] at h
    simp at h

theorem Notice.force_quiet {n : Notice} {k : AlertKind} (l : n.alerts.length = 21)
    (h : (n.entry k).forced = true ∨ (n.entry k).active = true) (t : Time) :
    (n.force t k).entry k = { n.entry k with forced := true } ∧ (n.force t k).queue = n.queue := by
  rcases n.force_cases t k with ⟨hf, e⟩ | ⟨_, _, e⟩ | ⟨hf, ha, _⟩
  · rw [e, ← hf]
    exact ⟨rfl, rfl⟩
  · rw [e]
    exact ⟨Notice.entry_setEntry_self n k _ l, rfl⟩
  · rw [hf, ha] at h
    simp at h

theorem Notice.force_rise {n : Notice} {k : AlertKind} (hf : (n.entry k).forced = false)
    (ha : (n.entry k).active = false) (t : Time) :
    n.force t k = (n.setEntry k { n.entry k with forced := true }).latch t k := by
  simp [Notice.force, hf, ha]

/-- An entry changed and then latched: its flag, its count, and the ALERT report of a new latching. -/
theorem Notice.latch_setEntry {n : Notice} (l : n.alerts.length = 21) (q : n.queue.length < 24) (t : Time)
    (k : AlertKind) (e : AlertEntry) :
    ((n.setEntry k e).latch t k).entry k = { e with latched := true, count := min (e.count + 1) 255 } ∧
    ((n.setEntry k e).latch t k).queue =
      if e.latched then n.queue
      else n.queue ++ [⟨n.nextNumber, t, n.drops, .alert k k.cls e.forced ((n.setEntry k e).latch t k).latchedSet⟩] := by
  have self := Notice.entry_setEntry_self n k e l
  rw [Notice.latch_entry_self _ _ _ ((Notice.setEntry_length n k e).trans l), self, Notice.latch_queue (n := n.setEntry k e) t k q, self]
  exact ⟨rfl, rfl⟩

/-- Settles O10: a latching, the cases of a condition set and of a condition forced. -/
theorem alertsLatch : Obligations.AlertsLatch := by
  intro k b s l q e u v w
  have vk : v.notice.entry k = e.follow (some b) := Notice.setActive_entry_self s.notice s.clock.now k b l
  refine ⟨rfl, Notice.latch_entry_self _ _ _ l, fun j h => Notice.latch_entry_other _ _ h, Notice.latch_queue _ _ q, rfl,
    ?_, ?_, fun j h => Notice.setActive_entry_other _ _ _ h, fun hb ha hf => ?_, fun h => ?_, rfl,
    fun j h => Notice.force_entry_other _ _ h, fun h => Notice.force_quiet l h _, fun hf ha => ?_⟩
  · rw [vk, AlertEntry.follow_active]
  · rw [vk, AlertEntry.follow_forced]
  · subst hb
    rw [vk, AlertEntry.follow_rise ha hf]
    refine ⟨rfl, rfl, fun hl => ?_⟩
    have vn : v.notice = (s.notice.setEntry k { e with active := true }).latch s.clock.now k :=
      Notice.setActive_rise ha hf _
    rw [vn, (Notice.latch_setEntry l q s.clock.now k { e with active := true }).2]
    dsimp only
    rw [hl, hf]
    rfl
  · rw [vk, AlertEntry.follow_quiet h]
    exact ⟨rfl, rfl, Notice.setActive_quiet_queue h _⟩
  · have wn : w.notice = (s.notice.setEntry k { e with forced := true }).latch s.clock.now k := Notice.force_rise hf ha _
    rw [wn]
    exact Notice.latch_setEntry l q s.clock.now k { e with forced := true }

/-! ## The latched set (R169, R176) -/

theorem latchedBits_mul (w : Nat) (es : List AlertEntry) : latchedBits w es = w * latchedBits 1 es := by
  induction es generalizing w with
  | nil => rfl
  | cons e es ih =>
    rw [latchedBits, latchedBits, ih (2 * w), ih (2 * 1)]
    ring

theorem latchedBits_cons (e : AlertEntry) (es : List AlertEntry) :
    latchedBits 1 (e :: es) = 2 * latchedBits 1 es + e.latched.toNat := by
  have coded : bit e.latched = e.latched.toNat := by cases e.latched <;> rfl
  rw [latchedBits, latchedBits_mul, coded, Nat.one_mul, Nat.mul_one, Nat.add_comm]

/-- Kind n stands at bit n of the latched set. -/
theorem latchedBits_testBit (es : List AlertEntry) (i : Nat) :
    (latchedBits 1 es).testBit i = (es.getD i AlertEntry.clear).latched := by
  induction es generalizing i with
  | nil => exact Nat.zero_testBit i
  | cons e es ih =>
    rw [latchedBits_cons]
    cases i with
    | zero => cases h : e.latched <;> simp [Nat.testBit_zero, h]
    | succ i =>
      rw [List.getD_cons_succ, ← ih, Nat.testBit_succ]
      have := e.latched.toNat_lt
      congr 1
      omega

theorem Notice.latchedSet_getLsbD {n : Notice} (h : n.alerts.length = 21) (i : Nat) :
    n.latchedSet.getLsbD i = (n.alerts.getD i AlertEntry.clear).latched := by
  rw [Notice.latchedSet, BitVec.getLsbD_ofNat, latchedBits_testBit]
  by_cases hi : i < 24
  · rw [decide_eq_true hi, Bool.true_and]
  · rw [List.getD_eq_default _ _ (by omega)]
    exact Bool.and_false _

theorem Notice.attention_iff {n : Notice} (h : n.alerts.length = 21) : n.attention = true ↔ n.latchedSet ≠ 0#24 := by
  rw [Notice.attention, List.any_eq_true]
  constructor
  · rintro ⟨e, he, hl⟩ z
    obtain ⟨i, hi, rfl⟩ := List.getElem_of_mem he
    have bit := Notice.latchedSet_getLsbD h i
    rw [z, List.getD_eq_getElem _ _ hi, hl, BitVec.getLsbD_zero] at bit
    cases bit
  · intro z
    by_contra none
    refine z (BitVec.eq_of_getLsbD_eq fun i hi => ?_)
    rw [Notice.latchedSet_getLsbD h, BitVec.getLsbD_zero, ← Bool.not_eq_true]
    intro hl
    by_cases hi : i < n.alerts.length
    · rw [List.getD_eq_getElem _ _ hi] at hl
      exact none ⟨_, List.getElem_mem hi, hl⟩
    · rw [List.getD_eq_default _ _ (by omega)] at hl
      cases hl

/-! ## Acknowledgement (R173) -/

theorem Notice.acknowledge_getD (kinds : BitVec 24) (n : Notice) (i : Nat) :
    (n.acknowledge kinds).alerts.getD i AlertEntry.clear =
      if kinds.getLsbD i then (n.alerts.getD i AlertEntry.clear).acknowledge else n.alerts.getD i AlertEntry.clear := by
  rw [List.getD_eq_getElem?_getD, List.getD_eq_getElem?_getD, Notice.acknowledge, Notice.acknowledgeFrom_get,
    Nat.zero_add]
  cases n.alerts[i]? with
  | none => simp [AlertEntry.acknowledge, AlertEntry.clear]
  | some e => rfl

theorem Notice.acknowledge_latchedSet {n : Notice} (h : n.alerts.length = 21) (kinds : BitVec 24) :
    (n.acknowledge kinds).latchedSet = n.latchedSet &&& ~~~kinds := by
  refine BitVec.eq_of_getLsbD_eq fun i hi => ?_
  rw [Notice.latchedSet_getLsbD ((Notice.acknowledgeFrom_length kinds n.alerts 0).trans h), Notice.acknowledge_getD,
    BitVec.getLsbD_and, BitVec.getLsbD_not, Notice.latchedSet_getLsbD h, decide_eq_true hi, Bool.true_and]
  cases kinds.getLsbD i
  · exact (Bool.and_true _).symm
  · exact (Bool.and_false _).symm

theorem leAt_le (n x : Nat) : leAt (le n x) 0 n = x % 256 ^ n := by
  rw [leAt, slice, List.drop_zero, List.take_of_length_le (le_length n x).le, ofLe_le]

theorem State.perform_ackAlerts (kinds : BitVec 24) (s : State) :
    s.perform .ackAlerts (le 3 kinds.toNat) = s.ackAlerts kinds := by
  rw [State.perform, leAt_le, Nat.mod_eq_of_lt (b := 256 ^ 3) kinds.isLt, BitVec.ofNat_toNat, BitVec.setWidth_eq]

/-- Settles O11: the bits of the latched set, and an acknowledgement entry by entry. -/
theorem ackAlertsClearsTheNamedKinds : Obligations.AckAlertsClearsTheNamedKinds := by
  refine ⟨fun n l => ⟨fun k => Notice.latchedSet_getLsbD l _, Notice.attention_iff l⟩, fun t tag kinds s ready l => ?_⟩
  have request (u : State) (r : Result) (j : (s.advance t).ackAlerts kinds = (r, u)) :
      exec (.ackAlerts t tag kinds) s = .next (State.replied 0x31 tag r u) := by
    rw [exec_request rfl]
    exact congrArg Host.Outcome.next (State.request_perform (r := .ackAlerts) ready (by rw [le_length]; rfl) t tag
      ((State.perform_ackAlerts kinds _).trans j))
  constructor
  · intro h
    refine ⟨s.notice.acknowledge kinds, rfl, fun k => Notice.acknowledge_getD kinds s.notice _, request _ _ ?_⟩
    rw [State.ackAlerts, if_neg (Nat.not_le.2 h), ← Notice.acknowledge_latchedSet l]
    rfl
  · intro h
    exact request _ _ (if_pos h)

end Sys2Proof.Machine
end

section
/-! Requests to the Line Store: their payloads read back, loads, checks and the swap of the banks (02 §2.3 to §2.5). -/

namespace Sys2Proof.Machine

/-! ## Request commands at a ready link -/

/-- A request command at a ready link: its owner's rule on its payload, then the reply. -/
theorem exec_perform {c : Instr} {t : Time} {r : Request} {tag : Byte} {p : List Byte} {s u : State} {res : Result}
    (hc : requestFrame c = some (t, ⟨r.kind, tag, p⟩)) (ready : s.linkReady) (l : r.lengthOk p.length = true)
    (j : (s.advance t).perform r p = (res, u)) : exec c s = .next (u.replied r.kind tag res) := by
  rw [exec_request hc]
  exact congrArg Host.Outcome.next (State.request_perform ready l t tag j)

/-- The widths of a run of fields, without ranges. -/
def widths (ws : List Nat) : List (Nat × Nat × Nat) := ws.map fun w => (w, 0, 0)

/-- A payload that is a run of fields gives each field back. -/
theorem readFields_payload {ws vs : List Nat} {p : List Byte} (hp : p = fieldBytes (widths ws) vs)
    (fit : FieldsFit (widths ws) vs) : readFields p 0 (widths ws) = vs := by
  rw [hp]
  exact readFields_fieldBytes fit []

theorem leAt_single (b : Byte) (p : List Byte) : leAt (b :: p) 0 1 = b.toNat :=
  leAt_one (b :: p) 0 b rfl

/-! ## The payloads of the loads -/

theorem loadHeader_payload (lineId : BitVec 16) (count : Byte) (lineEnd : BitVec 24) :
    let p := le 2 lineId.toNat ++ [count] ++ le 3 lineEnd.toNat
    leAt p 0 2 = lineId.toNat ∧ leAt p 2 1 = count.toNat ∧ leAt p 3 3 = lineEnd.toNat := by
  intro p
  have fields := readFields_payload (ws := [2, 1, 3]) (vs := [lineId.toNat, count.toNat, lineEnd.toNat]) (p := p)
    (by simp [p, fieldBytes, widths, le])
    (by
      have := lineId.isLt
      have := count.isLt
      have := lineEnd.isLt
      simp only [FieldsFit, widths, List.map_cons, List.map_nil, List.forall₂_cons, List.Forall₂.nil, and_true]
      omega)
  simpa [widths, readFields] using fields

/-- The widths of the fifteen fields of LOAD SEGMENT (10 §10.7). -/
def segmentWidths : List Nat := [1, 3, 1, 2, 2, 2, 1, 1, 3, 3, 1, 1, 1, 3, 2]

/-- The fifteen fields as numbers. -/
def segmentValues (f : SegmentFields) : List Nat :=
  [f.index.toNat, f.start.toNat, f.kind.toNat, f.pull.toNat, f.limitUp.toNat, f.limitDown.toNat,
    f.platformPresent.toNat, f.platformSide.toNat, f.platformFrom.toNat, f.platformTo.toNat, f.station.toNat,
    f.markerPresent.toNat, f.markerId.toNat, f.markerPosition.toNat, f.markerWindow.toNat]

theorem segmentFieldBytes_eq (f : SegmentFields) :
    segmentFieldBytes f = fieldBytes (widths segmentWidths) (segmentValues f) := rfl

theorem segmentFieldBytes_length (f : SegmentFields) : (segmentFieldBytes f).length = 27 := rfl

theorem segmentValues_fit (f : SegmentFields) : FieldsFit (widths segmentWidths) (segmentValues f) := by
  simp only [FieldsFit, widths, segmentWidths, segmentValues, List.map_cons, List.map_nil, List.forall₂_cons,
    List.Forall₂.nil, and_true]
  exact ⟨f.index.isLt, f.start.isLt, f.kind.isLt, f.pull.isLt, f.limitUp.isLt, f.limitDown.isLt,
    f.platformPresent.isLt, f.platformSide.isLt, f.platformFrom.isLt, f.platformTo.isLt, f.station.isLt,
    f.markerPresent.isLt, f.markerId.isLt, f.markerPosition.isLt, f.markerWindow.isLt⟩

theorem segmentFieldsOf_segmentFieldBytes (f : SegmentFields) : segmentFieldsOf (segmentFieldBytes f) = f := by
  have fields := readFields_payload (segmentFieldBytes_eq f) (segmentValues_fit f)
  simp only [widths, segmentWidths, segmentValues, List.map_cons, List.map_nil, readFields, List.cons.injEq, and_true,
    Nat.zero_add, Nat.reduceAdd] at fields
  simp only [segmentFieldsOf, fields, BitVec.ofNat_toNat, BitVec.setWidth_eq]

/-! ## The ranges of a segment's fields (R26) -/

theorem segKindOf_isNone (n : Nat) : (segKindOf n).isNone = !decide (n ≤ 2) := by
  unfold segKindOf
  split <;> simp_all
  omega

theorem platformSideOf_isNone (n : Nat) : (platformSideOf n).isNone = !decide (n ≤ 2) := by
  unfold platformSideOf
  split <;> simp_all
  omega

/-- The first number of a list of checks whose check fails. -/
theorem firstFailed_cons (n : Nat) (b : Bool) (l : List (Nat × Bool)) :
    (((n, b) :: l).find? fun c => !c.2).map Prod.fst =
      if b = false then some n else (l.find? fun c => !c.2).map Prod.fst := by
  cases b <;> rfl

/-- The ranges of the fields that LOAD SEGMENT judges, with their numbers, absent parts in range. -/
def segmentChecks (f : SegmentFields) : List (Nat × Bool) :=
  [(1, decide (f.index.toNat ≤ 127)), (3, decide (f.kind.toNat ≤ 2)),
   (4, decide ((-500 ≤ f.pull.toInt ∧ f.pull.toInt ≤ 500) ∨ f.pull.toInt = -32768)),
   (5, decide (f.limitUp.toNat ≤ 15000)), (6, decide (f.limitDown.toNat ≤ 15000)),
   (7, decide (f.platformPresent.toNat ≤ 1)), (8, decide (f.platformPresent = 1#8 → f.platformSide.toNat ≤ 2)),
   (11, decide (f.platformPresent = 1#8 → 1 ≤ f.station.toNat ∧ f.station.toNat ≤ 63)),
   (12, decide (f.markerPresent.toNat ≤ 1)), (13, decide (f.markerPresent = 1#8 → 1 ≤ f.markerId.toNat)),
   (15, decide (f.markerPresent = 1#8 → 100 ≤ f.markerWindow.toNat ∧ f.markerWindow.toNat ≤ 5000))]

theorem byte_eq_one_iff (b : Byte) : b = 1#8 ↔ b.toNat = 1 := BitVec.toNat_inj.symm

theorem segmentBad_eq (f : SegmentFields) :
    segmentBad f = ((segmentChecks f).find? fun c => !c.2).map Prod.fst := by
  simp only [segmentBad, segmentChecks, firstFailed_cons, List.find?_nil, Option.map_none, decide_eq_false_iff_not,
    segKindOf_isNone, platformSideOf_isNone, byte_eq_one_iff, Config.maxSpeed]
  refine if_congr (by omega) rfl <| if_congr (by simp) rfl <| if_congr (by simp; omega) rfl <|
    if_congr (by omega) rfl <| if_congr (by omega) rfl <| if_congr (by omega) rfl <| if_congr (by simp) rfl <|
    if_congr (by simp; omega) rfl <| if_congr (by omega) rfl <| if_congr (by simp) rfl <| if_congr (by simp; omega) rfl rfl

/-- Fields in range pass every check. -/
theorem segmentChecks_of_segmentBad_none {f : SegmentFields} (h : segmentBad f = none) :
    ∀ c ∈ segmentChecks f, c.2 = true := by
  rw [segmentBad_eq, Option.map_eq_none_iff, List.find?_eq_none] at h
  intro c hc
  simpa using h c hc

/-- What fields in range leave open of the codes that a record is made from. -/
theorem segment_codes {f : SegmentFields} (h : segmentBad f = none) :
    f.index.toNat ≤ 127 ∧ f.kind.toNat ≤ 2 ∧ f.platformPresent.toNat ≤ 1 ∧
    (f.platformPresent.toNat = 1 → f.platformSide.toNat ≤ 2) ∧ f.markerPresent.toNat ≤ 1 := by
  have ok := segmentChecks_of_segmentBad_none h
  simp only [segmentChecks, List.forall_mem_cons, decide_eq_true_eq, byte_eq_one_iff] at ok
  obtain ⟨index, kind, _, _, _, present, side, _, marker, _⟩ := ok
  exact ⟨index, kind, present, side, marker⟩

/-! ## The record that fields in range store (R26) -/

theorem toInt_least_iff (x : BitVec 16) : (x.toInt == -32768) = decide (x = 0x8000#16) := by
  have least : (0x8000#16 : BitVec 16).toInt = -32768 := rfl
  rw [← least, Bool.eq_iff_iff, beq_iff_eq, BitVec.toInt_inj, decide_eq_true_iff]

theorem segKindOf_eq {k : Byte} (h : k.toNat ≤ 2) :
    segKindOf k.toNat = some (if k = 0#8 then .adhesion else if k = 1#8 then .rack else .rackEntry) := by
  simp only [← BitVec.toNat_inj, BitVec.toNat_ofNat]
  generalize k.toNat = n at h
  interval_cases n <;> rfl

theorem platformSideOf_eq {k : Byte} (h : k.toNat ≤ 2) :
    platformSideOf k.toNat = some (if k = 0#8 then .left else if k = 1#8 then .right else .both) := by
  simp only [← BitVec.toNat_inj, BitVec.toNat_ofNat]
  generalize k.toNat = n at h
  interval_cases n <;> rfl

theorem byte_eq_zero_or_one {b : Byte} (h : b.toNat ≤ 1) : b = 0#8 ∨ b = 1#8 := by
  simp only [← BitVec.toNat_inj, BitVec.toNat_ofNat]
  omega

theorem segmentRecord_eq {f : SegmentFields} (h : segmentBad f = none) :
    segmentRecord f =
      { start := f.start.toNat
        kind := if f.kind = 0#8 then .adhesion else if f.kind = 1#8 then .rack else .rackEntry
        pull := if f.pull = 0x8000#16 then none else some f.pull.toInt
        limitUp := f.limitUp.toNat
        limitDown := f.limitDown.toNat
        platform :=
          if f.platformPresent = 0#8 then none
          else
            some
              ⟨if f.platformSide = 0#8 then .left else if f.platformSide = 1#8 then .right else .both,
                f.platformFrom.toNat, f.platformTo.toNat, f.station.toNat⟩
        marker :=
          if f.markerPresent = 0#8 then none
          else some ⟨f.markerId.toNat, f.markerPosition.toNat, f.markerWindow.toNat⟩ } := by
  obtain ⟨_, kind, present, side, marker⟩ := segment_codes h
  rw [segmentRecord, segKindOf_eq kind, toInt_least_iff]
  congr 1
  · exact if_congr decide_eq_true_iff rfl rfl
  · rcases byte_eq_zero_or_one present with e | e
    · rw [e]; rfl
    · rw [platformSideOf_eq (side (congrArg BitVec.toNat e)), e]; rfl
  · rcases byte_eq_zero_or_one marker with e | e <;> rw [e] <;> rfl

/-! ## Loads (R25, R26, R27) -/

theorem headerBad_eq (lineId : BitVec 16) (count : Byte) (lineEnd : BitVec 24) :
    headerBad lineId.toNat count.toNat lineEnd.toNat =
      if lineId = 0#16 then some 1 else if count = 0#8 ∨ 128 < count.toNat then some 2
      else if lineEnd = 0#24 then some 3 else none := by
  have hl := lineId.isLt
  have he := lineEnd.isLt
  simp only [headerBad, Config.places, Config.maxDistance, ← BitVec.toNat_inj, BitVec.toNat_ofNat]
  refine if_congr ?_ rfl <| if_congr ?_ rfl <| if_congr ?_ rfl rfl <;> omega

theorem State.perform_loadHeader (lineId : BitVec 16) (count : Byte) (lineEnd : BitVec 24) (s : State) :
    s.perform .loadHeader (le 2 lineId.toNat ++ [count] ++ le 3 lineEnd.toNat) =
      s.withLine (s.line.loadHeader lineId.toNat count.toNat lineEnd.toNat) := by
  obtain ⟨h1, h2, h3⟩ := loadHeader_payload lineId count lineEnd
  rw [State.perform, h1, h2, h3]

theorem State.perform_loadSegment (f : SegmentFields) (s : State) :
    s.perform .loadSegment (segmentFieldBytes f) = s.withLine (s.line.loadSegment f) := by
  rw [State.perform, segmentFieldsOf_segmentFieldBytes]

/-- Settles O16: the loads by the first field out of range, and the ranges themselves. -/
theorem loadsWriteTheStandbyBank : Obligations.LoadsWriteTheStandbyBank := by
  refine ⟨fun t tag s ready => ⟨fun lineId count lineEnd => ?header, fun f => ?segment⟩,
    fun f => ⟨segmentBad_eq f, segmentRecord_eq⟩⟩
  case header =>
    have answer (res : Result) (l : LineStore) (j : s.line.loadHeader lineId.toNat count.toNat lineEnd.toNat = (res, l)) :
        exec (.loadHeader t tag lineId count lineEnd) s =
          .next (State.replied 0x18 tag res { s.advance t with line := l }) := by
      refine exec_perform (r := .loadHeader) (p := le 2 lineId.toNat ++ [count] ++ le 3 lineEnd.toNat) rfl ready rfl ?_
      rw [State.perform_loadHeader, State.advance_line, j]
      rfl
    constructor
    · intro hl hc hn he
      refine answer _ _ ?_
      rw [LineStore.loadHeader, headerBad_eq, if_neg hl, if_neg (by simp [hc, hn]), if_neg he]
      rfl
    · intro bad
      refine answer _ s.line ?_
      rw [LineStore.loadHeader, headerBad_eq]
      split_ifs <;> simp_all
  case segment =>
    have answer (res : Result) (l : LineStore) (j : s.line.loadSegment f = (res, l)) :
        exec (.loadSegment t tag f) s = .next (State.replied 0x19 tag res { s.advance t with line := l }) := by
      refine exec_perform (r := .loadSegment) rfl ready (by rw [segmentFieldBytes_length]; rfl) ?_
      rw [State.perform_loadSegment, State.advance_line, j]
      rfl
    constructor
    · intro ok
      refine answer _ _ ?_
      rw [LineStore.loadSegment, ok]
      rfl
    · intro n bad
      refine answer _ s.line ?_
      rw [LineStore.loadSegment, bad]

/-! ## A loaded segment read back (R36) -/

theorem kind_code_eq {k : Byte} (h : k.toNat ≤ 2) : ((segKindOf k.toNat).getD .adhesion).code = k.toNat := by
  generalize k.toNat = n at h
  interval_cases n <;> rfl

theorem side_code_eq {k : Byte} (h : k.toNat ≤ 2) : ((platformSideOf k.toNat).getD .left).code = k.toNat := by
  generalize k.toNat = n at h
  interval_cases n <;> rfl

/-- The two bytes of a pull as a number. -/
def pullCode : Option Int → Nat
  | none => 0x8000
  | some p => (BitVec.ofInt 16 p).toNat

theorem pullCode_segmentRecord (f : SegmentFields) : pullCode (segmentRecord f).pull = f.pull.toNat := by
  have pull : (segmentRecord f).pull = if decide (f.pull = 0x8000#16) then none else some f.pull.toInt := by
    rw [← toInt_least_iff]
    rfl
  rw [pull]
  by_cases h : f.pull = 0x8000#16
  · rw [h]; rfl
  · rw [decide_eq_false h]
    exact congrArg BitVec.toNat (BitVec.ofInt_toInt)

/-- Fields without the platform that they mark absent. -/
def keepPlatform (f : SegmentFields) : SegmentFields :=
  if f.platformPresent = 0#8 then
    { f with platformSide := 0#8, platformFrom := 0#24, platformTo := 0#24, station := 0#8 }
  else f

/-- Fields without the marker that they mark absent. -/
def keepMarker (f : SegmentFields) : SegmentFields :=
  if f.markerPresent = 0#8 then { f with markerId := 0#8, markerPosition := 0#24, markerWindow := 0#16 } else f

theorem keepPlatform_markerPresent (f : SegmentFields) : (keepPlatform f).markerPresent = f.markerPresent := by
  unfold keepPlatform
  split <;> rfl

theorem keepMarker_keepPlatform (f : SegmentFields) :
    keepMarker (keepPlatform f) =
      if f.markerPresent = 0#8 then { (keepPlatform f) with markerId := 0#8, markerPosition := 0#24, markerWindow := 0#16 }
      else keepPlatform f :=
  if_congr (by rw [keepPlatform_markerPresent]) rfl rfl

/-- The bytes of a platform. -/
def platformBytes : Option Platform → List Byte
  | none => List.replicate 9 0
  | some p => le 1 1 ++ le 1 p.side.code ++ le 3 p.fromPos ++ le 3 p.toPos ++ le 1 p.station

/-- The bytes of a marker. -/
def markerBytes : Option Marker → List Byte
  | none => List.replicate 7 0
  | some m => le 1 1 ++ le 1 m.id ++ le 3 m.position ++ le 2 m.window

theorem segmentBytes_eq (i : Nat) (g : Segment) :
    segmentBytes i g =
      le 1 i ++ le 3 g.start ++ le 1 g.kind.code ++ le 2 (pullCode g.pull) ++ le 2 g.limitUp ++ le 2 g.limitDown ++
        platformBytes g.platform ++ markerBytes g.marker := rfl

/-- The platform part of the bytes: that of the kept fields, its flag included. -/
theorem platformBytes_segmentRecord {f : SegmentFields} (h : segmentBad f = none) :
    platformBytes (segmentRecord f).platform =
      le 1 f.platformPresent.toNat ++ le 1 (keepPlatform f).platformSide.toNat ++
        le 3 (keepPlatform f).platformFrom.toNat ++ le 3 (keepPlatform f).platformTo.toNat ++
        le 1 (keepPlatform f).station.toNat := by
  obtain ⟨_, _, present, side, _⟩ := segment_codes h
  rcases byte_eq_zero_or_one present with p | p
  · have record : (segmentRecord f).platform = none := by simp [segmentRecord, p]
    rw [record, keepPlatform, if_pos p, p]
    dsimp only
    decide
  · have code := side_code_eq (side (congrArg BitVec.toNat p))
    have record : (segmentRecord f).platform = some ⟨(platformSideOf f.platformSide.toNat).getD .left,
        f.platformFrom.toNat, f.platformTo.toNat, f.station.toNat⟩ := by simp [segmentRecord, p]
    rw [record, platformBytes, code, keepPlatform, if_neg (by rw [p]; decide), p]
    rfl

/-- The marker part of the bytes: that of the kept fields, its flag included. -/
theorem markerBytes_segmentRecord {f : SegmentFields} (h : segmentBad f = none) :
    markerBytes (segmentRecord f).marker =
      le 1 f.markerPresent.toNat ++ le 1 (keepMarker f).markerId.toNat ++ le 3 (keepMarker f).markerPosition.toNat ++
        le 2 (keepMarker f).markerWindow.toNat := by
  obtain ⟨_, _, _, _, marker⟩ := segment_codes h
  rcases byte_eq_zero_or_one marker with m | m
  · have record : (segmentRecord f).marker = none := by simp [segmentRecord, m]
    rw [record, keepMarker, if_pos m, m]
    dsimp only
    decide
  · have record : (segmentRecord f).marker = some ⟨f.markerId.toNat, f.markerPosition.toNat, f.markerWindow.toNat⟩ := by
      simp [segmentRecord, m]
    rw [record, keepMarker, if_neg (by rw [m]; decide), m]
    rfl

/-- The bytes of a stored record are those of the fields loaded, zeros in the parts marked absent. -/
theorem segmentBytes_segmentRecord {f : SegmentFields} (h : segmentBad f = none) :
    segmentBytes f.index.toNat (segmentRecord f) = segmentFieldBytes (keepMarker (keepPlatform f)) := by
  have kind : (segmentRecord f).kind.code = f.kind.toNat := kind_code_eq (segment_codes h).2.1
  rw [segmentBytes_eq, kind, pullCode_segmentRecord, platformBytes_segmentRecord h, markerBytes_segmentRecord h,
    segmentFieldBytes]
  unfold keepMarker keepPlatform
  split_ifs <;> simp only [List.append_assoc] <;> rfl

theorem LineStore.standby_setBank (l : LineStore) (n : BankName) (b : Bank) : (l.setBank n b).standby = l.standby := by
  cases n <;> rfl

/-- What READ SEGMENT shows of the place that a LOAD SEGMENT of fields in range has written. -/
theorem LineStore.readSegment_loadSegment {f : SegmentFields} {l : LineStore} (ok : segmentBad f = none)
    (length : l.standbyBank.places.length = 128) {code : Nat} (hc : code ≤ 1)
    (name : (if code = 0 then BankName.a else .b) = l.standby) :
    (l.loadSegment f).2.readSegment code f.index.toNat =
      .done (.bytes
        (1#8 :: BitVec.ofNat 8 (match l.standbyBank.header with
          | none => 2
          | some h => if f.index.toNat < h.count then 0 else 1) :: 1#8 :: segmentFieldBytes (keepMarker (keepPlatform f)))) := by
  have index : f.index.toNat < 128 := Nat.lt_succ_of_le (segment_codes ok).1
  have loaded : (l.loadSegment f).2 = l.setStandby (l.standbyBank.setPlace f.index.toNat (segmentRecord f)) := by
    rw [LineStore.loadSegment, ok]
  have place : (l.standbyBank.setPlace f.index.toNat (segmentRecord f)).places.getD f.index.toNat none =
      some (segmentRecord f) := by
    rw [List.getD_eq_getElem?_getD]
    exact congrArg (Option.getD · none) (List.getElem?_set_self (by rw [length]; exact index))
  rw [LineStore.readSegment, if_neg (Nat.not_lt.2 hc), if_neg (c := Config.places ≤ f.index.toNat) (Nat.not_le.2 index), name, loaded,
    LineStore.setStandby, LineStore.bank_setBank_self, Bank.segmentReadout, place]
  dsimp only
  rw [segmentBytes_segmentRecord ok]
  rfl

/-- Settles O17: the fields read back from their bytes, and the readout of the place just loaded. -/
theorem loadedSegmentsReadBack : Obligations.LoadedSegmentsReadBack := by
  refine ⟨fun f => ⟨segmentFieldBytes_length f, segmentFieldsOf_segmentFieldBytes f⟩, fun f l ok length => ?_⟩
  have kept := LineStore.readSegment_loadSegment ok length
    (code := match l.standby with | .a => 0 | .b => 1) (by cases l.standby <;> decide) (by cases l.standby <;> rfl)
  rw [keepMarker_keepPlatform] at kept
  exact ⟨_, kept⟩

/-! ## The check (R28, R29) -/

/-- Settles O18: the two cases of the standby bank's state. -/
theorem checkBankKeepsTheOutcome : Obligations.CheckBankKeepsTheOutcome := by
  intro t tag s ready
  have answer (res : Result) (l : LineStore) (j : s.line.check = (res, l)) :
      exec (.checkBank t tag) s = .next (State.replied 0x1A tag res { s.advance t with line := l }) := by
    refine exec_perform (r := .checkBank) rfl ready rfl ?_
    exact congrArg (State.withLine (s.advance t)) j
  constructor
  · intro empty
    refine answer _ s.line ?_
    rw [LineStore.check, empty]
  · intro other
    refine answer _ _ ?_
    rw [LineStore.check]
    split
    · rename_i empty
      exact absurd empty other
    · rfl

/-! ## The swap (R9, R30, R77) -/

theorem LineStore.swap_active (l : LineStore) : l.swap.active = some l.standby := rfl

theorem LineStore.swap_standby (l : LineStore) :
    l.swap.bank l.standby = { l.standbyBank with state := .active } := by
  have kept : ∀ o, l.active = some o → (l.setBank o { l.bank o with state := .checked }).bank l.standby = l.standbyBank :=
    fun o ho => LineStore.bank_setBank_other _ _ fun e => LineStore.standby_ne_active (ho.trans (congrArg some e.symm))
  refine (LineStore.bank_setBank_self _ _ _).trans ?_
  cases ho : l.active with
  | none => rfl
  | some o => exact congrArg (fun b : Bank => { b with state := .active }) (kept o ho)

theorem LineStore.swap_old {l : LineStore} {o : BankName} (ho : l.active = some o) :
    l.swap.bank o = { l.bank o with state := .checked } := by
  have other : o ≠ l.standby := fun e => LineStore.standby_ne_active (ho.trans (congrArg some e))
  refine (LineStore.bank_setBank_other _ _ other).trans ?_
  rw [ho]
  exact LineStore.bank_setBank_self _ _ _

theorem State.activeBank_eq (s : State) : s.activeBank = s.line.active.map s.line.bank := by
  unfold State.activeBank
  cases s.line.active <;> rfl

/-- Is the line of a swap that of the bank it takes out of use? -/
def State.sameLine (s : State) : Bool :=
  match s.activeBank with
  | none => false
  | some old => old.lineId == s.line.standbyBank.lineId

theorem State.swapBanks_odo (s : State) :
    s.swapBanks.odo = s.odo.swapped s.sameLine s.line.standbyBank.lineEnd := rfl

theorem State.sameLine_eq {s : State} {o : BankName} (ho : s.line.active = some o) :
    s.sameLine = ((s.line.bank o).lineId == s.line.standbyBank.lineId) := by
  rw [State.sameLine, State.activeBank_eq, ho]
  rfl

theorem State.sameLine_of_other {s : State}
    (h : ∀ o, s.line.active = some o → (s.line.bank o).lineId ≠ s.line.standbyBank.lineId) : s.sameLine = false := by
  cases ho : s.line.active with
  | none => rw [State.sameLine, State.activeBank_eq, ho]; rfl
  | some o =>
    rw [State.sameLine_eq ho]
    exact beq_eq_false_iff_ne.2 (h o ho)

theorem Odometry.clampTo_lost {o : Odometry} (h : o.localisation ≠ .unlocalised) (limit : Nat) :
    o.clampTo limit =
      { o with
        position := limit, remainder := 0, localisation := .unlocalised, uncertainty := 65535, lossFlag := true } := by
  unfold Odometry.clampTo
  split
  · rename_i h'
    exact absurd h' h
  · rfl

theorem Odometry.clampTo_unlocalised {o : Odometry} (h : o.localisation = .unlocalised) (limit : Nat) :
    o.clampTo limit = { o with position := limit, remainder := 0 } := by
  simp only [Odometry.clampTo, h]

theorem Odometry.swapped_unproven (same : Bool) (e : Nat) (o : Odometry) : (o.swapped same e).engagement = .idle := by
  unfold Odometry.swapped Odometry.clampTo
  cases same <;> dsimp only <;> split_ifs <;> (try split) <;> rfl

/-- Settles O20: the swap block by block, the record by the line ids. -/
theorem swapBankExchangesTheBanks : Obligations.SwapBankExchangesTheBanks := by
  intro t tag s ready taken lineEnd kept
  have allowed : (s.advance t).swapAllowed = true ↔ taken := by
    simp only [State.swapAllowed, Bool.and_eq_true, Bool.or_eq_true, beq_iff_eq]
    exact Iff.rfl
  have answer (res : Result) (u : State) (j : (s.advance t).swapBank = (res, u)) :
      exec (.swapBank t tag) s = .next (u.replied 0x1B tag res) :=
    exec_perform (r := .swapBank) rfl ready rfl j
  have alerts (l : s.notice.alerts.length = 21) (k : AlertKind) :
      (s.advance t).swapBanks.notice.entry k = (s.notice.entry k).follow ((s.advance t).swapBanks.odo.shows k) :=
    State.publishOdometry_entry { s.advance t with
      line := s.line.swap, odo := s.odo.swapped s.sameLine lineEnd, route := s.route.newLineEnd lineEnd } l k
  refine ⟨fun h => ⟨(s.advance t).swapBanks, answer _ _ (if_pos (allowed.2 h)), rfl, LineStore.swap_active _,
    LineStore.swap_standby _, fun o ho => LineStore.swap_old ho, fun other => ?_, fun o ho same => ?_, rfl,
    fun l => ⟨?_, alerts l⟩⟩, fun h => answer _ _ (if_neg fun a => h (allowed.1 a))⟩
  · rw [State.swapBanks_odo, State.sameLine_of_other (s := s.advance t) other]
    rfl
  · have odo : (s.advance t).swapBanks.odo = s.odo.swapped true lineEnd := by
      rw [State.swapBanks_odo, State.sameLine_eq (s := s.advance t) ho]
      exact congrArg (s.odo.swapped · lineEnd) (beq_iff_eq.2 same)
    rw [odo, Odometry.swapped, if_pos rfl]
    refine ⟨fun onLine => if_neg (Nat.not_lt.2 onLine), fun beyond known => ?_, fun beyond lost => ?_⟩
    · exact (if_pos beyond).trans (Odometry.clampTo_lost (by exact known) lineEnd)
    · exact (if_pos beyond).trans (Odometry.clampTo_unlocalised (by exact lost) lineEnd)
  · rw [alerts l, Odometry.shows_eq, AlertEntry.follow_active, State.swapBanks_odo, Odometry.swapped_unproven]
    rfl

end Sys2Proof.Machine
end

section
/-! The nine tests of a check, said of the segments themselves (02 §2.4). -/

namespace Sys2Proof.Machine

/-! ## Segments in their places -/

/-- The view of the segment at a place of a run of segments (02 §2.2). -/
def viewAt (lineEnd i : Nat) (gs : List Segment) (j : Nat) (g : Segment) : SegView where
  index := i + j
  start := g.start
  stop := match gs[j + 1]? with
    | some k => k.start
    | none => lineEnd
  last := gs[j + 1]?.isNone
  seg := g

theorem viewsFrom_cons (e i : Nat) (g : Segment) (gs : List Segment) :
    viewsFrom e i ((g :: gs).map some) = viewAt e i (g :: gs) 0 g :: viewsFrom e (i + 1) (gs.map some) := by
  cases gs <;> rfl

theorem viewsFrom_getElem? (e i : Nat) (gs : List Segment) (j : Nat) :
    (viewsFrom e i (gs.map some))[j]? = gs[j]?.map (viewAt e i gs j) := by
  induction gs generalizing i j with
  | nil => rfl
  | cons g gs ih =>
    rw [viewsFrom_cons]
    cases j with
    | zero => rfl
    | succ j =>
      rw [List.getElem?_cons_succ, List.getElem?_cons_succ, ih]
      refine congrArg (fun f => gs[j]?.map f) (funext fun k => ?_)
      simp only [viewAt, List.getElem?_cons_succ, Nat.add_assoc, Nat.add_comm 1 j]

theorem viewsFrom_seg (e i : Nat) (gs : List Segment) : (viewsFrom e i (gs.map some)).map SegView.seg = gs := by
  induction gs generalizing i with
  | nil => rfl
  | cons g gs ih => rw [viewsFrom_cons, List.map_cons, ih, viewAt]

/-- A test of each view is a test of each segment in its place. -/
theorem forall_viewsFrom_iff {e i : Nat} {gs : List Segment} {P : SegView → Prop} :
    (∀ v ∈ viewsFrom e i (gs.map some), P v) ↔ ∀ j g, gs[j]? = some g → P (viewAt e i gs j g) := by
  constructor
  · intro h j g hg
    exact h _ (List.mem_of_getElem? (by rw [viewsFrom_getElem?, hg]; rfl))
  · intro h v hv
    obtain ⟨j, hj⟩ := List.getElem?_of_mem hv
    rw [viewsFrom_getElem?, Option.map_eq_some_iff] at hj
    obtain ⟨g, hg, rfl⟩ := hj
    exact h j g hg

/-- A test that reads the segment alone. -/
theorem forall_viewsFrom_seg_iff {e i : Nat} {gs : List Segment} {P : SegView → Prop} {Q : Segment → Prop}
    (h : ∀ j g, P (viewAt e i gs j g) ↔ Q g) : (∀ v ∈ viewsFrom e i (gs.map some), P v) ↔ ∀ g ∈ gs, Q g := by
  rw [forall_viewsFrom_iff]
  simp only [h, List.mem_iff_getElem?]
  exact ⟨fun a g ⟨j, hj⟩ => a j g hj, fun a j g hj => a g ⟨j, hj⟩⟩

/-! ## Each test passes when its statement holds (R28) -/

theorem firstVerdict_passed_iff (l : List (CheckReason × Option Nat)) :
    firstVerdict l = .passed ↔ ∀ x ∈ l, x.2 = none := by
  induction l with
  | nil => exact iff_of_true rfl (List.forall_mem_nil _)
  | cons x l ih =>
    obtain ⟨r, _ | i⟩ := x
    · rw [firstVerdict, ih, List.forall_mem_cons]
      exact (and_iff_right rfl).symm
    · exact iff_of_false nofun fun h => nomatch h _ List.mem_cons_self

theorem firstUnloaded_none_iff (i : Nat) (l : List (Option Segment)) :
    firstUnloaded i l = none ↔ ∃ gs : List Segment, l = gs.map some := by
  induction l generalizing i with
  | nil => exact iff_of_true rfl ⟨[], rfl⟩
  | cons x l ih =>
    cases x with
    | none =>
      refine iff_of_false nofun ?_
      rintro ⟨_ | ⟨g, gs⟩, h⟩ <;> cases h
    | some g =>
      rw [firstUnloaded, ih]
      constructor
      · rintro ⟨gs, rfl⟩
        exact ⟨g :: gs, rfl⟩
      · rintro ⟨_ | ⟨k, gs⟩, h⟩
        · cases h
        · rw [List.map_cons, List.cons.injEq] at h
          exact ⟨gs, h.2⟩

theorem firstUnordered_none_iff (vs : List SegView) :
    firstUnordered vs = none ↔ vs.IsChain fun v w => v.start < w.start := by
  induction vs with
  | nil => exact iff_of_true rfl .nil
  | cons v vs ih =>
    cases vs with
    | nil => exact iff_of_true rfl (.singleton v)
    | cons w vs =>
      rw [List.isChain_cons_cons, ← ih, firstUnordered]
      split <;> simp_all

theorem firstUnordered_viewsFrom (e i : Nat) (gs : List Segment) :
    firstUnordered (viewsFrom e i (gs.map some)) = none ↔ gs.Pairwise fun g k => g.start < k.start := by
  have starts : (viewsFrom e i (gs.map some)).map SegView.start = gs.map Segment.start := by
    induction gs generalizing i with
    | nil => rfl
    | cons g gs ih => rw [viewsFrom_cons, List.map_cons, ih, viewAt, List.map_cons]
  have : IsTrans SegView fun v w => v.start < w.start := ⟨fun _ _ _ => Nat.lt_trans⟩
  rw [firstUnordered_none_iff, List.isChain_iff_pairwise, ← List.pairwise_map (f := SegView.start), starts,
    List.pairwise_map]

theorem firstFailing_none_iff (ok : SegView → Bool) (vs : List SegView) :
    firstFailing ok vs = none ↔ ∀ v ∈ vs, ok v = true := by
  rw [firstFailing, Option.map_eq_none_iff, List.find?_eq_none]
  refine forall₂_congr fun v _ => ?_
  cases ok v <;> simp

/-- The marker ids of a run of views. -/
def markerIds (vs : List SegView) : List Nat := ((vs.map SegView.seg).filterMap Segment.marker).map Marker.id

theorem firstRepeat_none_iff (seen : List Nat) (vs : List SegView) :
    firstRepeat seen vs = none ↔ (markerIds vs).Nodup ∧ ∀ n ∈ markerIds vs, n ∉ seen := by
  induction vs generalizing seen with
  | nil => exact iff_of_true rfl ⟨List.nodup_nil, List.forall_mem_nil _⟩
  | cons v vs ih =>
    cases hm : v.seg.marker with
    | none =>
      have ids : markerIds (v :: vs) = markerIds vs := by
        rw [markerIds, List.map_cons, List.filterMap_cons_none hm, markerIds]
      simp only [firstRepeat, hm, ids, ih]
    | some m =>
      have ids : markerIds (v :: vs) = m.id :: markerIds vs := by
        rw [markerIds, List.map_cons, List.filterMap_cons_some hm, List.map_cons, markerIds]
      simp only [firstRepeat, hm, ids, List.nodup_cons, List.forall_mem_cons, List.contains_iff_mem]
      split
      · rename_i old
        exact iff_of_false nofun fun h => h.2.1 old
      · rename_i new
        rw [ih]
        simp only [List.mem_cons, not_or]
        constructor
        · rintro ⟨nodup, other⟩
          exact ⟨⟨fun mem => (other _ mem).1 rfl, nodup⟩, new, fun n hn => (other n hn).2⟩
        · rintro ⟨⟨notin, nodup⟩, _, other⟩
          exact ⟨nodup, fun n hn => ⟨fun e => notin (e ▸ hn), other n hn⟩⟩

theorem firstRepeat_viewsFrom (e i : Nat) (gs : List Segment) :
    firstRepeat [] (viewsFrom e i (gs.map some)) = none ↔ ((gs.filterMap Segment.marker).map Marker.id).Nodup := by
  have ids : markerIds (viewsFrom e i (gs.map some)) = (gs.filterMap Segment.marker).map Marker.id := by
    rw [markerIds, viewsFrom_seg]
  rw [firstRepeat_none_iff, ids]
  exact and_iff_left fun _ _ => List.not_mem_nil

/-- Does a segment's marker lie in the segment, the last segment's at its end as well? -/
theorem markerInside_viewAt (e i : Nat) (gs : List Segment) (j : Nat) (g : Segment) :
    (viewAt e i gs j g).markerInside = true ↔
      ∀ m, g.marker = some m →
        g.start ≤ m.position ∧
        match gs[j + 1]? with
        | some k => m.position < k.start
        | none => m.position ≤ e := by
  unfold SegView.markerInside viewAt
  dsimp only
  cases g.marker with
  | none => exact iff_of_true rfl nofun
  | some m =>
    simp only [Option.some.injEq, forall_eq']
    cases gs[j + 1]? with
    | none => simp [Nat.le_iff_lt_or_eq]
    | some k => simp

theorem platform_viewsFrom (e i : Nat) (gs : List Segment) :
    (firstFailing SegView.platformOrdered (viewsFrom e i (gs.map some)) = none ∧
      firstFailing (SegView.platformOnLine e) (viewsFrom e i (gs.map some)) = none) ↔
    ∀ g ∈ gs, ∀ p, g.platform = some p → p.fromPos < p.toPos ∧ p.toPos ≤ e := by
  have ordered (j : Nat) (g : Segment) :
      (viewAt e i gs j g).platformOrdered = true ↔ ∀ p, g.platform = some p → p.fromPos < p.toPos := by
    unfold SegView.platformOrdered viewAt
    dsimp only
    cases g.platform <;> simp
  have onLine (j : Nat) (g : Segment) :
      (viewAt e i gs j g).platformOnLine e = true ↔ ∀ p, g.platform = some p → p.toPos ≤ e := by
    unfold SegView.platformOnLine viewAt
    dsimp only
    cases g.platform <;> simp
  rw [firstFailing_none_iff, firstFailing_none_iff, forall_viewsFrom_seg_iff ordered, forall_viewsFrom_seg_iff onLine]
  exact ⟨fun ⟨a, b⟩ g hg p hp => ⟨a g hg p hp, b g hg p hp⟩,
    fun h => ⟨fun g hg p hp => (h g hg p hp).1, fun g hg p hp => (h g hg p hp).2⟩⟩

/-- The first start test of R28. -/
theorem firstStart_viewsFrom (e : Nat) (gs : List Segment) :
    (match viewsFrom e 0 (gs.map some) with
      | v :: _ => if v.start = 0 then none else some 0
      | [] => none) = (none : Option Nat) ↔ ∀ g, gs.head? = some g → g.start = 0 := by
  cases gs with
  | nil => exact iff_of_true rfl nofun
  | cons g gs =>
    rw [viewsFrom_cons]
    simp [viewAt]

/-- Settles O19: each test by its lemma, on the segments that the places hold. -/
theorem bankPassesExactlyWhenSound : Obligations.BankPassesExactlyWhenSound := by
  intro b
  cases hb : b.header with
  | none =>
    refine iff_of_false ?_ fun ⟨h, _, hh, _⟩ => nomatch hh
    rw [Bank.judge, hb]
    nofun
  | some h =>
    have tests : b.judge = .passed ↔ ∀ x ∈ bankTests h b.places (viewsFrom h.lineEnd 0 (b.places.take h.count)),
        x.2 = none := by
      rw [← firstVerdict_passed_iff, Bank.judge, Bank.views, hb]
    rw [tests]
    simp only [bankTests, List.forall_mem_cons, List.not_mem_nil, false_imp_iff, implies_true, and_true,
      firstUnloaded_none_iff]
    constructor
    · rintro ⟨⟨gs, hgs⟩, start, order, beyond, inside, repeats, platforms⟩
      rw [hgs] at start order beyond inside repeats platforms
      refine ⟨h, gs, rfl, hgs, (firstStart_viewsFrom _ _).1 start, (firstUnordered_viewsFrom _ _ _).1 order, ?_, ?_,
        (firstRepeat_viewsFrom _ _ _).1 repeats, (platform_viewsFrom _ _ _).1 platforms⟩
      · rw [firstFailing_none_iff, forall_viewsFrom_seg_iff (Q := fun g => g.start < h.lineEnd)] at beyond
        · exact beyond
        · exact fun j g => decide_eq_true_iff
      · rw [firstFailing_none_iff, forall_viewsFrom_iff] at inside
        exact fun j g m hg hm => (markerInside_viewAt _ _ _ _ _).1 (inside j g hg) m hm
    · rintro ⟨h', gs, hh, hgs, start, order, beyond, inside, repeats, platforms⟩
      cases hh
      rw [hgs]
      refine ⟨⟨gs, rfl⟩, (firstStart_viewsFrom _ _).2 start, (firstUnordered_viewsFrom _ _ _).2 order, ?_, ?_,
        (firstRepeat_viewsFrom _ _ _).2 repeats, (platform_viewsFrom _ _ _).2 platforms⟩
      · rw [firstFailing_none_iff, forall_viewsFrom_seg_iff (Q := fun g => g.start < h.lineEnd)]
        · exact beyond
        · exact fun j g => decide_eq_true_iff
      · rw [firstFailing_none_iff, forall_viewsFrom_iff]
        exact fun j g hg => (markerInside_viewAt _ _ _ _ _).2 fun m hm => inside j g m hg hm

end Sys2Proof.Machine
end

section
/-! The requests that only read: their answers, their readouts and the bytes of the status snapshot (R36, R78, R79, R177,
R194). -/

namespace Sys2Proof.Machine

/-! ## Reads by index (R36, R79) -/

/-- A request that reads, at a ready link. -/
theorem exec_read {c : Instr} {t : Time} {r : Request} {tag : Byte} {p : List Byte} {s : State} {res : Result}
    (hc : requestFrame c = some (t, ⟨r.kind, tag, p⟩)) (ready : s.linkReady) (l : r.lengthOk p.length = true)
    (j : (s.advance t).perform r p = (res, s.advance t)) : exec c s = .next ((s.advance t).replied r.kind tag res) :=
  exec_perform hc ready l j

theorem leAt_second (a b : Byte) : leAt [a, b] 1 1 = b.toNat := leAt_one [a, b] 1 b rfl

theorem State.frozen_eq (s : State) : s.frozen = decide (s.radio.state ≠ .ok) := by
  unfold State.frozen
  cases s.radio.state <;> rfl

/-- A place read as its first two codes, then its flag and its record. -/
theorem Bank.segmentReadout_eq (i : Nat) (b : Bank) :
    b.segmentReadout i =
      BitVec.ofNat 8 b.state.code ::
      (match b.header with
       | none => 2
       | some h => if i < h.count then 0 else 1) ::
      (match b.places[i]? with
       | some (some g) => 1 :: segmentBytes i g
       | _ => [0]) := by
  rw [Bank.segmentReadout, List.getD_eq_getElem?_getD]
  cases b.header with
  | none => rcases b.places[i]? with _ | _ | g <;> rfl
  | some h =>
    by_cases below : i < h.count <;> simp only [below, if_true, if_false] <;>
      rcases b.places[i]? with _ | _ | g <;> rfl

/-- Settles O13: the answers by their boundaries, the bytes of a place, the codes. -/
theorem indexedReadsChangeNothing : Obligations.IndexedReadsChangeNothing := by
  refine ⟨fun t tag bank index first s ready => ?_, fun i b _ => Bank.segmentReadout_eq i b, rfl, rfl, rfl, rfl, rfl, rfl,
    rfl, rfl, rfl, rfl, rfl, rfl, fun _ => rfl, rfl, fun _ _ _ _ => rfl, rfl, rfl⟩
  have segment (res : Result) (j : s.line.readSegment bank.toNat index.toNat = res) :
      exec (.readSegment t tag bank index) s = .next ((s.advance t).replied 0x1C tag res) := by
    refine exec_read (r := .readSegment) rfl ready rfl ?_
    rw [State.perform, leAt_single, leAt_second]
    exact Prod.ext j rfl
  have restrictions (res : Result) (j : (s.advance t).readRestrictions first.toNat = res) :
      exec (.readRestrictions t tag first) s = .next ((s.advance t).replied 0x21 tag res) := by
    refine exec_read (r := .readRestrictions) rfl ready rfl ?_
    rw [State.perform, leAt_single]
    exact Prod.ext j rfl
  refine ⟨fun hb hi => segment _ ?_, fun hb hi => segment _ ?_, fun hb => segment _ (if_pos hb),
    fun hf => restrictions _ ?_, fun hf => restrictions _ (if_pos hf)⟩
  · have name : s.line.bank (if bank.toNat = 0 then .a else .b) = if bank = 0#8 then s.line.a else s.line.b := by
      refine (apply_ite s.line.bank _ _ _).trans (if_congr (BitVec.toNat_inj (y := 0#8)) rfl rfl)
    rw [LineStore.readSegment, if_neg (Nat.not_lt.2 hb), name]
    exact if_neg (Nat.not_le.2 hi)
  · exact (if_neg (Nat.not_lt.2 hb)).trans (if_pos hi)
  · refine (if_neg (Nat.not_le.2 hf)).trans ?_
    rw [State.restrictionsReadout, State.frozen_eq]
    rfl

end Sys2Proof.Machine
end

section
/-! The readouts field by field, and the status snapshot by offset, width and value (R22, R37, R61, R78, R166, R177,
R194, 10 §10.7). -/

namespace Sys2Proof.Machine

/-! ## Runs of fields at offsets -/

/-- The bytes of a run of fields, each an offset, a width and a value. -/
def placedBytes (l : List (Nat × Nat × Nat)) : List Byte := l.flatMap fun x => le x.2.1 x.2.2

/-- Does each field of a run stand where the one before it ends? -/
def Contiguous : Nat → List (Nat × Nat × Nat) → Prop
  | _, [] => True
  | o, x :: xs => x.1 = o ∧ Contiguous (o + x.2.1) xs

/-- A field of a run is read at its offset, as far as it fits its width. -/
theorem leAt_placedBytes {l : List (Nat × Nat × Nat)} {before : List Byte} (h : Contiguous before.length l) :
    ∀ x ∈ l, leAt (before ++ placedBytes l) x.1 x.2.1 = x.2.2 % 256 ^ x.2.1 := by
  induction l generalizing before with
  | nil => exact List.forall_mem_nil _
  | cons x l ih =>
    obtain ⟨offset, rest⟩ := h
    have bytes : placedBytes (x :: l) = le x.2.1 x.2.2 ++ placedBytes l := rfl
    refine List.forall_mem_cons.2 ⟨?_, fun y hy => ?_⟩
    · rw [offset]
      exact leAt_append before _ _ _ _ bytes
    · rw [bytes, ← List.append_assoc]
      refine ih ?_ y hy
      rwa [List.length_append, le_length]

theorem placedBytes_append (a b : List (Nat × Nat × Nat)) : placedBytes (a ++ b) = placedBytes a ++ placedBytes b :=
  List.flatMap_append

/-! ## Bits of a number -/

theorem flagBits_testBit (l : List Bool) (i : Nat) : (flagBits l).testBit i = l.getD i false := by
  induction l generalizing i with
  | nil => exact Nat.zero_testBit i
  | cons b l ih =>
    have coded : bit b = b.toNat := by cases b <;> rfl
    rw [flagBits, coded]
    cases i with
    | zero => cases b <;> simp [Nat.testBit_zero]
    | succ i =>
      have := b.toNat_lt
      rw [List.getD_cons_succ, ← ih, Nat.testBit_succ]
      congr 1
      omega

theorem AlertKind.all_getElem? (k : AlertKind) : AlertKind.all[k.number]? = some k := by
  cases k <;> rfl

/-- The alert set of a property has kind n at bit n. -/
theorem Notice.setOf_testBit (n : Notice) (p : AlertKind → AlertEntry → Bool) (k : AlertKind) :
    (flagBits (AlertKind.all.map fun j => p j (n.entry j)) % 256 ^ 3).testBit k.number = p k (n.entry k) := by
  have small : k.number < 24 := Nat.lt_trans k.number_lt (by decide)
  rw [show (256 : Nat) ^ 3 = 2 ^ 24 from rfl, Nat.testBit_mod_two_pow, decide_eq_true small, Bool.true_and,
    flagBits_testBit, List.getD_eq_getElem?_getD, List.getElem?_map, AlertKind.all_getElem?]
  rfl

theorem causeBits_eq_sum (l : List Cause) : causeBits l = (l.map fun c => 2 ^ (c.number - 1)).sum := by
  induction l with
  | nil => rfl
  | cons c l ih => rw [causeBits, ih, List.map_cons, List.sum_cons]

/-- The fresh slots ahead, counted one by one. -/
theorem freshAhead_eq (current i : Nat) (l : List Slot) :
    freshAhead current i l = ((l.zipIdx i).filter fun y => y.1.fresh && y.2 != current).length := by
  induction l generalizing i with
  | nil => rfl
  | cons x l ih =>
    rw [freshAhead, ih, List.zipIdx_cons, List.filter_cons]
    cases hx : x.fresh <;> by_cases hi : i = current <;> simp [hi, Nat.add_comm]

/-! ## The status snapshot (R194) -/

/-- The status fields at offsets 0 to 28, the values of the two bytes of flags given. -/
def State.statusHeadOf (s : State) (flags brakes : Nat) : List (Nat × Nat × Nat) :=
  [(0, 4, s.clock.now.toNat), (4, 1, s.sup.mode.code), (5, 1, (s.sup.modeBefore.map Mode.code).getD 0),
    (6, 1, s.sup.testStep), (7, 1, s.sup.level.code), (8, 1, (s.sup.trip.map fun r => r.first.number).getD 0),
    (9, 1, (s.sup.trip.map fun r => (r.causes.map fun c => 2 ^ (c.number - 1)).sum).getD 0),
    (10, 1, flags),
    (11, 3, s.odo.position), (14, 2, s.odo.uncertainty), (16, 1, s.odo.localisation.code), (17, 2, s.odo.speed),
    (19, 2, s.sup.pass.ceiling), (21, 1, s.sup.pass.term.code), (22, 2, s.sup.pass.permitted),
    (24, 1, s.sup.drive.selector.code), (25, 1, bit s.sup.drive.traction), (26, 1, s.sup.drive.brake),
    (27, 1, s.sup.demands.service),
    (28, 1, brakes)]

/-- The status fields at offsets 0 to 28. -/
def State.statusHead (s : State) : List (Nat × Nat × Nat) :=
  s.statusHeadOf
    (bit s.configured + 2 * bit s.odo.standstill + 4 * bit (s.odo.direction == .down) + 8 * bit s.sup.pass.merged +
      16 * bit s.sup.faultSeen + 32 * bit s.radio.offset.isSome + 64 * bit s.notice.attention +
      128 * bit s.ent.allLocked)
    (bit (s.sup.demands.band == .release) + 2 * bit (s.sup.demands.emergency == .release))

/-- The status fields at offsets 29 to 41. -/
def State.statusMiddle (s : State) : List (Nat × Nat × Nat) :=
  [(29, 1, s.radio.state.code), (30, 1, s.radio.sync.code + 128 * bit s.radio.settled),
    (31, 1, match s.line.active with
      | none => 0
      | some .a => 1
      | some .b => 2),
    (32, 1, s.line.a.state.code), (33, 1, s.line.b.state.code), (34, 1, bit s.route.authority.isSome),
    (35, 1, (s.route.authority.map fun r => r.seq.toNat).getD 0), (36, 1, s.route.restrictions.length),
    (37, 2, s.route.cap.getD 65535), (39, 1, s.ent.releaseLeft.code), (40, 1, s.ent.releaseRight.code),
    (41, 1, s.ent.takeoverLeft.code + 16 * s.ent.takeoverRight.code)]

/-- The value of a leaf's status byte. -/
def LeafRecord.statusValue (r : LeafRecord) : Nat := r.state.code + 64 * bit r.returnMark + 128 * bit r.pending

/-- The status bytes of the eight leaves. -/
def State.statusLeaves (s : State) : List (Nat × Nat × Nat) :=
  [(42, 1, s.ent.leaves.e0.statusValue), (43, 1, s.ent.leaves.e1.statusValue), (44, 1, s.ent.leaves.e2.statusValue),
    (45, 1, s.ent.leaves.e3.statusValue), (46, 1, s.ent.leaves.e4.statusValue), (47, 1, s.ent.leaves.e5.statusValue),
    (48, 1, s.ent.leaves.e6.statusValue), (49, 1, s.ent.leaves.e7.statusValue)]

/-- The four status fields of a brake channel from an offset. -/
def State.statusChannel (s : State) (o : Nat) (c : Channel) : List (Nat × Nat × Nat) :=
  let x := s.brake.channel c
  [(o, 1, (x.slots.zipIdx.filter fun y => y.1.fresh && y.2 != s.brake.slotNumber.toNat % 64).length),
    (o + 1, 1, bit x.defaultEmitted + 2 * bit (x.run == 64) + 4 * bit (x.addressing != .absolute)),
    (o + 2, 1, x.lastFault.code), (o + 3, 1, x.latest.code)]

/-- The status fields at offsets 63 to 71, the three alert sets. -/
def State.statusSets (s : State) : List (Nat × Nat × Nat) :=
  [(63, 3, flagBits (AlertKind.all.map fun k => (s.notice.entry k).latched)),
    (66, 3, flagBits (AlertKind.all.map fun k => (s.notice.entry k).indicated k)),
    (69, 3, flagBits (AlertKind.all.map fun k => (s.notice.entry k).forced))]

/-- The status fields at offsets 72 to 75. -/
def State.statusTail (s : State) : List (Nat × Nat × Nat) :=
  [(72, 1, s.notice.queue.length), (73, 1, s.notice.drops), (74, 1, s.odo.engagement.code),
    (75, 1, bit s.radio.unheard + 2 * bit s.sup.faultRecord.isSome)]

/-- All fields of the status snapshot in order. -/
def State.statusFields (s : State) : List (Nat × Nat × Nat) :=
  s.statusHead ++ (s.statusMiddle ++ (s.statusLeaves ++ ((50, 1, s.brake.slotNumber.toNat % 64) ::
    (s.statusChannel 51 .service ++ (s.statusChannel 55 .band ++ (s.statusChannel 59 .emergency ++
      (s.statusSets ++ s.statusTail)))))))

theorem flagBits_two (a b : Bool) : flagBits [a, b] = bit a + 2 * bit b := rfl

theorem flagBits_three (a b c : Bool) : flagBits [a, b, c] = bit a + 2 * bit b + 4 * bit c := by
  simp only [flagBits]
  ring

theorem flagBits_eight (a b c d e f g h : Bool) :
    flagBits [a, b, c, d, e, f, g, h] =
      bit a + 2 * bit b + 4 * bit c + 8 * bit d + 16 * bit e + 32 * bit f + 64 * bit g + 128 * bit h := by
  simp only [flagBits]
  ring

theorem placedBytes_cons (x : Nat × Nat × Nat) (l : List (Nat × Nat × Nat)) :
    placedBytes (x :: l) = le x.2.1 x.2.2 ++ placedBytes l := rfl

theorem placedBytes_nil : placedBytes [] = [] := rfl

theorem State.statusSupervision_eq (s : State) : s.statusSupervision = placedBytes s.statusHead := by
  have coded : s.statusSupervision = placedBytes (s.statusHeadOf
      (flagBits [s.configured, s.odo.standstill, s.odo.direction == .down, s.sup.pass.merged, s.sup.faultSeen,
        s.radio.offset.isSome, s.notice.attention, s.ent.allLocked])
      (flagBits [s.sup.demands.band == .release, s.sup.demands.emergency == .release])) := by
    unfold State.statusSupervision Supervisor.firstCause
    simp only [State.statusHeadOf, placedBytes_cons, placedBytes_nil, List.append_nil, List.append_assoc]
    cases s.sup.modeBefore <;> cases s.sup.trip <;>
      simp only [Option.map_none, Option.map_some, Option.getD_none, Option.getD_some, causeBits_eq_sum]
  exact coded.trans (congrArg₂ (fun a b => placedBytes (s.statusHeadOf a b)) (flagBits_eight ..) (flagBits_two ..))

theorem State.statusRoute_eq (s : State) : s.statusRoute = placedBytes (s.statusMiddle ++ s.statusLeaves) := by
  rw [State.statusRoute, placedBytes_append]
  simp only [State.statusMiddle, State.statusLeaves, placedBytes_cons, placedBytes_nil, List.append_nil,
    List.append_assoc, Eight.toList, List.flatMap_cons, List.flatMap_nil, LeafRecord.statusByte, LeafRecord.statusValue]
  cases s.route.authority <;> rfl

theorem Brake.statusBytes_eq (s : State) (o : Nat) (c : Channel) :
    s.brake.statusBytes c = placedBytes (s.statusChannel o c) := by
  rw [Brake.statusBytes, flagBits_three, Brake.validAhead, freshAhead_eq]
  simp only [State.statusChannel, placedBytes_cons, placedBytes_nil, List.append_nil, List.append_assoc]
  cases (s.brake.channel c).addressing <;> rfl

theorem State.status_eq (s : State) : s.status = placedBytes s.statusFields := by
  have outputs : s.statusOutputs = placedBytes ((50, 1, s.brake.slotNumber.toNat % 64) ::
      (s.statusChannel 51 .service ++ (s.statusChannel 55 .band ++ (s.statusChannel 59 .emergency ++
        (s.statusSets ++ s.statusTail))))) := by
    rw [State.statusOutputs, Brake.statusBytes_eq s 51, Brake.statusBytes_eq s 55, Brake.statusBytes_eq s 59,
      ← List.singleton_append]
    simp only [List.append_assoc]
    rfl
  rw [State.status, State.statusSupervision_eq, State.statusRoute_eq, outputs, State.statusFields]
  simp only [placedBytes_append, List.append_assoc]

theorem State.statusFields_contiguous (s : State) : Contiguous 0 s.statusFields := by
  simp [State.statusFields, State.statusHead, State.statusHeadOf, State.statusMiddle, State.statusLeaves, State.statusChannel,
    State.statusSets, State.statusTail, Contiguous]

/-- Every field of the status snapshot at its offset. -/
theorem State.leAt_status {s : State} {o w v : Nat} (h : (o, w, v) ∈ s.statusFields) :
    leAt s.status o w = v % 256 ^ w := by
  rw [State.status_eq]
  exact leAt_placedBytes (before := []) s.statusFields_contiguous (o, w, v) h

theorem State.status_length (s : State) : s.status.length = 76 := by
  rw [State.status_eq, placedBytes, List.length_flatMap]
  simp [State.statusFields, State.statusHead, State.statusHeadOf, State.statusMiddle, State.statusLeaves, State.statusChannel,
    State.statusSets, State.statusTail]

theorem LeafState.code_lt (x : LeafState) : x.code < 11 := by
  cases x <;> decide

theorem LeafRecord.statusValue_lt (r : LeafRecord) : r.statusValue < 256 := by
  have code := r.state.code_lt
  have le (b : Bool) : bit b ≤ 1 := by cases b <;> decide
  have mark := le r.returnMark
  have pending := le r.pending
  unfold LeafRecord.statusValue
  omega

theorem State.leAt_status_leaf (s : State) (i : Fin 8) :
    leAt s.status (42 + i.val) 1 = (s.ent.leaves.get i).statusValue := by
  have listed : (42 + i.val, 1, (s.ent.leaves.get i).statusValue) ∈ s.statusLeaves := by
    fin_cases i <;> simp [State.statusLeaves, Eight.get]
  rw [State.leAt_status (List.mem_append_right _ (List.mem_append_right _ (List.mem_append_left _ listed)))]
  exact Nat.mod_eq_of_lt (LeafRecord.statusValue_lt _)

theorem State.statusSets_subset (s : State) : s.statusSets ⊆ s.statusFields := fun x hx => by
  simp only [State.statusFields, List.mem_append, List.mem_cons, hx, true_or, or_true]

/-- The fields but for the leaves and the alert sets. -/
def State.statusListed (s : State) : List (Nat × Nat × Nat) :=
  s.statusHead ++ (s.statusMiddle ++ [(50, 1, s.brake.slotNumber.toNat % 64)]) ++ s.statusChannel 51 .service ++
    s.statusChannel 55 .band ++ s.statusChannel 59 .emergency ++ s.statusTail

theorem State.mem_statusFields_of_listed {s : State} {x : Nat × Nat × Nat} (h : x ∈ s.statusListed) :
    x ∈ s.statusFields := by
  simp only [State.statusListed, List.mem_append, List.mem_singleton] at h
  simp only [State.statusFields, List.mem_append, List.mem_cons]
  tauto

/-! ## The readouts field by field -/

theorem State.reference_eq (s : State) :
    s.reference = match s.pinionSegment with
      | some v => if v.seg.kind = .rack then .pinion else .wheel
      | none => .wheel := by
  unfold State.reference
  rcases s.pinionSegment with _ | v
  · rfl
  · dsimp only
    cases v.seg.kind <;> rfl

theorem State.movement_eq (s : State) :
    s.movement =
      if s.odo.movementUm < 0 then -(((s.odo.movementUm.natAbs + 999) / 1000 : Nat) : Int)
      else (((s.odo.movementUm.natAbs + 999) / 1000 : Nat) : Int) := by
  rw [State.movement, mmAwayFromZero, ceilDiv]

theorem LineStore.bankReadout_eq (l : LineStore) (n : BankName) (b : Bank) (hb : l.bank n = b) :
    l.bankReadout n =
      { state := b.state
        role :=
          if l.active = some n then .active
          else if l.active = none ∧ n = .b then .neither
          else .standby
        header := b.header
        loaded := match b.header with
          | none => 0
          | some h => ((b.places.take h.count).filter Option.isSome).length
        outcome := b.outcome } := by
  have role : l.role n =
      if l.active = some n then .active else if l.active = none ∧ n = .b then .neither else .standby := by
    unfold LineStore.role LineStore.standby
    rcases l.active with _ | _ | _ <;> cases n <;> rfl
  rw [LineStore.bankReadout, hb, role]
  rfl

/-- The readout of the authority record with the valley time spelled out. -/
theorem State.authorityReadout_eq (s : State) :
    s.authorityReadout =
      { record := s.route.authority
        timeKnown := s.radio.offset.isSome
        remaining := match s.route.authority, s.radio.offset with
          | some r, some o => r.expiry.map fun e => (e - (s.clock.localMs + o)).toNat
          | _, _ => none
        frozen := decide (s.radio.state ≠ .ok) } := by
  rw [State.authorityReadout, State.valleyNow, State.frozen_eq]
  cases s.route.authority <;> cases s.radio.offset <;> rfl

theorem State.radioReadout_eq (s : State) :
    s.radioReadout =
      { sync := s.radio.sync
        expected := if s.radio.sync = .hunt then none else s.radio.expected
        confirmCount := if s.radio.sync = .confirm then some s.radio.confirmCount else none
        settling := if s.radio.sync = .locked then some (s.radio.settling, s.radio.settled) else none
        history := s.radio.history
        wrong := (s.radio.history.filter fun c => !c).length
        blankCount := s.radio.blankCount
        carrierBlank := decide (s.radio.blankCount = 3)
        goodFrames := s.radio.goodFrames, crcErrors := s.radio.crcErrors
        alignErrors := s.radio.alignErrors, huntRestarts := s.radio.huntRestarts
        state := s.radio.state
        age := s.radio.lastGood.map fun l => (s.clock.localMs - l).toNat
        unheard := s.radio.unheard
        valley := s.radio.offset.map fun o => (o, s.clock.localMs + o)
        lineId := s.lineId
        carId := s.cfg.carId
        notes := s.radio.notes.length
        ring := s.radio.ring
        ringCount := s.radio.ring.length } := by
  rw [State.radioReadout, State.valleyNow]
  cases s.radio.sync <;> cases s.radio.offset <;> rfl

theorem AlertEntry.indicated_eq (k : AlertKind) (e : AlertEntry) :
    e.indicated k = if k.number < 12 then e.active || e.forced else e.latched := by
  unfold AlertEntry.indicated AlertKind.cls
  split_ifs <;> rfl

theorem State.alertsReadout_eq (s : State) :
    s.alertsReadout =
      { kinds := AlertKind.all.map fun k => ⟨s.notice.entry k,
          if k.number < 12 then (s.notice.entry k).active || (s.notice.entry k).forced else (s.notice.entry k).latched⟩
        latched := s.notice.latchedSet
        attention := s.notice.attention
        queued := s.notice.queue.length
        drops := s.notice.drops
        gapPending := decide (s.notice.drops ≠ 0) } := by
  have pending : (s.notice.drops != 0) = decide (s.notice.drops ≠ 0) := by simp [bne, beq_eq_decide]
  simp only [State.alertsReadout, AlertEntry.indicated_eq, pending]

/-- Settles O12: each answer by its owner's rule, each readout by its equation. -/
theorem readsChangeNothing : Obligations.ReadsChangeNothing := by
  intro t tag s ready a
  refine ⟨exec_read (r := .readFaultRecord) (p := []) rfl ready rfl rfl,
    exec_read (r := .readTripRecord) (p := []) rfl ready rfl rfl,
    exec_read (r := .readLookahead) (p := []) rfl ready rfl rfl,
    exec_read (r := .readOdometry) (p := []) rfl ready rfl rfl,
    exec_read (r := .readMarkerLog) (p := []) rfl ready rfl rfl,
    exec_read (r := .readBankState) (p := []) rfl ready rfl rfl,
    exec_read (r := .readAuthority) (p := []) rfl ready rfl rfl,
    exec_read (r := .readRadio) (p := []) rfl ready rfl rfl,
    exec_read (r := .readEntrances) (p := []) rfl ready rfl rfl,
    exec_read (r := .readAlerts) (p := []) rfl ready rfl rfl,
    exec_read (r := .readStatus) (p := []) rfl ready rfl rfl, ?_, fun n => ?_, State.authorityReadout_eq a,
    State.radioReadout_eq a, rfl, State.alertsReadout_eq a, State.status_length a, fun k => ⟨?_, ?_, ?_⟩,
    State.leAt_status_leaf a, fun x hx => ?_⟩
  · rw [State.odometryReadout, State.reference_eq, State.movement_eq]
    rfl
  · exact LineStore.bankReadout_eq _ n _ (by cases n <;> rfl)
  · rw [State.leAt_status (State.statusSets_subset _ (List.mem_cons_self ..))]
    exact Notice.setOf_testBit s.notice (fun _ e => e.latched) k
  · rw [State.leAt_status (State.statusSets_subset _ (List.mem_cons_of_mem _ (List.mem_cons_self ..)))]
    exact (Notice.setOf_testBit s.notice (fun k e => e.indicated k) k).trans (AlertEntry.indicated_eq k _)
  · rw [State.leAt_status
      (State.statusSets_subset _ (List.mem_cons_of_mem _ (List.mem_cons_of_mem _ (List.mem_cons_self ..))))]
    exact Notice.setOf_testBit s.notice (fun _ e => e.forced) k
  · exact State.leAt_status (State.mem_statusFields_of_listed hx)

end Sys2Proof.Machine
end

section
/-! SET MODE, RELEASE TRIP and the requests that set one thing (06 §6.2 to §6.4, 03 §3.3, §3.8, 05 §5.8). -/

namespace Sys2Proof.Machine

/-! ## The contents of the waiting reports -/

/-- The contents of the waiting reports, the oldest first. -/
def Notice.bodies (n : Notice) : List ReportBody := n.queue.map Report.body

theorem Notice.post_bodies {n : Notice} (h : n.queue.length < 24) (t : Time) (b : ReportBody) :
    (n.post t b).bodies = n.bodies ++ [b] := by
  rw [Notice.post_joins h, Notice.bodies, Notice.bodies, List.map_append]
  rfl

theorem Notice.post_queue_length_le (n : Notice) (t : Time) (b : ReportBody) :
    (n.post t b).queue.length ≤ n.queue.length + 1 := by
  unfold Notice.post
  split
  · simp
  · simp

/-- A latching leaves the waiting reports, or joins one ALERT report of its kind. -/
theorem Notice.latch_bodies (n : Notice) (t : Time) (k : AlertKind) :
    ∃ after : List ReportBody, (∀ y ∈ after, ∃ cls forced latched, y = .alert k cls forced latched) ∧
      (n.latch t k).bodies = n.bodies ++ after := by
  have stays (m : Notice) (h : m.queue = n.queue) : ∃ after : List ReportBody,
      (∀ y ∈ after, ∃ cls forced latched, y = .alert k cls forced latched) ∧ m.bodies = n.bodies ++ after :=
    ⟨[], List.forall_mem_nil _, by rw [Notice.bodies, h, List.append_nil, Notice.bodies]⟩
  unfold Notice.latch
  dsimp only
  split
  · exact stays _ rfl
  · by_cases room : n.queue.length < 24
    · refine ⟨[_], ?_, Notice.post_bodies (n := n.setEntry k _) room t _⟩
      rintro y hy
      exact ⟨_, _, _, List.mem_singleton.1 hy⟩
    · exact stays _ (by rw [Notice.post_dropped (n := n.setEntry k _) (Nat.not_lt.1 room)]; rfl)

theorem Notice.setActive_bodies (n : Notice) (t : Time) (k : AlertKind) (b : Bool) :
    ∃ after : List ReportBody, (∀ y ∈ after, ∃ cls forced latched, y = .alert k cls forced latched) ∧
      (n.setActive t k b).bodies = n.bodies ++ after := by
  rcases n.setActive_cases t k b with ⟨_, e⟩ | ⟨_, _, e⟩ | ⟨_, _, _, e⟩ <;> rw [e]
  · exact ⟨[], List.forall_mem_nil _, (List.append_nil _).symm⟩
  · exact ⟨[], List.forall_mem_nil _, (List.append_nil _).symm⟩
  · exact Notice.latch_bodies (n.setEntry k _) t k

/-- The entries after one condition is set. -/
theorem Notice.setActive_entry (n : Notice) (t : Time) (c : AlertKind) (b : Bool) (h : n.alerts.length = 21)
    (k : AlertKind) :
    (n.setActive t c b).entry k = (n.entry k).follow (if k = c then some b else none) := by
  by_cases hk : k = c
  · rw [if_pos hk, hk, Notice.setActive_entry_self _ _ _ _ h]
  · rw [if_neg hk, Notice.setActive_entry_other _ _ _ hk, AlertEntry.follow_none]

/-! ## A change of mode and level (R107, R110, R117) -/

/-- A level set: the Supervisor's level and the INTERVENTION report of a change. -/
theorem State.setLevel_eq (new : Level) (v p : Nat) (s : State) :
    s.setLevel new v p =
      { s with
        sup := { s.sup with level := new }
        notice := if s.sup.level = new then s.notice
          else s.notice.post s.clock.now (.intervention s.sup.level new v p) } := by
  unfold State.setLevel
  dsimp only
  by_cases h : s.sup.level = new
  · rw [if_pos h, if_pos h, ← h]
  · rw [if_neg h, if_neg h]
    rfl

/-- The notice once a change of mode and then one of level are reported. -/
def Notice.modeReported (n : Notice) (t : Time) (change : ReportBody) (old new : Level) (v p : Nat) : Notice :=
  if old = new then n.post t change else (n.post t change).post t (.intervention old new v p)

theorem Notice.modeReported_entry (n : Notice) (t : Time) (change : ReportBody) (old new : Level) (v p : Nat)
    (k : AlertKind) : (n.modeReported t change old new v p).entry k = n.entry k := by
  unfold Notice.modeReported
  split <;> simp only [Notice.post_entry]

theorem Notice.modeReported_length (n : Notice) (t : Time) (change : ReportBody) (old new : Level) (v p : Nat) :
    (n.modeReported t change old new v p).alerts.length = n.alerts.length := by
  unfold Notice.modeReported
  split <;> simp only [Notice.post_alerts]

/-- The entries once the level's condition is set after the reports. -/
theorem Notice.modeReported_setActive_entry {n : Notice} (h : n.alerts.length = 21) (t : Time) (change : ReportBody)
    (old new : Level) (v p : Nat) (b : Bool) (k : AlertKind) :
    ((n.modeReported t change old new v p).setActive t .serviceIntervention b).entry k =
      (n.entry k).follow (if k = .serviceIntervention then some b else none) := by
  rw [Notice.setActive_entry _ _ _ _ ((Notice.modeReported_length ..).trans h), Notice.modeReported_entry]

theorem Notice.modeReported_bodies {n : Notice} (h : n.queue.length ≤ 22) (t : Time) (change : ReportBody)
    (old new : Level) (v p : Nat) :
    (n.modeReported t change old new v p).bodies =
      n.bodies ++ [change] ++ if old = new then [] else [.intervention old new v p] := by
  have joined := Notice.post_queue_length_le n t change
  have first := Notice.post_bodies (n := n) (by omega) t change
  unfold Notice.modeReported
  split_ifs
  · rw [first, List.append_nil]
  · rw [Notice.post_bodies (by omega), first]

theorem State.changeMode_eq (new : Mode) (s : State) :
    s.changeMode new =
      { s with
        sup := { s.sup with
          mode := new
          modeBefore := if s.sup.mode = .tripped then none else s.sup.modeBefore
          effort := .idle
          stopPoint := none
          level := levelAfterChange s.sup.mode new s.sup.level }
        notice := (s.notice.modeReported s.clock.now (.modeChange s.sup.mode new .request) s.sup.level
          (levelAfterChange s.sup.mode new s.sup.level) s.sup.pass.speed s.sup.pass.permitted).setActive s.clock.now
          .serviceIntervention (levelAfterChange s.sup.mode new s.sup.level == .service) } := by
  unfold State.changeMode
  dsimp only
  rw [State.setLevel_eq]
  rfl

theorem levelAfterChange_eq (a b : Mode) (l : Level) :
    levelAfterChange a b l = if (a = .shunt ∧ b = .line) ∨ (a = .line ∧ b = .shunt) then l else .none := by
  cases a <;> cases b <;> rfl

/-- The changes that SET MODE takes (R106). -/
theorem State.modeAllowed_iff {s : State} {new : Mode} (hn : new = .parked ∨ new = .shunt ∨ new = .line) :
    s.modeAllowed new = true ↔
      (s.sup.mode = .init ∧ new = .parked ∧ s.configured = true ∧ s.line.active ≠ none) ∨
      (s.sup.mode = .tripped ∧ new = .parked ∧ s.odo.standstill = true) ∨
      ((s.sup.mode = .parked ∨ s.sup.mode = .shunt ∨ s.sup.mode = .line) ∧ s.odo.standstill = true ∧
        (new = .line → s.odo.localisation ≠ .unlocalised)) := by
  have active : s.line.active.isSome = true ↔ s.line.active ≠ none := Option.isSome_iff_ne_none
  unfold State.modeAllowed
  rcases hn with rfl | rfl | rfl <;> cases s.sup.mode <;> simp [active]

theorem Level.beq_service (l : Level) : (l == .service) = decide (l = .service) := by
  cases l <;> rfl

/-- Settles O31: the four cases of the judgement, and what a change of mode leaves. -/
theorem setModeChangesTheMode : Obligations.SetModeChangesTheMode := by
  intro t tag new c s ready command allowed
  have new_cases : new = .parked ∨ new = .shunt ∨ new = .line := command.imp And.left (Or.imp And.left And.left)
  have answer {res : Result} {u : State} (j : (s.advance t).setMode new = (res, u)) :
      exec c s = .next (u.replied 0x01 tag res) := by
    rcases command with ⟨rfl, rfl⟩ | ⟨rfl, rfl⟩ | ⟨rfl, rfl⟩
    · exact exec_perform (r := .setMode) (p := [1]) rfl ready rfl j
    · exact exec_perform (r := .setMode) (p := [2]) rfl ready rfl j
    · exact exec_perform (r := .setMode) (p := [3]) rfl ready rfl j
  have taken : (s.advance t).modeAllowed new = true ↔ allowed := State.modeAllowed_iff (s := s.advance t) new_cases
  refine ⟨fun test => answer (if_pos test), fun test same => answer ?_, fun test other no => answer ?_,
    fun test other yes => ⟨(s.advance t).changeMode new, answer ?_, ?_, fun l => ?_, fun q => ?_⟩⟩
  · exact (if_neg (not_not.2 test)).trans (if_pos same)
  · exact (if_neg (not_not.2 test)).trans ((if_neg other).trans (if_neg fun a => no (taken.1 a)))
  · exact (if_neg (not_not.2 test)).trans ((if_neg other).trans (if_pos (taken.2 yes)))
  · rw [State.changeMode_eq, ← levelAfterChange_eq]
    rfl
  · have entries (k : AlertKind) : ((s.advance t).changeMode new).notice.entry k =
        (s.notice.entry k).follow (if k = .serviceIntervention
          then some (decide (((s.advance t).changeMode new).sup.level = .service)) else none) := by
      rw [State.changeMode_eq]
      rw [← Level.beq_service]
      exact Notice.modeReported_setActive_entry (n := s.notice) l ..
    refine ⟨?_, entries⟩
    rw [entries, if_pos rfl, AlertEntry.follow_active]
  · rw [State.changeMode_eq]
    obtain ⟨after, alerts, bodies⟩ := Notice.setActive_bodies
      (s.notice.modeReported t (.modeChange s.sup.mode new .request) s.sup.level
        (levelAfterChange s.sup.mode new s.sup.level) s.sup.pass.speed s.sup.pass.permitted) t .serviceIntervention
      (levelAfterChange s.sup.mode new s.sup.level == .service)
    refine ⟨after, alerts, ?_⟩
    rw [Notice.modeReported_bodies (by omega)] at bodies
    exact bodies

theorem State.releaseTrip_eq {s : State} {back : Mode} (h : s.sup.mode = .tripped) (still : s.odo.standstill = true)
    (before : s.sup.modeBefore = some back) :
    s.releaseTrip = (.done .nothing,
      { s with
        sup := { s.sup with
          mode := back, modeBefore := none, trip := none, stopPoint := none, effort := .idle, level := .none }
        notice := (s.notice.modeReported s.clock.now (.modeChange .tripped back .release) s.sup.level .none
          s.sup.pass.speed s.sup.pass.permitted).setActive s.clock.now .serviceIntervention false }) := by
  rw [State.releaseTrip, if_pos ⟨h, still⟩, before]
  dsimp only [Option.getD_some]
  rw [State.setLevel_eq]
  rfl

/-- Settles O33: a release at standstill, and what else refuses. -/
theorem releaseTripReturnsTheMode : Obligations.ReleaseTripReturnsTheMode := by
  intro t tag s ready
  have answer {res : Result} {u : State} (j : (s.advance t).releaseTrip = (res, u)) :
      exec (.releaseTrip t tag) s = .next (u.replied 0x03 tag res) :=
    exec_perform (r := .releaseTrip) (p := []) rfl ready rfl j
  refine ⟨fun back tripped still before => ?_, fun other => answer (if_neg fun ⟨tripped, still⟩ => ?_)⟩
  · refine ⟨_, answer (State.releaseTrip_eq (s := s.advance t) tripped still before), rfl, fun l k =>
      Notice.modeReported_setActive_entry (n := s.notice) l .., fun level q => ?_⟩
    · have bodies := Notice.modeReported_bodies (n := s.notice) q t (.modeChange .tripped back .release) s.sup.level .none
        s.sup.pass.speed s.sup.pass.permitted
      rw [if_neg level, List.append_assoc] at bodies
      refine Eq.trans ?_ bodies
      exact congrArg (List.map Report.body) (Notice.setActive_quiet_queue (.inl rfl) _)
  · rcases other with other | other
    · exact other tripped
    · exact Bool.noConfusion (other.symm.trans still)

/-! ## The note characters (R196) -/

/-- The values of the note characters in the order of their codes. -/
def noteValues : List Nat := 0x20 :: (List.range' 0x30 10 ++ (List.range' 0x41 26 ++ noteMarks))

theorem noteValues_eq :
    noteValues =
      " 0123456789ABCDEFGHIJKLMNOPQRSTUVWXYZ.,:;-+/()!?'\"#%&*=<>@_[]$~^".toList.map Char.toNat := by
  decide

theorem placeOf_cons (v n x : Nat) (l : List Nat) :
    placeOf v n (x :: l) = if v = x then some n else placeOf v (n + 1) l :=
  if_congr eq_comm rfl rfl

/-- The place in a run of successive values, or after it. -/
theorem placeOf_range' (v a n k : Nat) (l : List Nat) :
    placeOf v n (List.range' a k ++ l) = if a ≤ v ∧ v < a + k then some (v - a + n) else placeOf v (n + k) l := by
  induction k generalizing a n with
  | zero =>
    rw [if_neg (by omega)]
    rfl
  | succ k ih =>
    rw [List.range'_succ, List.cons_append, placeOf_cons, ih]
    split_ifs <;> first | omega | rfl | (congr 1; omega)

theorem noteCode_eq_placeOf (b : Byte) : noteCode b = placeOf b.toNat 0 noteValues := by
  rw [noteValues, placeOf_cons, placeOf_range', placeOf_range', noteCode]
  refine if_congr Iff.rfl rfl (if_congr ?_ rfl (if_congr ?_ rfl rfl)) <;>
    simp only [Bool.and_eq_true, decide_eq_true_eq] <;> omega

theorem placeOf_eq_some_iff {l : List Nat} (distinct : l.Nodup) (v n m : Nat) :
    placeOf v n l = some m ↔ n ≤ m ∧ l[m - n]? = some v := by
  induction l generalizing n with
  | nil => exact iff_of_false nofun fun h => nomatch h.2
  | cons x l ih =>
    obtain ⟨new, distinct⟩ := List.nodup_cons.1 distinct
    rw [placeOf_cons]
    split_ifs with hv
    · rw [Option.some.injEq]
      constructor
      · rintro rfl
        rw [Nat.sub_self, hv]
        exact ⟨Nat.le_refl n, rfl⟩
      · rintro ⟨hnm, hm⟩
        by_contra ne
        rw [show m - n = m - n - 1 + 1 by omega, List.getElem?_cons_succ] at hm
        exact new (hv ▸ List.mem_of_getElem? hm)
    · rw [ih distinct]
      constructor
      · rintro ⟨hnm, hm⟩
        rw [show m - n = m - (n + 1) + 1 by omega, List.getElem?_cons_succ]
        exact ⟨by omega, hm⟩
      · rintro ⟨hnm, hm⟩
        have ne : n ≠ m := by
          rintro rfl
          rw [Nat.sub_self, List.getElem?_cons_zero, Option.some.injEq] at hm
          exact hv hm.symm
        rw [show m - n = m - (n + 1) + 1 by omega, List.getElem?_cons_succ] at hm
        exact ⟨by omega, hm⟩

theorem noteCode_eq_some_iff (b : Byte) (n : Nat) : noteCode b = some n ↔ noteValues[n]? = some b.toNat := by
  rw [noteCode_eq_placeOf, placeOf_eq_some_iff (by decide)]
  exact and_iff_right (Nat.zero_le n)

/-! ## The requests that set one thing (R45, R57, R100, R108) -/

theorem selectorOf_eq {b : Byte} (h : b.toNat ≤ 2) :
    selectorOf b.toNat = some (if b = 0#8 then .up else if b = 1#8 then .down else .neutral) := by
  simp only [← BitVec.toNat_inj, BitVec.toNat_ofNat]
  generalize b.toNat = n at h
  interval_cases n <;> rfl

theorem selectorOf_none {n : Nat} (h : 2 < n) : selectorOf n = none := by
  unfold selectorOf
  split <;> first | omega | rfl

theorem Radio.addNote_bad {text : List Byte} (r : Radio)
    (h : text = [] ∨ 24 < text.length ∨ ∃ b ∈ text, noteCode b = none) : r.addNote text = (.badField 1, r) := by
  refine if_pos ?_
  simpa only [Bool.or_eq_true, List.isEmpty_iff, decide_eq_true_eq, List.any_eq_true, Option.isNone_iff_eq_none,
    or_assoc] using h

theorem Radio.addNote_good {text : List Byte} (r : Radio) (h0 : text ≠ []) (h1 : text.length ≤ 24)
    (h2 : ∀ b ∈ text, noteCode b ≠ none) :
    r.addNote text =
      if 4 ≤ r.notes.length then (.full, r) else (.done .nothing, { r with notes := r.notes ++ [text] }) := by
  refine if_neg ?_
  simp only [Bool.or_eq_true, List.isEmpty_iff, decide_eq_true_eq, List.any_eq_true, Option.isNone_iff_eq_none,
    not_or, not_exists, not_and]
  exact ⟨⟨h0, Nat.not_lt.2 h1⟩, h2⟩

/-- Settles O32: each request by its owner's rule, and the note characters by their places. -/
theorem settingRequestsSetOneThing : Obligations.SettingRequestsSetOneThing := by
  refine ⟨fun b n => ?_, fun t tag s ready => ⟨fun selector traction brake => ?_,
    exec_perform (r := .clearFaultRecord) (p := []) rfl ready rfl rfl,
    exec_perform (r := .clearRadioCounters) (p := []) rfl ready rfl rfl, fun text => ?_⟩⟩
  · rw [noteCode_eq_some_iff, noteValues_eq]
  · have answer {res : Result} {u : State}
        (j : (s.advance t).setDrive selector.toNat traction.toNat brake.toNat = (res, u)) :
        exec (.driveState t tag selector traction brake) s = .next (u.replied 0x02 tag res) := by
      refine exec_perform (r := .driveState) (p := [selector, traction, brake]) rfl ready rfl ?_
      rw [State.perform, leAt_single, leAt_one _ 1 traction rfl, leAt_one _ 2 brake rfl, j]
    refine ⟨fun hs ht => answer ?_, fun hs => answer ?_, fun hs ht => answer ?_⟩
    · have requested : (traction.toNat == 1) = decide (traction = 1#8) := by
        rw [beq_eq_decide]
        exact decide_eq_decide.2 (byte_eq_one_iff traction).symm
      rw [State.setDrive, selectorOf_eq hs, requested]
      exact if_neg (Nat.not_lt.2 ht)
    · rw [State.setDrive, selectorOf_none hs]
    · rw [State.setDrive, selectorOf_eq hs]
      exact if_pos ht
  · have answer {res : Result} {r : Radio} (j : s.radio.addNote text = (res, r)) :
        exec (.uplinkNote t tag text) s = .next (State.replied 0x24 tag res { s.advance t with radio := r }) := by
      refine exec_perform (r := .uplinkNote) (p := text) rfl ready rfl ?_
      rw [State.perform, State.advance_radio, j]
    refine ⟨fun bad => answer (r := s.radio) (Radio.addNote_bad _ bad), fun h0 h1 h2 full => answer (r := s.radio) ?_,
      fun h0 h1 h2 room => answer ?_⟩
    · rw [Radio.addNote_good _ h0 h1 h2, if_pos full]
    · rw [Radio.addNote_good _ h0 h1 h2, if_neg (Nat.not_le.2 room)]

end Sys2Proof.Machine
end

section
/-! DETECTOR TEST: the entries and the ALERT reports of each step (06 §6.7, 09 §9.3). -/

namespace Sys2Proof.Machine

/-! ## One kind forced or raised -/

/-- A kind forced (`true`), or an event of it raised (`false`). -/
def Notice.touch (force : Bool) (t : Time) (k : AlertKind) (n : Notice) : Notice :=
  if force then n.force t k else n.latch t k

/-- Is that a latching opportunity of the entry (R170, R171)? -/
def AlertEntry.latches (force : Bool) (e : AlertEntry) : Bool := !force || (!e.forced && !e.active)

/-- The entry after it. -/
def AlertEntry.touched (force : Bool) (e : AlertEntry) : AlertEntry where
  active := e.active
  forced := e.forced || force
  latched := e.latched || e.latches force
  count := if e.latches force then min (e.count + 1) 255 else e.count

theorem Notice.touch_entry_self {n : Notice} (h : n.alerts.length = 21) (f : Bool) (t : Time) (k : AlertKind) :
    (n.touch f t k).entry k = (n.entry k).touched f := by
  cases f with
  | false =>
    refine (Notice.latch_entry_self n t k h).trans ?_
    simp [AlertEntry.touched, AlertEntry.latches]
  | true =>
    cases hf : (n.entry k).forced <;> cases ha : (n.entry k).active
    case false.false =>
      refine (congrArg (fun m : Notice => m.entry k) (Notice.force_rise hf ha t)).trans ?_
      rw [Notice.latch_entry_self _ _ _ ((Notice.setEntry_length ..).trans h), Notice.entry_setEntry_self _ _ _ h]
      simp [AlertEntry.touched, AlertEntry.latches, hf, ha]
    all_goals
      refine (Notice.force_quiet h (by simp [hf, ha]) t).1.trans ?_
      simp [AlertEntry.touched, AlertEntry.latches, hf, ha]

theorem Notice.touch_entry_other (n : Notice) (f : Bool) (t : Time) {j k : AlertKind} (h : j ≠ k) :
    (n.touch f t k).entry j = n.entry j := by
  cases f
  · exact Notice.latch_entry_other n t h
  · exact Notice.force_entry_other n t h

theorem Notice.latch_length (n : Notice) (t : Time) (k : AlertKind) :
    (n.latch t k).alerts.length = n.alerts.length := by
  unfold Notice.latch
  dsimp only
  split <;> simp

theorem Notice.touch_length (n : Notice) (f : Bool) (t : Time) (k : AlertKind) :
    (n.touch f t k).alerts.length = n.alerts.length := by
  cases f with
  | false => exact Notice.latch_length n t k
  | true =>
    rcases n.force_cases t k with ⟨_, e⟩ | ⟨_, _, e⟩ | ⟨_, _, e⟩ <;>
      refine (congrArg (fun m : Notice => m.alerts.length) e).trans ?_
    · rfl
    · exact Notice.setEntry_length ..
    · exact (Notice.latch_length ..).trans (Notice.setEntry_length ..)

/-- The ALERT report of a kind that latches anew, with the latched set after it. -/
def AlertEntry.news (force : Bool) (k : AlertKind) (after : BitVec 24) (e : AlertEntry) : List ReportBody :=
  if e.latches force && !e.latched then [.alert k k.cls (e.touched force).forced after] else []

theorem Notice.touch_bodies {n : Notice} (h : n.alerts.length = 21) (q : n.queue.length < 24) (f : Bool) (t : Time)
    (k : AlertKind) :
    (n.touch f t k).bodies = n.bodies ++ (n.entry k).news f k (n.touch f t k).latchedSet := by
  have joined (m : Notice) (r : List Report) (hr : m.queue = n.queue ++ r) : m.bodies = n.bodies ++ r.map Report.body := by
    rw [Notice.bodies, hr, List.map_append, Notice.bodies]
  cases f with
  | false =>
    have queue := Notice.latch_queue t k q
    cases hl : (n.entry k).latched <;> simp only [hl, if_true, if_false, Bool.false_eq_true] at queue
    · refine (joined _ _ queue).trans ?_
      simp [AlertEntry.news, AlertEntry.touched, AlertEntry.latches, hl, Notice.touch]
    · simp [AlertEntry.news, hl, Notice.touch, Notice.bodies, queue]
  | true =>
    cases hf : (n.entry k).forced <;> cases ha : (n.entry k).active
    case false.false =>
      have rise := Notice.force_rise hf ha t
      have queue := (Notice.latch_setEntry h q t k { n.entry k with forced := true }).2
      rw [← rise] at queue
      cases hl : (n.entry k).latched <;> simp only [hl, if_true, if_false, Bool.false_eq_true] at queue
      · refine (joined _ _ queue).trans ?_
        simp [AlertEntry.news, AlertEntry.touched, AlertEntry.latches, hl, hf, ha, Notice.touch]
      · simp [AlertEntry.news, hl, Notice.touch, Notice.bodies, queue]
    all_goals
      have queue := (Notice.force_quiet (k := k) h (by simp [hf, ha]) t).2
      simp [AlertEntry.news, AlertEntry.latches, hf, ha, Notice.touch, Notice.bodies, queue]

theorem Notice.touch_queue_length_le {n : Notice} (h : n.alerts.length = 21) (q : n.queue.length < 24) (f : Bool)
    (t : Time) (k : AlertKind) : (n.touch f t k).queue.length ≤ n.queue.length + 1 := by
  have bodies := congrArg List.length (Notice.touch_bodies h q f t k)
  simp only [Notice.bodies, List.length_map, List.length_append, AlertEntry.news] at bodies
  split at bodies <;> simp at bodies <;> omega

/-! ## What a step leaves -/

/-- Is a kind a latching opportunity of its entry before, when it is raised or forced? -/
abbrev stepLatches (forces raises : List AlertKind) (before : AlertKind → AlertEntry) (k : AlertKind) : Prop :=
  k ∈ raises ∨ (k ∈ forces ∧ (before k).forced = false ∧ (before k).active = false)

/-- The kinds that latch anew, in their order. -/
abbrev stepNews (forces raises : List AlertKind) (before : AlertKind → AlertEntry) : List AlertKind :=
  (forces ++ raises).filter fun k => decide (stepLatches forces raises before k ∧ (before k).latched = false)

/-- What a test step that forces and raises kinds leaves of the entries and the reports before it: each entry, and the ALERT reports with their
latched sets. -/
def StepLeaves (forces raises : List AlertKind) (before : AlertKind → AlertEntry) (queue : List Report) (n : Notice) :
    Prop :=
  (∀ k : AlertKind, n.entry k =
    { active := (before k).active
      forced := (before k).forced || decide (k ∈ forces)
      latched := (before k).latched || decide (stepLatches forces raises before k)
      count := if stepLatches forces raises before k then min ((before k).count + 1) 255 else (before k).count }) ∧
  (queue.length ≤ 22 →
    ∃ sets : AlertKind → BitVec 24,
      n.queue.map Report.body = queue.map Report.body ++
        ((stepNews forces raises before).map fun k => .alert k k.cls (n.entry k).forced (sets k)) ∧
      (∀ k, (stepNews forces raises before).getLast? = some k → sets k = n.latchedSet) ∧
      (∀ j k, stepNews forces raises before = [j, k] → sets j = n.latchedSet &&& ~~~(1#24 <<< k.number)))

theorem StepLeaves.nothing (m : Notice) : StepLeaves [] [] m.entry m.queue m := by
  refine ⟨fun k => ?_, fun _ => ⟨fun _ => 0, (List.append_nil _).symm, ?_, ?_⟩⟩
  · simp [stepLatches]
  · rintro k ⟨⟩
  · rintro j k ⟨⟩

/-- The entry of a kind that one operation of the step touches. -/
theorem touched_eq {forces raises : List AlertKind} {m : Notice} {k : AlertKind} {f : Bool}
    (hf : k ∈ forces ↔ f = true) (hr : k ∈ raises ↔ f = false) :
    (m.entry k).touched f =
      { active := (m.entry k).active
        forced := (m.entry k).forced || decide (k ∈ forces)
        latched := (m.entry k).latched || decide (stepLatches forces raises m.entry k)
        count := if stepLatches forces raises m.entry k then min ((m.entry k).count + 1) 255 else (m.entry k).count } := by
  have latches : (m.entry k).latches f = decide (stepLatches forces raises m.entry k) := by
    cases f <;> simp [AlertEntry.latches, stepLatches, hf, hr, Bool.decide_and]
  have forced : f = decide (k ∈ forces) := by
    cases f <;> simp [hf]
  rw [AlertEntry.touched, latches, ← forced]
  simp only [decide_eq_true_eq]

/-- A kind that latches anew is one of the news, with its mark. -/
theorem news_eq {forces raises : List AlertKind} {m : Notice} {k : AlertKind} {f : Bool}
    (hf : k ∈ forces ↔ f = true) (hr : k ∈ raises ↔ f = false) (x : BitVec 24) :
    (m.entry k).news f k x =
      ([k].filter fun j => decide (stepLatches forces raises m.entry j ∧ (m.entry j).latched = false)).map fun j =>
        .alert j j.cls ((m.entry k).touched f).forced x := by
  have new : ((m.entry k).latches f && !(m.entry k).latched) =
      decide (stepLatches forces raises m.entry k ∧ (m.entry k).latched = false) := by
    cases f <;> cases (m.entry k).latched <;> simp [AlertEntry.latches, stepLatches, hf, hr, Bool.decide_and]
  rw [AlertEntry.news, new, List.filter_singleton]
  cases decide (stepLatches forces raises m.entry k ∧ (m.entry k).latched = false) <;> rfl

theorem AlertKind.exists_number {i : Nat} (h : i < 21) : ∃ k : AlertKind, k.number = i := by
  refine ⟨AlertKind.all[i], ?_⟩
  interval_cases i <;> rfl

/-- Two alert sets of the 21 kinds are the same when they hold the same kinds. -/
theorem latchedSet_eq {n : Notice} (hn : n.alerts.length = 21) {x : BitVec 24}
    (small : ∀ i, 21 ≤ i → x.getLsbD i = false) (h : ∀ k : AlertKind, x.getLsbD k.number = (n.entry k).latched) :
    x = n.latchedSet := by
  refine BitVec.eq_of_getLsbD_eq fun i _ => ?_
  by_cases hi : i < 21
  · obtain ⟨k, rfl⟩ := AlertKind.exists_number hi
    rw [h, Notice.latchedSet_getLsbD hn]
    rfl
  · rw [small i (Nat.not_lt.1 hi), Notice.latchedSet_getLsbD hn, List.getD_eq_default _ _ (by omega)]
    rfl

theorem Notice.latchedSet_small {n : Notice} (hn : n.alerts.length = 21) (i : Nat) (hi : 21 ≤ i) :
    n.latchedSet.getLsbD i = false := by
  rw [Notice.latchedSet_getLsbD hn, List.getD_eq_default _ _ (by omega)]
  rfl

/-- An operation on a kind that does not latch anew leaves the latched set. -/
theorem Notice.touch_latchedSet_old {n : Notice} (hn : n.alerts.length = 21) {f : Bool} (t : Time) {k : AlertKind}
    (old : ¬((n.entry k).latches f = true ∧ (n.entry k).latched = false)) :
    (n.touch f t k).latchedSet = n.latchedSet := by
  refine (latchedSet_eq ((Notice.touch_length n f t k).trans hn) (Notice.latchedSet_small hn) fun j => ?_).symm
  refine (Notice.latchedSet_getLsbD hn _).trans ?_
  by_cases hj : j = k
  · rw [hj, Notice.touch_entry_self hn]
    change (n.entry k).latched = ((n.entry k).latched || (n.entry k).latches f)
    revert old
    cases (n.entry k).latched <;> cases (n.entry k).latches f <;> simp
  · rw [Notice.touch_entry_other n f t hj]
    rfl

/-- The latched set before a kind latched anew: the set after it without the kind. -/
theorem Notice.touch_latchedSet_new {n : Notice} (hn : n.alerts.length = 21) {f : Bool} (t : Time) {k : AlertKind}
    (new : (n.entry k).latched = false) :
    n.latchedSet = (n.touch f t k).latchedSet &&& ~~~(1#24 <<< k.number) := by
  have bit (i : Nat) (hi : i < 24) : (~~~(1#24 <<< k.number)).getLsbD i = decide (i ≠ k.number) := by
    rw [← BitVec.twoPow_eq, BitVec.getLsbD_not, BitVec.getLsbD_twoPow]
    have hk := Nat.lt_trans k.number_lt (by decide : 21 < 24)
    simp only [hi, hk, decide_true, Bool.true_and, eq_comm (a := k.number), ne_eq, decide_not]
  have ht := (Notice.touch_length n f t k).trans hn
  refine (latchedSet_eq hn (fun i hi => ?_) fun j => ?_).symm
  · rw [BitVec.getLsbD_and, Notice.latchedSet_small ht i hi, Bool.false_and]
  · have hj24 := Nat.lt_trans j.number_lt (by decide : 21 < 24)
    rw [BitVec.getLsbD_and, bit _ hj24, Notice.latchedSet_getLsbD ht]
    by_cases hj : j = k
    · rw [hj, decide_eq_false (not_not.2 rfl), Bool.and_false, new]
    · rw [decide_eq_true (p := j.number ≠ k.number) fun e => hj (AlertKind.number_injective e), Bool.and_true]
      exact congrArg AlertEntry.latched (Notice.touch_entry_other n f t hj)

/-- One event raised. -/
theorem StepLeaves.raise {m : Notice} (h : m.alerts.length = 21) (t : Time) (k : AlertKind) :
    StepLeaves [] [k] m.entry m.queue (m.latch t k) := by
  have hf : k ∈ ([] : List AlertKind) ↔ false = true := by simp
  have hr : k ∈ [k] ↔ false = false := by simp
  have self := Notice.touch_entry_self h false t k
  refine ⟨fun j => ?_, fun q => ⟨fun _ => (m.touch false t k).latchedSet, ?_, fun _ _ => rfl, fun i j two => ?_⟩⟩
  · by_cases hj : j = k
    · rw [hj]
      exact self.trans (touched_eq hf hr)
    · rw [Notice.latch_entry_other m t hj]
      simp [stepLatches, hj]
  · refine (Notice.touch_bodies h (by omega) false t k).trans (congrArg (m.bodies ++ ·) ?_)
    rw [news_eq hf hr]
    refine List.map_congr_left fun j hj => ?_
    rw [List.mem_singleton.1 (List.mem_of_mem_filter hj), ← self]
    rfl
  · have short : (stepNews [] [k] m.entry).length ≤ 1 := List.length_filter_le ..
    rw [two] at short
    simp at short

/-- Two operations on different kinds, one after the other. -/
theorem StepLeaves.two {forces raises : List AlertKind} {m : Notice} (h : m.alerts.length = 21) (t : Time)
    {a b : AlertKind} {f g : Bool} (ne : a ≠ b) (both : forces ++ raises = [a, b])
    (af : a ∈ forces ↔ f = true) (ar : a ∈ raises ↔ f = false)
    (bf : b ∈ forces ↔ g = true) (br : b ∈ raises ↔ g = false) :
    StepLeaves forces raises m.entry m.queue ((m.touch f t a).touch g t b) := by
  have h1 := (Notice.touch_length m f t a).trans h
  have selfA := Notice.touch_entry_self h f t a
  have entryB : (m.touch f t a).entry b = m.entry b := Notice.touch_entry_other m f t ne.symm
  have entryA : ((m.touch f t a).touch g t b).entry a = (m.touch f t a).entry a := Notice.touch_entry_other _ g t ne
  have selfB : ((m.touch f t a).touch g t b).entry b = (m.entry b).touched g := by
    rw [Notice.touch_entry_self h1, entryB]
  have latchesB : (m.entry b).latches g = true ↔ stepLatches forces raises m.entry b := by
    cases g <;> simp [AlertEntry.latches, stepLatches, bf, br]
  have news : stepNews forces raises m.entry =
      ([a].filter fun j => decide (stepLatches forces raises m.entry j ∧ (m.entry j).latched = false)) ++
        [b].filter fun j => decide (stepLatches forces raises m.entry j ∧ (m.entry j).latched = false) := by
    rw [stepNews, both, ← List.filter_append]
    rfl
  refine ⟨fun k => ?_, fun q => ⟨fun k => if k = a then (m.touch f t a).latchedSet
    else ((m.touch f t a).touch g t b).latchedSet, ?_, fun k last => ?_, fun j k pair => ?_⟩⟩
  · by_cases ha : k = a
    · rw [ha, entryA, selfA, touched_eq af ar]
    · by_cases hb : k = b
      · rw [hb, selfB, touched_eq bf br]
      · rw [Notice.touch_entry_other _ g t hb, Notice.touch_entry_other m f t ha]
        have none : k ∉ forces ++ raises := by simp [both, ha, hb]
        simp only [List.mem_append, not_or] at none
        simp [stepLatches, none]
  · have q1 := Notice.touch_queue_length_le h (by omega) f t a
    refine (Notice.touch_bodies h1 (by omega) g t b).trans ?_
    rw [Notice.touch_bodies h (by omega), entryB, news_eq af ar, news_eq bf br, news, List.map_append,
      List.append_assoc]
    congr 2
    · refine List.map_congr_left fun j hj => ?_
      rw [List.mem_singleton.1 (List.mem_of_mem_filter hj), entryA, selfA]
      dsimp only
      rw [if_pos rfl]
    · refine List.map_congr_left fun j hj => ?_
      rw [List.mem_singleton.1 (List.mem_of_mem_filter hj), selfB]
      dsimp only
      rw [if_neg ne.symm]
  · dsimp only
    split_ifs with ha
    · refine (Notice.touch_latchedSet_old h1 t fun new => ?_).symm
      rw [entryB, latchesB] at new
      rw [news, List.filter_singleton (a := b), decide_eq_true new] at last
      exact ne (ha ▸ Option.some.inj (last.symm.trans List.getLast?_concat))
    · rfl
  · have all : stepNews forces raises m.entry = forces ++ raises :=
      List.filter_sublist.eq_of_length ((congrArg List.length pair).trans (congrArg List.length both).symm)
    have new : b ∈ stepNews forces raises m.entry := by
      rw [all, both]
      exact List.mem_cons_of_mem _ List.mem_cons_self
    have unlatched := (of_decide_eq_true (List.mem_filter.1 new).2).2
    rw [all, both, List.cons.injEq, List.cons.injEq] at pair
    obtain ⟨rfl, rfl, _⟩ := pair
    dsimp only
    rw [if_pos rfl]
    exact Notice.touch_latchedSet_new h1 t (by rw [entryB]; exact unlatched)

/-! ## The steps (R124) -/

theorem nextStep_eq {n : Nat} (h : n ≤ 5) : nextStep n = (n + 1) % 6 := by
  unfold nextStep
  split_ifs <;> omega

/-- The kinds that a step forces (R124). -/
def stepForces : Nat → List AlertKind
  | 1 => [.overspeedWarning, .serviceIntervention]
  | 2 => [.radioDegraded, .radioLost]
  | 3 => [.entranceObstructed, .odometryDisagree]
  | 4 => [.positionDegraded]
  | _ => []

/-- The kinds that a step raises, the TEST fault included when it is enabled (R99, R124). -/
def stepRaises (enabled : Bool) : Nat → List AlertKind
  | 4 => [.markerMissed]
  | 5 => if enabled then [.supervisionFault] else []
  | _ => []

/-- The notice that a step starts from: cleared by steps 3 and 0 (R124). -/
def Notice.beforeStep (step : Nat) (n : Notice) : Notice := if step = 3 ∨ step = 0 then n.testClear else n

theorem Notice.beforeStep_entry (step : Nat) (n : Notice) (k : AlertKind) :
    (n.beforeStep step).entry k =
      if step = 3 ∨ step = 0 then { n.entry k with forced := false, latched := false, count := 0 } else n.entry k := by
  unfold Notice.beforeStep
  split_ifs
  · simp only [Notice.entry, Notice.testClear, List.getD_eq_getElem?_getD, List.getElem?_map]
    cases n.alerts[k.number]? <;> rfl
  · rfl

theorem Notice.beforeStep_length (step : Nat) (n : Notice) :
    (n.beforeStep step).alerts.length = n.alerts.length := by
  unfold Notice.beforeStep
  split_ifs
  · exact List.length_map _
  · rfl

theorem Notice.beforeStep_queue (step : Nat) (n : Notice) : (n.beforeStep step).queue = n.queue := by
  unfold Notice.beforeStep
  split_ifs <;> rfl

/-- The TEST fault of step 5: recorded and raised when its enable is set (R99). -/
theorem State.handleFaults_test (s : State) :
    s.handleFaults [(.test, none)] =
      { s with
        sup := { s.sup with
          faultSeen := true
          faultRecord := if s.cfg.enables.testBit 2 then some ⟨.test, none, s.sup.inputPosition, s.clock.now⟩
            else s.sup.faultRecord }
        notice := if s.cfg.enables.testBit 2 then s.notice.latch s.clock.now .supervisionFault else s.notice } := by
  have bit : FaultKind.test.enableBit = 2 := rfl
  simp only [State.handleFaults, List.find?_cons, List.find?_nil, bit]
  cases s.cfg.enables.testBit 2 <;> rfl

/-- The notice that each step leaves. -/
theorem State.testEffects_notice {s : State} (h : s.notice.alerts.length = 21) {step : Nat} (hs : step ≤ 5) :
    StepLeaves (stepForces step) (stepRaises (s.cfg.enables.testBit 2) step) (s.notice.beforeStep step).entry
      (s.notice.beforeStep step).queue (s.testEffects step).notice := by
  have length := (Notice.beforeStep_length step s.notice).trans h
  obtain rfl | rfl | rfl | middle : step = 0 ∨ step = 5 ∨ step = 4 ∨ step = 1 ∨ step = 2 ∨ step = 3 := by omega
  · exact StepLeaves.nothing s.notice.testClear
  · change StepLeaves [] _ s.notice.entry s.notice.queue (s.handleFaults [(.test, none)]).notice
    rw [State.handleFaults_test, stepRaises]
    cases s.cfg.enables.testBit 2
    · exact StepLeaves.nothing s.notice
    · exact StepLeaves.raise h s.clock.now .supervisionFault
  · exact StepLeaves.two h s.clock.now (f := true) (g := false) (by decide) rfl (by simp [stepForces])
      (by simp [stepRaises]) (by simp [stepForces]) (by simp [stepRaises])
  · rcases middle with rfl | rfl | rfl <;>
      exact StepLeaves.two length s.clock.now (f := true) (g := true) (by decide) rfl (by simp [stepForces])
        (by simp [stepRaises]) (by simp [stepForces]) (by simp [stepRaises])

/-- A step touches the notice and the fault record only. -/
theorem State.testEffects_frame (step : Nat) (s : State) :
    s.testEffects step =
      { s with
        sup := { s.sup with
          faultSeen := (s.testEffects step).sup.faultSeen, faultRecord := (s.testEffects step).sup.faultRecord }
        notice := (s.testEffects step).notice } := by
  unfold State.testEffects
  by_cases five : step = 5
  · subst five
    simp only [Nat.reduceEqDiff, if_false, if_true, State.handleFaults_test]
  · split_ifs <;> rfl

theorem State.testEffects_five (s : State) : s.testEffects 5 = s.handleFaults [(.test, none)] := rfl

theorem State.testEffects_sup {step : Nat} (h : step ≠ 5) (s : State) : (s.testEffects step).sup = s.sup := by
  unfold State.testEffects
  split_ifs <;> rfl

/-- Settles O34: the step that follows, and what it leaves of the notice and the fault record. -/
theorem detectorTestForcesTheStepsFlags : Obligations.DetectorTestForcesTheStepsFlags := by
  intro t tag s ready length bound n
  have answer {res : Result} {u : State} (j : (s.advance t).detectorTest = (res, u)) :
      exec (.detectorTest t tag) s = .next (u.replied 0x04 tag res) :=
    exec_perform (r := .detectorTest) (p := []) rfl ready rfl j
  refine ⟨fun parked still => ?_, fun other => answer (if_neg fun ⟨parked, still⟩ => ?_)⟩
  · have taken : (s.advance t).detectorTest = (.done (.step n),
        State.testEffects n { s.advance t with sup := { s.sup with testStep := n } }) := by
      refine (if_pos ⟨parked, still⟩).trans ?_
      dsimp only
      rw [State.advance_sup, nextStep_eq bound]
    have hn : n ≤ 5 := Nat.le_of_lt_succ (Nat.mod_lt _ (by decide))
    have leaves := State.testEffects_notice (s := { s.advance t with sup := { s.sup with testStep := n } }) length hn
    rw [Notice.beforeStep_queue, funext (Notice.beforeStep_entry n _)] at leaves
    refine ⟨_, answer taken, State.testEffects_frame n _, leaves, fun five => ?_, fun other => ?_⟩
    · rw [five, State.testEffects_five, State.handleFaults_test]
      exact ⟨rfl, rfl⟩
    · rw [State.testEffects_sup other]
      exact ⟨rfl, rfl⟩
  · rcases other with other | other
    · exact other parked
    · exact Bool.noConfusion (other.symm.trans still)

end Sys2Proof.Machine
end

section
/-! Slot periods and pattern writes of the brake channels (07 §7.1 to §7.4). -/

namespace Sys2Proof.Machine

/-! ## Slot periods -/

/-- A state with no alert entries, in which two channels starve at the next slot. -/
def twoStarving : State :=
  { State.reset with
    brake := { Brake.powerOn with
      band := { BrakeChannel.singlePowerOn with latest := .single .release }
      emergency := { BrakeChannel.singlePowerOn with latest := .single .release } }
    notice := { Notice.powerOn with alerts := [] } }

theorem twoStarving_reports : (((twoStarving.advance 0).slotPeriod).finish.notice.queue.map Report.body).length = 2 := by
  decide

/-- Refutes O37: of the reports it says nothing of the number of alert entries. With no entry to latch, the second channel
that starves in a period posts its own ALERT report (`twoStarving`); the statement has one at most. -/
theorem not_slotPeriodEmitsEachChannel : ¬ Obligations.SlotPeriodEmitsEachChannel := by
  intro h
  obtain ⟨u, run, -, -, -, -, ⟨-, -, reports⟩, -⟩ := h 0 twoStarving rfl
  have hu : (twoStarving.advance 0).slotPeriod.finish = u := Host.Outcome.next.inj run
  have length := congrArg List.length (reports (by decide) (by decide))
  rw [← hu, twoStarving_reports, List.length_append] at length
  split_ifs at length <;> simp [twoStarving, Notice.powerOn] at length

/-! ## Pattern writes (R132, R133, R134) -/

/-- The states that a placed write leaves of a channel, in the words of the statement. -/
theorem BrakeChannel.place_slots {x : BrakeChannel} (hx : x.slots.length = 64) (d : Demand) (n start : BitVec 32)
    (k i : Nat) (hi : i < 64) :
    ((x.record d n).place d start k).slots[i]? =
      if (i + 64 - start.toNat % 64) % 64 < k then some ⟨patternAt d i, true, true⟩ else x.slots[i]? := by
  have slot := placeFrom_get d (start.toNat % 64) k 0 x.slots i
  rw [List.getElem?_eq_getElem (l := x.slots) (by rw [hx]; exact hi), Option.map_some, Nat.zero_add] at slot
  refine Eq.trans slot ?_
  rw [List.getElem?_eq_getElem (l := x.slots) (by rw [hx]; exact hi)]
  split_ifs <;> rfl

theorem Brake.setChannel_channel (b : Brake) (c : Channel) : b.setChannel c (b.channel c) = b := by
  cases c <;> rfl

theorem State.patternWrite_prepared {s : State} {c : Channel} {d : Demand} (h : s.sup.prepared.demand c = some d) :
    s.patternWrite c =
      State.putChannel c ((s.brake.channel c).write d s.brake.slotNumber)
        ((s.brake.channel c).copyFault s.brake.slotNumber && d.releases)
        { s with sup := { s.sup with prepared := s.sup.prepared.without c } } := by
  rw [State.patternWrite, h]
  rfl

theorem Demand.releases_iff (d : Demand) :
    d.releases = true ↔ match d with
      | .duty q => q < 64
      | .single .release => True
      | .single .apply => False := by
  rcases d with q | _ | _
  · exact decide_eq_true_iff
  · exact iff_of_false Bool.false_ne_true id
  · exact iff_of_true rfl trivial

/-- Settles O38: the three cases of a write, and an idle channel. -/
theorem patternWritesArePlacedInTheWindow : Obligations.PatternWritesArePlacedInTheWindow := by
  refine ⟨fun t c d s prepared length => ?_, fun t c s none => ?_, fun t c s => ⟨fun idle => ?_, fun busy => ?_⟩⟩
  · intro x n base placed
    have run : exec (.patternWrite t c) s = .next (State.finish
        (State.putChannel c (x.write d n) (x.copyFault n && d.releases) { s.advance t with sup := base })) := by
      have effect := State.patternWrite_prepared (s := s.advance t) prepared
      exact congrArg (fun u : State => Host.Outcome.next u.finish) effect
    have place (start : BitVec 32) (k : Nat) : placed start k ((x.record d n).place d start k) := by
      refine ⟨rfl, fun i hi => ?_⟩
      rw [BrakeChannel.place_slots length d n start k i hi]
      rcases d with q | _ | _ <;> rfl
    have placedLength (start : BitVec 32) (k : Nat) : ((x.record d n).place d start k).slots.length = 64 :=
      (placeFrom_length ..).trans length
    refine ⟨fun absolute => ?_, fun next relative low high => ?_, fun next relative outside => ?_⟩
    · refine ⟨_, place (n + 4#32) 32, placedLength .., ?_⟩
      rcases BrakeChannel.write_cases d n x with ⟨_, ok, e⟩ | ⟨_, a, _⟩ | ⟨_, a, _⟩
      · rw [run, ok, e]
        rfl
      · cases absolute.symm.trans a
      · cases absolute.symm.trans a
    · refine ⟨_, place next (min 32 (64 - (next - n).toNat)), placedLength .., ?_⟩
      rcases BrakeChannel.write_cases d n x with ⟨a, _⟩ | ⟨next', a, _, _, ok, e⟩ | ⟨next', a, out, _⟩
      · cases relative.symm.trans a
      · cases relative.symm.trans a
        have count : (slotDistance next n).toNat = (next - n).toNat := by
          unfold slotDistance
          rw [BitVec.toInt_eq_toNat_cond] at low ⊢
          split at low <;> simp_all <;> omega
        rw [run, ok, e, count]
        rfl
      · cases relative.symm.trans a
        exact absurd ⟨low, high⟩ out
    · intro y releases
      rcases BrakeChannel.write_cases d n x with ⟨a, _⟩ | ⟨next', a, low, high, _⟩ | ⟨next', a, _, fault, e⟩
      · cases relative.symm.trans a
      · cases relative.symm.trans a
        rcases outside with outside | outside
        · exact absurd low (Int.not_le.2 outside)
        · exact absurd high (Int.not_le.2 outside)
      · have written : x.write d n = y := e
        refine ⟨fun no => ?_, fun yes => ?_⟩
        · rw [run, fault, written, Bool.eq_false_iff.2 fun r => no ((Demand.releases_iff d).1 r)]
          rfl
        · rw [run, fault, written, (Demand.releases_iff d).2 yes]
          rfl
  · have stays : (s.advance t).patternWrite c = s.advance t := by
      rw [State.patternWrite, State.advance_sup, none]
    exact congrArg (fun u : State => Host.Outcome.next u.finish) stays
  · refine congrArg (fun x => Host.Outcome.next (State.finish
      { s.advance t with brake := s.brake.setChannel c x })) (if_pos (decide_eq_true idle))
  · have stays : (s.advance t).idleChannel c = s.advance t := by
      have same : (s.brake.channel c).idleAt s.brake.slotNumber = s.brake.channel c :=
        if_neg fun idle => absurd (of_decide_eq_true idle) (Int.not_lt.2 busy)
      refine (congrArg (fun x => { s.advance t with brake := s.brake.setChannel c x }) same).trans ?_
      rw [Brake.setChannel_channel]
      rfl
    exact congrArg (fun u : State => Host.Outcome.next u.finish) stays

end Sys2Proof.Machine
end

section
/-! The radio timeouts and the expiries of the route records (03 §3.5, §3.6, 04 §4.2 to §4.4). -/

namespace Sys2Proof.Machine

/-! ## The end of a command with an empty receive buffer -/

/-- The hand-over changes the transmitter and the waiting reply, and the report queue. -/
theorem State.grantTransmitter_link (s : State) :
    s.grantTransmitter.link =
      { s.link with tx := s.grantTransmitter.link.tx, waiting := s.grantTransmitter.link.waiting } := by
  rcases s.grantTransmitter_cases with h | ⟨r, _, _, h⟩ | ⟨r, rest, _, _, _, h⟩ <;> rw [h]

theorem State.grantTransmitter_entry (s : State) (k : AlertKind) :
    s.grantTransmitter.notice.entry k = s.notice.entry k := by
  rw [Notice.entry, State.grantTransmitter_alerts, Notice.entry]

/-- The hand-over after an effect that leaves the link. -/
theorem State.granted_eq {s u : State} (h : u.link = s.link) :
    u.grantTransmitter =
      { u with
        notice := u.grantTransmitter.notice
        link := { s.link with tx := u.grantTransmitter.link.tx, waiting := u.grantTransmitter.link.waiting } } := by
  rw [← h]
  conv_lhs => rw [State.grantTransmitter_frame, State.grantTransmitter_link]

/-! ## The radio state (R48, R50) -/

theorem State.ageReached_iff {s : State} (n : Nat) :
    s.ageReached n = true ↔ ∃ l, s.radio.lastGood = some l ∧ n ≤ Time.since s.clock.localMs l := by
  unfold State.ageReached State.radioAge
  cases s.radio.lastGood with
  | none => exact iff_of_false Bool.false_ne_true fun ⟨_, h, _⟩ => nomatch h
  | some l => simp

theorem State.freezeRadio_due {s : State} (ok : s.radio.state = .ok) (old : s.ageReached s.cfg.tFreeze = true) :
    s.freezeRadio = State.publishRadio { s with radio := { s.radio with state := .degraded } } := by
  simp only [State.freezeRadio, ok, old, if_true]

theorem State.freezeRadio_early {s : State} (h : s.radio.state ≠ .ok ∨ ¬s.ageReached s.cfg.tFreeze = true) :
    s.freezeRadio = s := by
  unfold State.freezeRadio
  split
  · rename_i ok
    exact if_neg (h.resolve_left (not_not.2 ok))
  · rfl

theorem State.loseRadio_due {s : State} (held : s.radio.state ≠ .lost) (old : s.ageReached s.cfg.tLost = true) :
    s.loseRadio = State.publishRadio { s with radio := { s.radio with state := .lost, unheard := false } } := by
  unfold State.loseRadio
  split
  · rename_i lost
    exact absurd lost held
  · exact if_pos old

theorem State.loseRadio_early {s : State} (h : s.radio.state = .lost ∨ ¬s.ageReached s.cfg.tLost = true) :
    s.loseRadio = s := by
  unfold State.loseRadio
  split
  · rfl
  · rename_i held
    exact if_neg (h.resolve_left held)

/-- What the framer gives its conditions after it has published them. -/
theorem State.publishRadio_shown {s : State} (h : s.notice.alerts.length = 21) :
    s.publishRadio.notice.entry .radioDegraded =
        (s.notice.entry .radioDegraded).follow (some (decide (s.radio.state = .degraded))) ∧
      s.publishRadio.notice.entry .radioLost =
        (s.notice.entry .radioLost).follow (some (decide (s.radio.state = .lost))) ∧
      s.publishRadio.notice.entry .valleyUnheard = (s.notice.entry .valleyUnheard).follow (some s.radio.unheard) ∧
      s.publishRadio.notice.entry .carrierBlank =
        (s.notice.entry .carrierBlank).follow (some (decide (s.radio.blankCount = 3))) :=
  ⟨State.publishRadio_entry s h _, State.publishRadio_entry s h _, State.publishRadio_entry s h _,
    State.publishRadio_entry s h _⟩

/-! ## Expiries (R64, R68, R75) -/

theorem expiryReached_iff (s : State) (e : Option Time) :
    expiryReached s.valleyNow e = true ↔
      ∃ o x, s.radio.offset = some o ∧ e = some x ∧ (s.clock.localMs + o - x).toNat < 2 ^ 31 := by
  unfold expiryReached State.valleyNow
  cases s.radio.offset <;> cases e <;> simp [Time.atOrAfter]

theorem State.expireAuthority_reached {s : State} {a : Authority} (ha : s.route.authority = some a)
    (reached : expiryReached s.valleyNow a.expiry = true) :
    s.expireAuthority = State.raise .authorityExpired { s with route := { s.route with authority := none } } := by
  simp only [State.expireAuthority, ha, reached, if_true]

theorem State.expireAuthority_stays {s : State}
    (h : ∀ a, s.route.authority = some a → expiryReached s.valleyNow a.expiry = false) : s.expireAuthority = s := by
  unfold State.expireAuthority
  split
  · rfl
  · rename_i a ha
    exact if_neg (Bool.eq_false_iff.1 (h a ha))

/-- The restriction entries whose expiry is not reached. -/
def State.keptRestrictions (s : State) : List Restriction :=
  s.route.restrictions.filter fun r => !expiryReached s.valleyNow r.expiry

theorem State.keptRestrictions_length_le (s : State) : s.keptRestrictions.length ≤ s.route.restrictions.length :=
  List.length_filter_le ..

theorem State.keptRestrictions_eq_iff {s : State} :
    s.keptRestrictions = s.route.restrictions ↔ s.route.restrictions.length - s.keptRestrictions.length = 0 := by
  have le := s.keptRestrictions_length_le
  constructor
  · intro h
    rw [h, Nat.sub_self]
  · intro h
    exact List.filter_sublist.eq_of_length_le (by rw [← State.keptRestrictions]; omega)

theorem State.expireRestrictions_stays {s : State} (h : s.keptRestrictions = s.route.restrictions) :
    s.expireRestrictions = s :=
  if_pos (State.keptRestrictions_eq_iff.1 h)

/-- The route records once the entries whose expiry is reached have left. -/
def State.agedRoute (s : State) : Route :=
  { s.route with
    restrictions := s.keptRestrictions
    cap := if s.keptRestrictions = s.route.restrictions then s.route.cap else none
    version := s.route.version + BitVec.ofNat 8 (s.route.restrictions.length - s.keptRestrictions.length) }

theorem State.expireRestrictions_leave {s : State} (h : s.keptRestrictions ≠ s.route.restrictions) :
    s.expireRestrictions = State.setCondition .restrictionCap false
      { s with
        route := { s.route with
          restrictions := s.keptRestrictions
          cap := none
          version := s.route.version + BitVec.ofNat 8 (s.route.restrictions.length - s.keptRestrictions.length) } } :=
  if_neg fun e => h (State.keptRestrictions_eq_iff.2 e)

theorem State.expireRestrictions_route (s : State) : s.expireRestrictions.route = s.agedRoute := by
  by_cases h : s.keptRestrictions = s.route.restrictions
  · rw [State.expireRestrictions_stays h, State.agedRoute, if_pos h, State.keptRestrictions_eq_iff.1 h, h]
    exact (congrArg (fun v => { s.route with version := v }) (BitVec.add_zero _)).symm
  · rw [State.expireRestrictions_leave h, State.agedRoute, if_neg h]
    rfl

theorem State.expireRestrictions_radio (s : State) : s.expireRestrictions.radio = s.radio := by
  by_cases h : s.keptRestrictions = s.route.restrictions
  · rw [State.expireRestrictions_stays h]
  · rw [State.expireRestrictions_leave h]
    rfl

theorem State.expireRestrictions_entry_other (s : State) {k : AlertKind} (hk : k ≠ .restrictionCap) :
    s.expireRestrictions.notice.entry k = s.notice.entry k := by
  by_cases h : s.keptRestrictions = s.route.restrictions
  · rw [State.expireRestrictions_stays h]
  · rw [State.expireRestrictions_leave h]
    exact Notice.setActive_entry_other _ _ _ hk

theorem State.expireAuthority_radio (s : State) : s.expireAuthority.radio = s.radio := by
  unfold State.expireAuthority
  (repeat' split) <;> rfl

theorem State.expireAuthority_clock (s : State) : s.expireAuthority.clock = s.clock := by
  unfold State.expireAuthority
  (repeat' split) <;> rfl

theorem State.expireAuthority_entry_other (s : State) {k : AlertKind} (hk : k ≠ .authorityExpired) :
    s.expireAuthority.notice.entry k = s.notice.entry k := by
  unfold State.expireAuthority
  split
  · rfl
  · split
    · exact Notice.latch_entry_other _ _ hk
    · rfl

theorem State.expireAuthority_length (s : State) :
    s.expireAuthority.notice.alerts.length = s.notice.alerts.length := by
  unfold State.expireAuthority
  split
  · rfl
  · split
    · exact Notice.latch_length ..
    · rfl

theorem State.expireAuthority_route (s : State) :
    s.expireAuthority.route =
      { s.route with authority := s.route.authority.filter fun a => !expiryReached s.valleyNow a.expiry } := by
  unfold State.expireAuthority
  cases ha : s.route.authority with
  | none => exact congrArg (fun a => { s.route with authority := a }) ha
  | some a =>
    dsimp only
    by_cases reached : expiryReached s.valleyNow a.expiry = true
    · rw [if_pos reached, Option.filter_some_neg (by simp [reached])]
      rfl
    · rw [if_neg reached, Option.filter_some_pos (by simp [reached])]
      exact congrArg (fun a => { s.route with authority := a }) ha

theorem State.ageRecords_radio (s : State) : s.ageRecords.radio = s.radio :=
  (State.expireRestrictions_radio _).trans s.expireAuthority_radio

/-- The test of the expiries touches the route records and the notices. -/
theorem State.ageRecords_framed (s : State) :
    s.ageRecords = { s with route := s.ageRecords.route, notice := s.ageRecords.notice } := by
  conv_lhs => rw [State.eq_of_outsideRadio s.ageRecords_keeps, State.ageRecords_radio]

/-- The test of the expiries touches two alert kinds. -/
theorem State.ageRecords_entry_other (s : State) {k : AlertKind} (ha : k ≠ .authorityExpired)
    (hr : k ≠ .restrictionCap) : s.ageRecords.notice.entry k = s.notice.entry k :=
  (State.expireRestrictions_entry_other _ hr).trans (s.expireAuthority_entry_other ha)

theorem State.expireAuthority_kept (s : State) : s.expireAuthority.keptRestrictions = s.keptRestrictions := by
  rw [State.keptRestrictions, State.keptRestrictions, State.expireAuthority_route, State.valleyNow,
    State.expireAuthority_radio, State.expireAuthority_clock, State.valleyNow]

theorem State.ageRecords_route (s : State) :
    s.ageRecords.route =
      { s.agedRoute with authority := s.route.authority.filter fun a => !expiryReached s.valleyNow a.expiry } := by
  rw [State.ageRecords, State.expireRestrictions_route, State.agedRoute, State.expireAuthority_kept,
    State.expireAuthority_route, State.agedRoute]

theorem State.publishRadio_length (s : State) : s.publishRadio.notice.alerts.length = s.notice.alerts.length := by
  simp only [State.publishRadio, State.setCondition, Notice.setActive_length]

/-- A radio state set, published, and the transmitter handed on. -/
theorem State.published_framed (s : State) (r : Radio) :
    (State.publishRadio { s with radio := r }).grantTransmitter =
      { s with
        radio := (State.publishRadio { s with radio := r }).grantTransmitter.radio
        notice := (State.publishRadio { s with radio := r }).grantTransmitter.notice
        link := { s.link with
          tx := (State.publishRadio { s with radio := r }).grantTransmitter.link.tx
          waiting := (State.publishRadio { s with radio := r }).grantTransmitter.link.waiting } } := by
  rw [State.grantTransmitter_radio]
  exact State.granted_eq (s := s) rfl

/-- Both ages reached in RADIO_OK: two moves, of which the second is RADIO_LOST. -/
theorem State.freezeRadio_loseRadio {s : State} (held : s.radio.state ≠ .lost) (old : s.ageReached s.cfg.tLost = true) :
    ∃ f : State, s.freezeRadio.loseRadio =
        State.publishRadio { f with radio := { s.radio with state := .lost, unheard := false } } ∧
      f.notice.alerts.length = s.notice.alerts.length ∧
      (s.radio.state = .degraded ∨ ¬s.ageReached s.cfg.tFreeze = true → f = s) := by
  by_cases early : s.radio.state ≠ .ok ∨ ¬s.ageReached s.cfg.tFreeze = true
  · exact ⟨s, by rw [State.freezeRadio_early early, State.loseRadio_due held old], rfl, fun _ => rfl⟩
  · obtain ⟨ok, due⟩ := not_or.1 early
    rw [not_not] at ok due
    refine ⟨_, ?_, State.publishRadio_length { s with radio := { s.radio with state := .degraded } }, fun h => ?_⟩
    · rw [State.freezeRadio_due ok due]
      exact State.loseRadio_due (s := State.publishRadio _) (fun h => RadioState.noConfusion h) old
    · rcases h with h | h
      · exact RadioState.noConfusion (ok.symm.trans h)
      · exact absurd due h

theorem State.publishRadio_entry_other (s : State) {k : AlertKind} (h : s.radio.shows k = none) :
    s.publishRadio.notice.entry k = s.notice.entry k := by
  have other (j : AlertKind) (hj : s.radio.shows j ≠ none) : k ≠ j := fun e => hj (e ▸ h)
  simp only [State.publishRadio, State.setCondition]
  rw [Notice.setActive_entry_other _ _ _ (other .carrierBlank (by simp [Radio.shows])),
    Notice.setActive_entry_other _ _ _ (other .valleyUnheard (by simp [Radio.shows])),
    Notice.setActive_entry_other _ _ _ (other .radioLost (by simp [Radio.shows])),
    Notice.setActive_entry_other _ _ _ (other .radioDegraded (by simp [Radio.shows]))]

/-- What the two ages leave: the radio state, the valley-unheard value, and the alerts of the framer. -/
structure State.AgedFrom (s v : State) : Prop where
  frame : v = { s with radio := { s.radio with state := v.radio.state, unheard := v.radio.unheard }, notice := v.notice }
  length : v.notice.alerts.length = s.notice.alerts.length
  other : ∀ k, s.radio.shows k = none → v.notice.entry k = s.notice.entry k

theorem Radio.shows_none_iff (r q : Radio) (k : AlertKind) : r.shows k = none ↔ q.shows k = none := by
  cases k <;> simp [Radio.shows]

theorem State.AgedFrom.refl (s : State) : s.AgedFrom s := ⟨rfl, rfl, fun _ _ => rfl⟩

theorem State.AgedFrom.trans {s v w : State} (a : s.AgedFrom v) (b : v.AgedFrom w) : s.AgedFrom w := by
  obtain ⟨fa, la, oa⟩ := a
  obtain ⟨fb, lb, ob⟩ := b
  refine ⟨?_, lb.trans la, fun k hk => (ob k ((Radio.shows_none_iff ..).1 hk)).trans (oa k hk)⟩
  conv_lhs => rw [fb, fa]

theorem State.agedFrom_publish (s : State) (x : RadioState) (b : Bool) :
    s.AgedFrom (State.publishRadio { s with radio := { s.radio with state := x, unheard := b } }) :=
  ⟨rfl, State.publishRadio_length _, fun _ hk =>
    State.publishRadio_entry_other { s with radio := { s.radio with state := x, unheard := b } }
      ((Radio.shows_none_iff ..).1 hk)⟩

theorem State.freezeRadio_agedFrom (s : State) : s.AgedFrom s.freezeRadio := by
  by_cases h : s.radio.state ≠ .ok ∨ ¬s.ageReached s.cfg.tFreeze = true
  · rw [State.freezeRadio_early h]
    exact .refl s
  · obtain ⟨ok, due⟩ := not_or.1 h
    rw [State.freezeRadio_due (not_not.1 ok) (not_not.1 due)]
    exact s.agedFrom_publish .degraded s.radio.unheard

theorem State.loseRadio_agedFrom (s : State) : s.AgedFrom s.loseRadio := by
  by_cases h : s.radio.state = .lost ∨ ¬s.ageReached s.cfg.tLost = true
  · rw [State.loseRadio_early h]
    exact .refl s
  · obtain ⟨held, due⟩ := not_or.1 h
    rw [State.loseRadio_due held (not_not.1 due)]
    exact s.agedFrom_publish .lost false

/-- Settles O41: the two ages, alone and at a new local ms. -/
theorem radioTimeoutsDegradeTheState : Obligations.RadioTimeoutsDegradeTheState := by
  intro t s empty old framed follows shown
  have oldFreeze : (s.advance t).ageReached s.cfg.tFreeze = true ↔ old s.cfg.tFreeze := State.ageReached_iff _
  have oldLost : (s.advance t).ageReached s.cfg.tLost = true ↔ old s.cfg.tLost := State.ageReached_iff _
  have shows {u : State} {r : Radio} (hr : u.radio = r)
      (entries : s.notice.alerts.length = 21 →
        ∀ k ∈ [AlertKind.radioDegraded, .radioLost, .valleyUnheard, .carrierBlank],
          u.notice.entry k = (s.notice.entry k).follow (r.shows k)) : shown u := by
    intro l
    rw [hr]
    exact ⟨entries l _ (by simp), entries l _ (by simp), entries l _ (by simp), entries l _ (by simp)⟩
  have published (r : Radio) : shown (State.publishRadio { s.advance t with radio := r }).grantTransmitter :=
    shows (State.grantTransmitter_radio _) fun l k _ =>
      (State.grantTransmitter_entry _ k).trans (State.publishRadio_entry { s.advance t with radio := r } l k)
  have run {f : State → State} {v : State} (hv : f (s.advance t) = v) (hb : v.link.buffer = []) :
      (s.run t f) = v.grantTransmitter := by
    rw [State.run, hv, State.finish_empty hb]
  have records (k : AlertKind) (hk : k ∈ [AlertKind.radioDegraded, .radioLost, .valleyUnheard, .carrierBlank])
      (v : State) : v.ageRecords.grantTransmitter.notice.entry k = v.notice.entry k := by
    refine (State.grantTransmitter_entry _ k).trans (State.ageRecords_entry_other v ?_ ?_) <;>
      (rintro rfl; simp at hk)
  have radio (v : State) : v.ageRecords.grantTransmitter.radio = v.radio :=
    (State.grantTransmitter_radio _).trans v.ageRecords_radio
  have aged (v : State) (hv : (s.advance t).freezeRadio.loseRadio = v) :
      exec (.localMsAdvance t) s = .next v.ageRecords.grantTransmitter := by
    have hb : v.link = s.link := by
      rw [← hv, State.eq_of_outsideRadio ((State.loseRadio_keeps _).trans (State.freezeRadio_keeps _))]
      rfl
    refine congrArg Host.Outcome.next (run (f := fun s => s.freezeRadio.loseRadio.ageRecords)
      (congrArg State.ageRecords hv) ?_)
    have link : v.ageRecords.link = v.link := by rw [State.eq_of_outsideRadio v.ageRecords_keeps]
    rw [link, hb, empty]
  refine ⟨fun ok due => ⟨_, congrArg Host.Outcome.next (run (State.freezeRadio_due ok (oldFreeze.2 due)) empty),
      State.published_framed _ _, State.grantTransmitter_radio _, published _⟩, fun early => ?_,
    fun held due => ⟨_, congrArg Host.Outcome.next (run (State.loseRadio_due held (oldLost.2 due)) empty),
      State.published_framed _ _, State.grantTransmitter_radio _, published _⟩, fun early => ?_, ?_⟩
  · exact congrArg (fun u : State => Host.Outcome.next u.finish)
      (State.freezeRadio_early (s := s.advance t) (early.imp id (mt oldFreeze.1)))
  · exact congrArg (fun u : State => Host.Outcome.next u.finish)
      (State.loseRadio_early (s := s.advance t) (early.imp id (mt oldLost.1)))
  · by_cases lost : s.radio.state ≠ .lost ∧ old s.cfg.tLost
    · obtain ⟨f, hf, length, single⟩ := State.freezeRadio_loseRadio (s := s.advance t) lost.1 (oldLost.2 lost.2)
      refine ⟨_, aged _ hf, fun _ _ => ⟨radio _, fun once => ?_, fun l => ?_⟩, fun _ no _ => absurd lost.2 no,
        fun h => absurd lost fun ⟨held, due⟩ => h.elim held fun ⟨no, _⟩ => no due⟩
      · rw [single (once.imp id (mt oldFreeze.1))]
        exact shows (radio _) fun l k hk => (records k hk _).trans (State.publishRadio_entry { s.advance t with
          radio := { s.radio with state := .lost, unheard := false } } l k)
      · have entry (k : AlertKind) (hk : k ∈ [AlertKind.radioDegraded, .radioLost, .valleyUnheard, .carrierBlank]) :=
          (records k hk _).trans (State.publishRadio_entry
            { f with radio := { s.radio with state := .lost, unheard := false } } (length.trans l) k)
        refine ⟨?_, ?_, ?_⟩
        · exact (congrArg AlertEntry.active (entry .radioDegraded (by simp))).trans (AlertEntry.follow_active _ _)
        · exact (congrArg AlertEntry.active (entry .radioLost (by simp))).trans (AlertEntry.follow_active _ _)
        · exact (congrArg AlertEntry.active (entry .valleyUnheard (by simp))).trans (AlertEntry.follow_active _ _)
    · by_cases freezes : s.radio.state = .ok ∧ old s.cfg.tFreeze
      · obtain ⟨ok, due⟩ := freezes
        have held : s.radio.state ≠ .lost := by rw [ok]; nofun
        have young : ¬old s.cfg.tLost := fun due => lost ⟨held, due⟩
        have frozen := State.freezeRadio_due (s := s.advance t) ok (oldFreeze.2 due)
        have stays : (s.advance t).freezeRadio.loseRadio =
            State.publishRadio { s.advance t with radio := { s.radio with state := .degraded } } := by
          rw [frozen]
          exact State.loseRadio_early (.inr fun due => young (oldLost.1 due))
        refine ⟨_, aged _ stays, fun _ due => absurd due young, fun _ _ _ => ⟨radio _, ?_⟩,
          fun h => absurd h fun h => h.elim held fun ⟨_, h⟩ => h.elim (absurd ok) (absurd due)⟩
        exact shows (radio _) fun l k hk => (records k hk _).trans (State.publishRadio_entry { s.advance t with
          radio := { s.radio with state := .degraded } } l k)
      · have noFreeze : s.radio.state ≠ .ok ∨ ¬old s.cfg.tFreeze := not_and_or.1 freezes
        have noLoss : s.radio.state = .lost ∨ ¬old s.cfg.tLost := (not_and_or.1 lost).imp not_not.1 id
        have stays : (s.advance t).freezeRadio.loseRadio = s.advance t := by
          rw [State.freezeRadio_early (s := s.advance t) (noFreeze.imp id (mt oldFreeze.1)),
            State.loseRadio_early (s := s.advance t) (noLoss.imp id (mt oldLost.1))]
        exact ⟨_, aged _ stays, fun held due => absurd ⟨held, due⟩ lost, fun ok _ due => absurd ⟨ok, due⟩ freezes,
          fun _ => ⟨radio _, fun k hk => records k hk _⟩⟩

/-- Settles O42: the two expiries alone, and both at a new local ms. -/
theorem reachedExpiriesRemoveRecords : Obligations.ReachedExpiriesRemoveRecords := by
  intro t s empty reached kept
  have keptIs : (s.advance t).keptRestrictions = kept := rfl
  refine ⟨expiryReached_iff (s.advance t), fun a ha due => ?_, fun none => ?_, fun all => ?_, fun some => ?_, ?_⟩
  · exact congrArg (fun u : State => Host.Outcome.next u.finish)
      (State.expireAuthority_reached (s := s.advance t) ha due)
  · refine congrArg (fun u : State => Host.Outcome.next u.finish)
      (State.expireAuthority_stays (s := s.advance t) fun a ha => ?_)
    rcases none with no | ⟨b, hb, stays⟩
    · cases no.symm.trans ha
    · cases hb.symm.trans ha
      exact stays
  · exact congrArg (fun u : State => Host.Outcome.next u.finish) (State.expireRestrictions_stays (s := s.advance t) all)
  · have leave := State.expireRestrictions_leave (s := s.advance t) some
    refine ⟨(s.advance t).expireRestrictions.grantTransmitter, congrArg Host.Outcome.next ?_, ?_,
      fun l => ⟨?_, fun k hk => ?_⟩⟩
    · exact State.finish_empty ((congrArg (fun u : State => u.link.buffer) leave).trans empty)
    · rw [leave]
      exact State.granted_eq (s := s.advance t) (u := State.setCondition .restrictionCap false _) rfl
    · rw [State.grantTransmitter_entry, leave]
      exact (congrArg AlertEntry.active (Notice.setActive_entry_self _ _ _ _ l)).trans (AlertEntry.follow_active _ _)
    · rw [State.grantTransmitter_entry]
      exact State.expireRestrictions_entry_other _ hk
  · obtain ⟨frame, length, other⟩ := (s.advance t).freezeRadio_agedFrom.trans (State.loseRadio_agedFrom _)
    generalize hv : (s.advance t).freezeRadio.loseRadio = v at frame length other
    have route : v.route = s.route := by rw [frame]; rfl
    have now : v.valleyNow = (s.advance t).valleyNow := by rw [frame]; rfl
    have keeps : v.keptRestrictions = kept := by rw [State.keptRestrictions, route, now]
    have run : exec (.localMsAdvance t) s = .next v.ageRecords.grantTransmitter := by
      have link : v.ageRecords.link = s.link := by
        rw [State.eq_of_outsideRadio v.ageRecords_keeps, frame]
        rfl
      refine congrArg Host.Outcome.next ((congrArg (fun u : State => u.ageRecords.finish) hv).trans ?_)
      exact State.finish_empty (by rw [link, empty])
    have entry (k : AlertKind) : v.ageRecords.grantTransmitter.notice.entry k = v.ageRecords.notice.entry k :=
      State.grantTransmitter_entry _ k
    have expired : v.ageRecords.notice.entry .authorityExpired = v.expireAuthority.notice.entry .authorityExpired :=
      State.expireRestrictions_entry_other _ (by decide)
    have stays {w : State} (h : v.expireAuthority = w) : v.ageRecords.grantTransmitter.notice.entry .authorityExpired =
        w.notice.entry .authorityExpired := by
      rw [entry, expired, h]
    have cap : v.expireAuthority.notice.entry .restrictionCap = s.notice.entry .restrictionCap :=
      (State.expireAuthority_entry_other v (by decide)).trans (other _ rfl)
    have all : v.expireAuthority.keptRestrictions = kept := (State.expireAuthority_kept v).trans keeps
    have list : v.expireAuthority.route.restrictions = s.route.restrictions := by
      rw [State.expireAuthority_route, route]
    refine ⟨_, run, ?_, fun l => ⟨fun ⟨a, ha, due⟩ => ?_, fun young => ?_, fun some => ?_, fun all' => ?_⟩⟩
    · have link : v.ageRecords.link = s.link := by
        rw [State.eq_of_outsideRadio v.ageRecords_keeps, frame]
        rfl
      have aged : v.ageRecords.route =
          { s.route with
            authority := s.route.authority.filter fun a => !reached a.expiry
            restrictions := kept
            cap := if kept = s.route.restrictions then s.route.cap else none
            version := s.route.version + BitVec.ofNat 8 (s.route.restrictions.length - kept.length) } := by
        rw [State.ageRecords_route, State.agedRoute, keeps, route, now]
      rw [State.grantTransmitter_radio, State.ageRecords_radio, ← aged]
      refine (State.granted_eq (s := s) link).trans ?_
      exact congrArg (fun w : State => { w with
        notice := v.ageRecords.grantTransmitter.notice
        link := { s.link with
          tx := v.ageRecords.grantTransmitter.link.tx, waiting := v.ageRecords.grantTransmitter.link.waiting } })
        (v.ageRecords_framed.trans (congrArg (fun w : State => { w with
          route := v.ageRecords.route, notice := v.ageRecords.notice }) frame))
    · have due : expiryReached v.valleyNow a.expiry = true := now ▸ due
      rw [stays (State.expireAuthority_reached (route ▸ ha) due)]
      exact (Notice.latch_entry_self _ _ _ (length.trans l)).trans (by rw [other .authorityExpired rfl]; rfl)
    · rw [stays (State.expireAuthority_stays fun a ha => now ▸ young a (route ▸ ha))]
      exact other .authorityExpired rfl
    · rw [entry, State.ageRecords, State.expireRestrictions_leave (by rw [all, list]; exact some)]
      refine (congrArg AlertEntry.active (Notice.setActive_entry_self _ _ _ _ ?_)).trans (AlertEntry.follow_active _ _)
      exact v.expireAuthority_length.trans (length.trans l)
    · rw [entry, State.ageRecords, State.expireRestrictions_stays (by rw [all, list]; exact all')]
      exact cap

end Sys2Proof.Machine
end

section
/-! Changes of leaves (08 §8.2): what one leaf put back and a run of leaves leave alone, and the reports they post. -/

namespace Sys2Proof.Machine

/-! ## One leaf put back -/

/-- The ENTRANCE report of a leaf whose record is replaced: one when its state changes (R145). -/
def leafReports (i : Fin 8) (old new : LeafRecord) : List ReportBody :=
  if new.state = old.state then [] else [.entrance i.val new.state new.cause]

theorem leafReports_length_le (i : Fin 8) (old new : LeafRecord) : (leafReports i old new).length ≤ 1 := by
  unfold leafReports
  split <;> simp

theorem Eight.set_get_self {α : Type} (x : Eight α) (i : Fin 8) : x.set i (x.get i) = x := by
  fin_cases i <;> rfl

theorem State.putLeaf_same (s : State) (i : Fin 8) : s.putLeaf i (s.ent.leaves.get i) = s := by
  unfold State.putLeaf
  rw [Eight.set_get_self]
  exact if_pos rfl

theorem State.putLeaf_eq (i : Fin 8) (r : LeafRecord) (s : State) :
    s.putLeaf i r =
      { s with
        ent := { s.ent with leaves := s.ent.leaves.set i r }
        notice := if r.state = (s.ent.leaves.get i).state then s.notice
          else s.notice.post s.clock.now (.entrance i.val r.state r.cause) } := by
  unfold State.putLeaf
  split_ifs <;> rfl

theorem State.putLeaf_alerts (i : Fin 8) (r : LeafRecord) (s : State) :
    (s.putLeaf i r).notice.alerts = s.notice.alerts := by
  rw [State.putLeaf_eq]
  dsimp only
  split_ifs
  · rfl
  · exact Notice.post_alerts ..

theorem State.putLeaf_bodies (i : Fin 8) (r : LeafRecord) {s : State} (h : s.notice.queue.length < 24) :
    (s.putLeaf i r).notice.bodies = s.notice.bodies ++ leafReports i (s.ent.leaves.get i) r := by
  rw [State.putLeaf_eq, leafReports]
  dsimp only
  split_ifs
  · exact (List.append_nil _).symm
  · exact Notice.post_bodies h ..

/-! ## Runs of leaf changes -/

/-- A state with its leaf records and its notices replaced. -/
def State.withLeaves (s : State) (x : Eight LeafRecord) (n : Notice) : State :=
  { s with ent := { s.ent with leaves := x }, notice := n }

/-- `u` is `s` with its leaves changed to `f` and the reports `b` posted. -/
structure State.LeavesTo (s u : State) (f : Fin 8 → LeafRecord) (b : List ReportBody) : Prop where
  frame : u = s.withLeaves u.ent.leaves u.notice
  leaves : ∀ i, u.ent.leaves.get i = f i
  alerts : u.notice.alerts = s.notice.alerts
  queue : s.notice.queue.length + b.length ≤ 24 → u.notice.bodies = s.notice.bodies ++ b

theorem Notice.bodies_length (n : Notice) : n.bodies.length = n.queue.length := List.length_map _

theorem State.LeavesTo.trans {s u v : State} {f g : Fin 8 → LeafRecord} {b c : List ReportBody}
    (h : s.LeavesTo u f b) (k : u.LeavesTo v g c) : s.LeavesTo v g (b ++ c) := by
  refine ⟨k.frame.trans (by rw [h.frame]; rfl), k.leaves, k.alerts.trans h.alerts, fun room => ?_⟩
  rw [List.length_append] at room
  have first := h.queue (by omega)
  have length : u.notice.queue.length = s.notice.queue.length + b.length := by
    rw [← Notice.bodies_length, first, List.length_append, Notice.bodies_length]
  rw [k.queue (by omega), first, List.append_assoc]

theorem State.LeavesTo.refl (s : State) : s.LeavesTo s s.ent.leaves.get [] :=
  ⟨rfl, fun _ => rfl, rfl, fun _ => (List.append_nil _).symm⟩

/-- One leaf put back. -/
theorem State.putLeaf_leavesTo (s : State) (i : Fin 8) (r : LeafRecord) :
    s.LeavesTo (s.putLeaf i r) (fun j => if j = i then r else s.ent.leaves.get j)
      (leafReports i (s.ent.leaves.get i) r) := by
  refine ⟨?_, fun j => ?_, State.putLeaf_alerts i r s, fun room => ?_⟩
  · rw [State.putLeaf_eq]
    rfl
  · rw [State.putLeaf_ent]
    dsimp only
    split_ifs with h
    · rw [h, Eight.get_set_self]
    · exact Eight.get_set_other _ _ _ _ h
  · by_cases full : s.notice.queue.length < 24
    · exact State.putLeaf_bodies i r full
    · have none : leafReports i (s.ent.leaves.get i) r = [] := List.eq_nil_of_length_eq_zero (by omega)
      have same : r.state = (s.ent.leaves.get i).state := by
        by_contra h
        rw [leafReports, if_neg h] at none
        exact List.cons_ne_nil _ _ none
      rw [none, List.append_nil, State.putLeaf_eq, if_pos same]

/-- A run over leaves, each changed by `F` with the reports `R`. -/
theorem State.leavesTo_foldl {s : State} {g : State → Fin 8 → State} {F : Fin 8 → LeafRecord → LeafRecord}
    {R : Fin 8 → LeafRecord → List ReportBody}
    (one : ∀ x n i, (s.withLeaves x n).LeavesTo (g (s.withLeaves x n) i)
      (fun j => if j = i then F i (x.get i) else x.get j) (R i (x.get i))) :
    ∀ {l : List (Fin 8)}, l.Nodup → ∀ x n, (s.withLeaves x n).LeavesTo (l.foldl g (s.withLeaves x n))
      (fun j => if j ∈ l then F j (x.get j) else x.get j) (l.flatMap fun i => R i (x.get i))
  | [], _, x, n => State.LeavesTo.refl (s.withLeaves x n)
  | i :: l, distinct, x, n => by
    obtain ⟨fresh, distinct⟩ := List.nodup_cons.1 distinct
    have first := one x n i
    obtain ⟨y, m, hu⟩ : ∃ y m, g (s.withLeaves x n) i = s.withLeaves y m :=
      ⟨_, _, first.frame.trans rfl⟩
    rw [List.foldl_cons, hu]
    rw [hu] at first
    have others (j : Fin 8) (h : j ≠ i) : y.get j = x.get j := (first.leaves j).trans (if_neg h)
    have rest := State.leavesTo_foldl one distinct y m
    have reports : (l.flatMap fun j => R j (y.get j)) = l.flatMap fun j => R j (x.get j) :=
      List.flatMap_congr fun j hj => by rw [others j fun e => fresh (e ▸ hj)]
    rw [reports] at rest
    refine ⟨(first.trans rest).frame, fun j => (rest.leaves j).trans ?_, (first.trans rest).alerts,
      (first.trans rest).queue⟩
    have self : y.get i = F i (x.get i) := (first.leaves i).trans (if_pos rfl)
    by_cases hj : j = i
    · subst hj
      rw [if_neg fresh, if_pos (List.mem_cons_self ..), self]
    · rw [others j hj]
      simp only [List.mem_cons, hj, false_or]

/-- The same from the state itself. -/
theorem State.leavesTo_foldl_self {s : State} {g : State → Fin 8 → State} {F : Fin 8 → LeafRecord → LeafRecord}
    {R : Fin 8 → LeafRecord → List ReportBody}
    (one : ∀ x n i, (s.withLeaves x n).LeavesTo (g (s.withLeaves x n) i)
      (fun j => if j = i then F i (x.get i) else x.get j) (R i (x.get i))) {l : List (Fin 8)} (distinct : l.Nodup) :
    s.LeavesTo (l.foldl g s) (fun j => if j ∈ l then F j (s.ent.leaves.get j) else s.ent.leaves.get j)
      (l.flatMap fun i => R i (s.ent.leaves.get i)) :=
  State.leavesTo_foldl one distinct s.ent.leaves s.notice

theorem Side.leaves_nodup (d : Side) : d.leaves.Nodup := by cases d <;> decide

theorem Side.mem_leaves (d : Side) (i : Fin 8) : i ∈ d.leaves ↔ leafSide i = d := by
  cases d <;> fin_cases i <;> decide

theorem Side.leaves_eq_filter (d : Side) :
    (([0, 1, 2, 3, 4, 5, 6, 7] : List (Fin 8)).filter fun i => decide (leafSide i = d)) = d.leaves := by
  cases d <;> decide

theorem Side.leaves_length (d : Side) : d.leaves.length = 4 := by cases d <;> rfl

/-- A change of each leaf of a side. -/
theorem State.changeLeaves_leavesTo (s : State) (d : Side) (f : LeafRecord → LeafRecord) :
    s.LeavesTo (s.changeLeaves d f)
      (fun i => if leafSide i = d then f (s.ent.leaves.get i) else s.ent.leaves.get i)
      (d.leaves.flatMap fun i => leafReports i (s.ent.leaves.get i) (f (s.ent.leaves.get i))) := by
  have run := State.leavesTo_foldl_self (s := s) (g := fun s i => s.putLeaf i (f (s.ent.leaves.get i))) (F := fun _ => f) (R := fun i r => leafReports i r (f r))
    (fun x n i => State.putLeaf_leavesTo (s.withLeaves x n) i (f (x.get i))) d.leaves_nodup
  simp only [Side.mem_leaves] at run
  exact run

theorem State.changeLeaves_reports_length_le (s : State) (d : Side) (f : LeafRecord → LeafRecord) :
    (d.leaves.flatMap fun i => leafReports i (s.ent.leaves.get i) (f (s.ent.leaves.get i))).length ≤ 4 := by
  rw [List.length_flatMap, ← d.leaves_length]
  refine (List.sum_le_card_nsmul _ 1 fun n hn => ?_).trans (by simp)
  obtain ⟨i, -, rfl⟩ := List.mem_map.1 hn
  exact leafReports_length_le ..

/-! ## The leaf timeouts (R146 to R152) -/

/-- A position above closed_tol is not sensed closed. -/
theorem LeafRecord.sensedClosed_above {r : LeafRecord} {tol p : Nat} (position : r.position = some p) (above : tol < p) :
    r.sensedClosed tol = false := by
  simp [LeafRecord.sensedClosed, position, above]

theorem LeafRecord.sensedClosed_within {r : LeafRecord} {tol p : Nat} (position : r.position = some p)
    (read : r.failed = 0) (within : p ≤ tol) : r.sensedClosed tol = true := by
  simp [LeafRecord.sensedClosed, position, read, within]

/-- The end of a stall window judges what the leaf has moved. -/
theorem LeafRecord.stallEnd_due {r : LeafRecord} {now : Time} {c : ConfigRecord} {start p : Nat} {since : Time}
    (state : r.state = .closing) (phase : r.phase = some .driving) (stall : r.stall = some (start, since))
    (position : r.position = some p) (read : r.failed = 0) (unshut : r.sensedClosed c.closedTol = false)
    (due : 200000 ≤ Time.since now since) :
    r.stallEnd now c =
      if (start : Int) - p < c.stallMin then r.obstacle now c.openCount else { r with stall := some (p, now) } := by
  unfold LeafRecord.stallEnd
  rw [stall, position]
  exact if_pos ⟨state, phase, read, unshut, due⟩

theorem LeafRecord.stallEnd_stays {r : LeafRecord} {now : Time} {c : ConfigRecord}
    (h : ∀ x p, r.stall = some x → r.position = some p →
      r.state ≠ .closing ∨ r.phase ≠ some .driving ∨ r.failed ≠ 0 ∨ r.sensedClosed c.closedTol = true ∨
        ¬200000 ≤ Time.since now x.2) : r.stallEnd now c = r := by
  unfold LeafRecord.stallEnd
  split
  · rename_i x since p hx hp
    refine if_neg fun ⟨a, b, read, unshut, due⟩ => ?_
    rcases h _ p hx hp with k | k | k | k | k
    exacts [k a, k b, k read, Bool.false_ne_true (unshut.symm.trans k), k due]
  · rfl

theorem LeafRecord.obstacle_few {r : LeafRecord} {now : Time} {openCount p : Nat} (few : r.attempts ≤ 1)
    (position : r.position = some p) :
    r.obstacle now openCount =
      { r.enter now .reopening (some .driving) with
        attempts := r.attempts + 1
        target := some (min (p + 300) (openCount - 20)) } := by
  have held : r.position.getD 0 = p := by rw [position, Option.getD_some]
  have n : min (r.attempts + 1) 3 = r.attempts + 1 := by omega
  unfold LeafRecord.obstacle
  rw [n, held]
  exact if_pos (by omega)

theorem LeafRecord.obstacle_third {r : LeafRecord} {now : Time} {openCount : Nat} (many : 2 ≤ r.attempts) :
    r.obstacle now openCount = { r.enter now .obstructed none with attempts := 3 } := by
  have n : min (r.attempts + 1) 3 = 3 := by omega
  unfold LeafRecord.obstacle
  rw [n]
  rfl

/-- Settles O46: each timeout is the rule of the leaf record, put back. -/
theorem leafTimeoutsMoveTheLeaf : Obligations.LeafTimeoutsMoveTheLeaf := by
  intro t i s empty r becomes since closing fault unlockDue lockDue warningDue pauseDue
  have moves {c : Instr} {f : State → LeafRecord} {x : LeafRecord} (hx : f (s.advance t) = x)
      (hc : exec c s = .next (s.run t fun s => s.putLeaf i (f s))) : becomes c x := by
    have put := State.putLeaf_eq i x (s.advance t)
    have buffer : ((s.advance t).putLeaf i x).link.buffer = [] := by
      rw [put]
      exact empty
    have run : exec c s = .next ((s.advance t).putLeaf i x).grantTransmitter := by
      rw [hc, State.run, hx, State.finish_empty buffer]
    refine ⟨_, run, ?_, ?_, fun busy room => ?_⟩
    · refine (State.granted_eq (s := s) (by rw [put]; rfl)).trans ?_
      exact congrArg (fun w : State => { w with
        notice := ((s.advance t).putLeaf i x).grantTransmitter.notice
        link := { s.link with
          tx := ((s.advance t).putLeaf i x).grantTransmitter.link.tx
          waiting := ((s.advance t).putLeaf i x).grantTransmitter.link.waiting } }) put
    · exact (State.grantTransmitter_alerts _).trans (State.putLeaf_alerts ..)
    · obtain ⟨frame, htx⟩ := Option.ne_none_iff_exists'.1 busy
      have tx : ((s.advance t).putLeaf i x).link.tx = some frame := by
        rw [put]
        exact htx
      rw [State.grantTransmitter_busy tx]
      exact State.putLeaf_bodies i x (s := s.advance t) room
  have stays {c : Instr} {f : State → LeafRecord} (hx : f (s.advance t) = r)
      (hc : exec c s = .next (s.run t fun s => s.putLeaf i (f s))) : exec c s = .next (s.advance t).finish := by
    rw [hc, State.run, hx]
    exact congrArg (fun u : State => Host.Outcome.next u.finish) ((s.advance t).putLeaf_same i)
  have elapsed (n : Nat) : r.elapsed t n = true ↔ n ≤ since := decide_eq_true_iff
  refine ⟨fun due => moves (f := fun s => (s.ent.leaves.get i).unlockTimeout s.clock.now) ?_ rfl,
    fun early => stays (f := fun s => (s.ent.leaves.get i).unlockTimeout s.clock.now) ?_ rfl,
    fun due => moves (f := fun s => (s.ent.leaves.get i).lockTimeout s.clock.now s.cfg.closedTol) ?_ rfl,
    fun early => stays (f := fun s => (s.ent.leaves.get i).lockTimeout s.clock.now s.cfg.closedTol) ?_ rfl,
    fun due => moves (f := fun s => (s.ent.leaves.get i).warningElapsed s.clock.now s.cfg.warningTime) ?_ rfl,
    fun early => stays (f := fun s => (s.ent.leaves.get i).warningElapsed s.clock.now s.cfg.warningTime) ?_ rfl,
    fun due => moves (f := fun s => (s.ent.leaves.get i).pauseElapsed s.clock.now) ?_ rfl,
    fun early => stays (f := fun s => (s.ent.leaves.get i).pauseElapsed s.clock.now) ?_ rfl,
    fun start since_ p state phase stall position read above => ?_, fun h => ?_⟩
  · exact if_pos ⟨due.1, due.2.1, (elapsed 500000).2 due.2.2⟩
  · exact if_neg fun ⟨a, b, c⟩ => early ⟨a, b, (elapsed 500000).1 c⟩
  · exact if_pos ⟨due.1, due.2.1, due.2.2.1, (elapsed 500000).2 due.2.2.2⟩
  · exact if_neg fun ⟨a, b, c, d⟩ => early ⟨a, b, c, (elapsed 500000).1 d⟩
  · exact if_pos ⟨due.1, (elapsed _).2 due.2⟩
  · exact if_neg fun ⟨a, b⟩ => early ⟨a, (elapsed _).1 b⟩
  · exact if_pos ⟨due.1, due.2.1, (elapsed 1000000).2 due.2.2⟩
  · exact if_neg fun ⟨a, b, c⟩ => early ⟨a, b, (elapsed 1000000).1 c⟩
  · have unshut : r.sensedClosed s.cfg.closedTol = false := LeafRecord.sensedClosed_above position above
    have judged (due : 200000 ≤ Time.since t since_) := LeafRecord.stallEnd_due (c := s.cfg) state phase stall position
      read unshut due
    refine ⟨fun due short few => ?_, fun due short many => ?_, fun due far => ?_, fun early => ?_⟩
    · refine moves (f := fun s => (s.ent.leaves.get i).stallEnd s.clock.now s.cfg) ?_ rfl
      exact (judged due).trans ((if_pos short).trans (LeafRecord.obstacle_few few position))
    · refine moves (f := fun s => (s.ent.leaves.get i).stallEnd s.clock.now s.cfg) ?_ rfl
      exact (judged due).trans ((if_pos short).trans (LeafRecord.obstacle_third many))
    · refine moves (f := fun s => (s.ent.leaves.get i).stallEnd s.clock.now s.cfg) ?_ rfl
      exact (judged due).trans (if_neg (Int.not_lt.2 far))
    · refine stays (f := fun s => (s.ent.leaves.get i).stallEnd s.clock.now s.cfg) ?_ rfl
      exact LeafRecord.stallEnd_stays fun a b ha hb => .inr (.inr (.inr (.inr (by
        cases stall.symm.trans ha
        exact Nat.not_le.2 early))))
  · refine stays (f := fun s => (s.ent.leaves.get i).stallEnd s.clock.now s.cfg) ?_ rfl
    refine LeafRecord.stallEnd_stays fun a b ha hb => ?_
    rcases h with h | h | h | h | h
    · exact .inl h
    · exact .inr (.inl h)
    · exact .inr (.inr (.inl h))
    · cases h.symm.trans ha
    · by_cases read : r.failed = 0
      · exact .inr (.inr (.inr (.inl (LeafRecord.sensedClosed_within hb read (h _ hb)))))
      · exact .inr (.inr (.inl read))

end Sys2Proof.Machine
end

section
/-! The requests on entrances (08 §8.6, §8.7, §8.10). -/

namespace Sys2Proof.Machine

/-! ## Side codes -/

theorem sideOf_code {side : Byte} (h : side.toNat ≤ 1) :
    sideOf side.toNat = some (if side = 0#8 then Side.left else .right) := by
  rcases Nat.le_one_iff_eq_zero_or_eq_one.1 h with h | h
  · rw [h, if_pos (BitVec.eq_of_toNat_eq h)]
    rfl
  · rw [h, if_neg fun e => by rw [e] at h; exact absurd h (by decide)]
    rfl

theorem sideOf_bad {side : Byte} (h : 2 ≤ side.toNat) : sideOf side.toNat = none := by
  obtain ⟨n, hn⟩ := Nat.exists_eq_add_of_le' h
  rw [hn]
  rfl

theorem Release.isGranted_iff (r : Release) : r.isGranted = true ↔ r = .granted := by
  cases r <;> simp [Release.isGranted]

/-! ## OPEN and CLOSE (R155, R156) -/

theorem State.movedBy_eq (d : Side) (f : LeafRecord → LeafRecord) (s : State) :
    s.movedBy d f =
      (d.leaves.filter fun i => decide ((f (s.ent.leaves.get i)).state ≠ (s.ent.leaves.get i).state)).length := by
  refine congrArg List.length (List.filter_congr fun i _ => ?_)
  exact decide_not.symm

theorem State.openSide_taken {s : State} {d : Side} (free : s.ent.takeover d = .none)
    (granted : s.ent.release d = .granted) :
    s.openSide d = (.done (.leaves (s.movedBy d (LeafRecord.commandOpen s.clock.now))),
      s.changeLeaves d (LeafRecord.commandOpen s.clock.now)) := by
  unfold State.openSide
  rw [if_neg (not_not.2 free), granted]
  rfl

theorem State.openSide_refused {s : State} {d : Side}
    (h : s.ent.takeover d ≠ .none ∨ s.ent.release d ≠ .granted) : s.openSide d = (.refusedState, s) := by
  unfold State.openSide
  by_cases free : s.ent.takeover d = .none
  · rw [if_neg (not_not.2 free)]
    exact if_neg (mt (Release.isGranted_iff _).1 (h.resolve_left (not_not.2 free)))
  · exact if_pos free

theorem State.closeSide_taken {s : State} {d : Side} (free : s.ent.takeover d = .none) :
    s.closeSide d = (.done (.leaves (s.movedBy d (LeafRecord.commandClose s.clock.now s.ent.closedTol))),
      s.changeLeaves d (LeafRecord.commandClose s.clock.now s.ent.closedTol)) :=
  if_neg (not_not.2 free)

/-- CLOSE on a leaf in FAULT whose latest read failed: it stays (R156). -/
theorem LeafRecord.commandClose_unread {r : LeafRecord} {now : Time} {tol : Nat} (pending : r.pending = false)
    (fault : r.state = .fault) (unread : r.failed ≠ 0) : r.commandClose now tol = { r with attempts := 0 } := by
  have stays : closeMove now tol { r with attempts := 0 } = { r with attempts := 0 } := by
    unfold closeMove
    dsimp only
    rw [fault]
    exact if_neg unread
  unfold commandClose
  rw [if_neg (Bool.eq_false_iff.1 pending)]
  dsimp only
  rw [stays]
  exact if_pos rfl

/-- CLOSE on a leaf in FAULT whose latest read succeeded: its sensors say where it goes (R156). -/
theorem LeafRecord.commandClose_fault {r : LeafRecord} {now : Time} {tol : Nat} (pending : r.pending = false)
    (fault : r.state = .fault) (read : r.failed = 0) :
    (r.commandClose now tol).state = if r.locked tol then .closed else .warning := by
  have move : closeMove now tol { r with attempts := 0 } =
      LeafRecord.enter now (if r.locked tol then .closed else .warning) none { r with attempts := 0 } := by
    unfold closeMove
    dsimp only
    rw [fault]
    exact if_pos read
  unfold commandClose
  rw [if_neg (Bool.eq_false_iff.1 pending)]
  dsimp only
  rw [move]
  split_ifs <;> rfl

/-- Settles O47: what each command is answered, the leaves of its side changed one by one, and the two tables. -/
theorem entranceCommandsMoveTheSide : Obligations.EntranceCommandsMoveTheSide := by
  intro t tag side s ready d moved
  have answer {c : Instr} {command : Byte} {res : Result} {u : State}
      (hc : requestFrame c = some (t, ⟨Request.entranceCommand.kind, tag, [side, command]⟩))
      (j : (s.advance t).entranceCommand side.toNat command.toNat = (res, u)) :
      exec c s = .next (u.replied 0x28 tag res) := by
    refine exec_perform (r := .entranceCommand) (p := [side, command]) hc ready rfl ?_
    rw [State.perform, leAt_single, leAt_second, j]
  have command (low : side.toNat ≤ 1) (n : Nat) :
      (s.advance t).entranceCommand side.toNat n =
        if n = 0 then (s.advance t).openSide d else if n = 1 then (s.advance t).closeSide d
        else (.badField 2, s.advance t) := by
    unfold State.entranceCommand
    rw [sideOf_code low]
  have bad (high : 2 ≤ side.toNat) (n : Nat) :
      (s.advance t).entranceCommand side.toNat n = (.badField 1, s.advance t) := by
    unfold State.entranceCommand
    rw [sideOf_bad high]
  have moves {c : Instr} {f : LeafRecord → LeafRecord}
      (h : exec c s = .next (State.replied 0x28 tag (.done (.leaves ((s.advance t).movedBy d f)))
        ((s.advance t).changeLeaves d f))) : moved c f := by
    have change := (s.advance t).changeLeaves_leavesTo d f
    have few := (s.advance t).changeLeaves_reports_length_le d f
    refine ⟨_, ?_, change.frame, change.leaves, change.alerts, fun room => ?_⟩
    · rw [h, State.movedBy_eq]
      rfl
    · rw [Side.leaves_eq_filter]
      exact change.queue (by have := room; exact Nat.add_le_add this few)
  refine ⟨fun low free granted => ?_, fun low h => ?_, fun low free => ?_, fun low h => ?_, fun high => ⟨?_, ?_⟩, ?_⟩
  · exact moves (answer (command := 0) rfl ((command low 0).trans (State.openSide_taken free granted)))
  · exact answer (command := 0) rfl ((command low 0).trans (State.openSide_refused h))
  · exact moves (answer (command := 1) rfl ((command low 1).trans (State.closeSide_taken free)))
  · exact answer (command := 1) rfl ((command low 1).trans (if_pos h))
  · exact answer (command := 0) rfl (bad high 0)
  · exact answer (command := 1) rfl (bad high 1)
  · rintro ⟨state, phase, position, pending, failed, proven, attempts, cause, mark, time, stall, target, motor, lock⟩ read
    dsimp only at read ⊢
    subst read
    refine ⟨?_, ?_, ?_, ?_, ?_, ?_, ?_, ?_, ?_, ?_, ?_, ?_⟩
    · rintro rfl
      exact ⟨rfl, rfl⟩
    · rintro (rfl | rfl) <;> exact ⟨rfl, rfl⟩
    · rintro rfl rfl
      exact ⟨rfl, rfl⟩
    · rintro rfl driving
      rcases phase with _ | _ | _ | _ | _ <;> first | exact ⟨rfl, rfl⟩ | exact absurd rfl driving
    · rintro rfl resting
      rcases phase with _ | _ | _ | _ | _ <;> first | rfl | exact absurd rfl resting
    · rintro rfl rfl
      rfl
    · rintro (rfl | rfl | rfl | rfl | rfl | rfl) <;> rfl
    · rintro (rfl | rfl | rfl | rfl) <;> exact ⟨rfl, rfl, rfl⟩
    · rintro (rfl | rfl | rfl | rfl | rfl) <;> rfl
    · rintro rfl
      exact ⟨rfl, rfl, rfl⟩
    · rintro rfl unread
      exact LeafRecord.commandClose_unread rfl rfl unread
    · rintro rfl rfl
      exact LeafRecord.commandClose_fault rfl rfl rfl

/-! ## Isolation and takeover (R157, R158, R162, R164) -/

/-- A leaf that its sensors put into a state (R158, R164). -/
def LeafRecord.returned (now : Time) (st : LeafState) (c : Option LeafCause) (lock : Lock) (r : LeafRecord) : LeafRecord :=
  { r with
    state := st, phase := none, stateTime := now, cause := c, attempts := 0, stall := none, target := none
    returnMark := if st = .closed then false else r.returnMark, motor := .off, lock := lock }

theorem LeafRecord.fromSensors_failed {r : LeafRecord} {now : Time} {tol : Nat} (h : r.failed = 3) :
    r.fromSensors now tol = r.returned now .fault (some .sensor) .engaged :=
  if_pos h

theorem LeafRecord.fromSensors_locked {r : LeafRecord} {now : Time} {tol : Nat} (h : r.failed ≠ 3)
    (locked : r.locked tol = true) : r.fromSensors now tol = r.returned now .closed none .engaged :=
  (if_neg h).trans (if_pos locked)

theorem LeafRecord.fromSensors_open {r : LeafRecord} {now : Time} {tol : Nat} (h : r.failed ≠ 3)
    (unlocked : r.locked tol = false) : r.fromSensors now tol = r.returned now .opened none .released :=
  (if_neg h).trans (if_neg (Bool.eq_false_iff.1 unlocked))

theorem LeafRecord.fromSensors_state_ne {r : LeafRecord} {now : Time} {tol : Nat} {st : LeafState}
    (h : st ≠ .fault ∧ st ≠ .closed ∧ st ≠ .opened) : (r.fromSensors now tol).state ≠ st := by
  obtain ⟨fault, closed, opened⟩ := h
  unfold LeafRecord.fromSensors
  dsimp only
  split_ifs
  exacts [fault.symm, closed.symm, opened.symm]

theorem LeafRecord.takeBack_manual {r : LeafRecord} {now : Time} {tol : Nat} {granted : Bool} (h : r.state = .manual) :
    r.takeBack now tol granted =
      if (r.fromSensors now tol).state = .opened then { r.fromSensors now tol with returnMark := !granted }
      else r.fromSensors now tol :=
  if_pos h

theorem LeafRecord.takeBack_other {r : LeafRecord} {now : Time} {tol : Nat} {granted : Bool} (h : r.state ≠ .manual) :
    r.takeBack now tol granted = r :=
  if_neg h

theorem LeafRecord.takeBack_state_ne {r : LeafRecord} {now : Time} {tol : Nat} {granted : Bool}
    (h : r.state = .manual) : (r.takeBack now tol granted).state ≠ .manual := by
  rw [LeafRecord.takeBack_manual h]
  split_ifs
  all_goals exact LeafRecord.fromSensors_state_ne (by decide)

/-- The report of a leaf that a side's return takes back. -/
theorem leafReports_takeBack (i : Fin 8) (r : LeafRecord) (now : Time) (tol : Nat) (granted : Bool) :
    leafReports i r (r.takeBack now tol granted) =
      if r.state = .manual then
        [.entrance i.val (r.takeBack now tol granted).state (r.takeBack now tol granted).cause]
      else [] := by
  unfold leafReports
  split_ifs with same manual manual
  · exact absurd (same.trans manual) (LeafRecord.takeBack_state_ne manual)
  · rfl
  · rfl
  · exact absurd (congrArg LeafRecord.state (LeafRecord.takeBack_other manual)) same

theorem Entrances.setTakeover_same {e : Entrances} {d : Side} {x : Takeover} (h : e.takeover d = x) :
    e.setTakeover d x = e := by
  subst h
  cases d <;> rfl

theorem State.requestTakeover_waits {s : State} {d : Side} (h : s.ent.takeover d ≠ .granted) :
    s.requestTakeover d = (.accepted, { s with ent := s.ent.setTakeover d .pending }) := by
  unfold State.requestTakeover
  split
  · rfl
  · rename_i pending
    rw [Entrances.setTakeover_same pending]
  · rename_i granted
    exact absurd granted h

theorem State.requestTakeover_granted {s : State} {d : Side} (h : s.ent.takeover d = .granted) :
    s.requestTakeover d = (.done .nothing, s) := by
  unfold State.requestTakeover
  rw [h]

theorem State.returnTakeover_none {s : State} {d : Side} (h : s.ent.takeover d = .none) :
    s.returnTakeover d = (.refusedState, s) := by
  unfold State.returnTakeover
  rw [h]

theorem State.returnTakeover_pending {s : State} {d : Side} (h : s.ent.takeover d = .pending) :
    s.returnTakeover d =
      (.done .nothing, State.post (.takeover d .none) { s with ent := s.ent.setTakeover d .none }) := by
  unfold State.returnTakeover
  rw [h]

/-- The leaves of a side taken back, and its takeover ended. -/
def State.tookBack (d : Side) (s : State) : State :=
  let x := s.changeLeaves d (LeafRecord.takeBack s.clock.now s.ent.closedTol (s.ent.release d).isGranted)
  State.post (.takeover d .none) { x with ent := x.ent.setTakeover d .none }

theorem flatMap_single {α β : Type} (p : α → Prop) [DecidablePred p] (f : α → β) (l : List α) :
    (l.flatMap fun i => if p i then [f i] else []) = (l.filter fun i => decide (p i)).map f := by
  induction l with
  | nil => rfl
  | cons i l ih =>
    rw [List.flatMap_cons, ih]
    by_cases h : p i <;> simp [h]

theorem State.tookBack_eq {s : State} {d : Side} {y : Eight LeafRecord} {n : Notice}
    (h : s.changeLeaves d (LeafRecord.takeBack s.clock.now s.ent.closedTol (s.ent.release d).isGranted) =
      s.withLeaves y n) :
    s.tookBack d =
      { s with
        ent := { s.ent.setTakeover d .none with leaves := y }
        notice := n.post s.clock.now (.takeover d .none) } := by
  unfold State.tookBack
  rw [h]
  cases d <;> rfl

/-- What a return leaves: the leaf records, the takeover ended, and the reports of both. -/
theorem State.tookBack_spec (d : Side) (s : State) :
    let taken := LeafRecord.takeBack s.clock.now s.ent.closedTol (s.ent.release d).isGranted
    s.tookBack d =
        { s with
          ent := { s.ent.setTakeover d .none with leaves := (s.tookBack d).ent.leaves }
          notice := (s.tookBack d).notice } ∧
      (∀ i, (s.tookBack d).ent.leaves.get i =
        if leafSide i = d then taken (s.ent.leaves.get i) else s.ent.leaves.get i) ∧
      (s.tookBack d).notice.alerts = s.notice.alerts ∧
      (s.notice.queue.length ≤ 19 → (s.tookBack d).notice.bodies =
        s.notice.bodies ++
          ((d.leaves.filter fun i => decide ((s.ent.leaves.get i).state = .manual)).map fun i =>
            .entrance i.val (taken (s.ent.leaves.get i)).state (taken (s.ent.leaves.get i)).cause) ++
          [.takeover d .none]) := by
  intro taken
  have change := s.changeLeaves_leavesTo d taken
  have few := s.changeLeaves_reports_length_le d taken
  have leaves : (s.tookBack d).ent.leaves = (s.changeLeaves d taken).ent.leaves := Entrances.setTakeover_leaves ..
  refine ⟨?_, fun i => ?_, ?_, fun room => ?_⟩
  · rw [State.tookBack_eq change.frame]
  · rw [leaves]
    exact change.leaves i
  · exact (Notice.post_alerts ..).trans change.alerts
  · have posted := change.queue (by omega)
    have length : (s.changeLeaves d taken).notice.queue.length < 24 := by
      rw [← Notice.bodies_length, posted, List.length_append, Notice.bodies_length]
      omega
    have reports : (d.leaves.flatMap fun i => leafReports i (s.ent.leaves.get i) (taken (s.ent.leaves.get i))) =
        (d.leaves.filter fun i => decide ((s.ent.leaves.get i).state = .manual)).map fun i =>
          .entrance i.val (taken (s.ent.leaves.get i)).state (taken (s.ent.leaves.get i)).cause := by
      rw [← flatMap_single (fun i => (s.ent.leaves.get i).state = .manual)]
      exact List.flatMap_congr fun i _ => leafReports_takeBack i ..
    refine (Notice.post_bodies length ..).trans ?_
    rw [posted, reports]

theorem State.returnTakeover_granted {s : State} {d : Side} (h : s.ent.takeover d = .granted) :
    s.returnTakeover d = (.done .nothing, s.tookBack d) := by
  unfold State.returnTakeover
  rw [h]
  rfl

/-- Settles O48: one leaf at a time for ENTRANCE ISOLATE, the leaves of a side for a takeover. -/
theorem isolationAndTakeover : Obligations.IsolationAndTakeover := by
  refine ⟨?_, fun t tag leaf s ready high => ⟨?_, ?_⟩, ?_, fun t tag side s ready high => ⟨?_, ?_⟩⟩
  · intro t tag leaf i s ready number r free becomes back
    have answer {c : Instr} {code : Byte} {res : Result} {u : State}
        (hc : requestFrame c = some (t, ⟨Request.entranceIsolate.kind, tag, [leaf, code]⟩))
        (j : (if code.toNat = 0 then (s.advance t).restoreLeaf i
          else if code.toNat = 1 then (s.advance t).isolateLeaf i else (.badField 2, s.advance t)) = (res, u)) :
        exec c s = .next (u.replied 0x29 tag res) := by
      refine exec_perform (r := .entranceIsolate) (p := [leaf, code]) hc ready rfl ?_
      rw [State.perform, leAt_single, leAt_second, number, ← j]
      exact dif_pos i.isLt
    have changed {c : Instr} {y : LeafRecord} (differs : y.state ≠ r.state)
        (h : exec c s = .next (State.replied 0x29 tag (.done .nothing) ((s.advance t).putLeaf i y))) : becomes c y := by
      refine ⟨_, h, ?_, State.putLeaf_alerts .., fun room => ?_⟩
      · rw [State.putLeaf_eq]
        rfl
      · refine (State.putLeaf_bodies i y (s := s.advance t) room).trans ?_
        exact congrArg (s.notice.bodies ++ ·) (if_neg differs)
    have restored (open_ : free) (isolated : r.state = .isolated) {y : LeafRecord}
        (hy : r.fromSensors t s.ent.closedTol = y) : becomes (.isolateOff t tag leaf) y := by
      refine changed ?_ (answer (code := 0) rfl ((if_neg (not_not.2 open_)).trans ((if_pos isolated).trans ?_)))
      · rw [← hy, isolated]
        exact LeafRecord.fromSensors_state_ne (by decide)
      · exact congrArg (fun y => (Result.done .nothing, (s.advance t).putLeaf i y)) hy
    refine ⟨fun open_ fresh shut => ?_, fun open_ isolated => ?_, fun h => ?_, fun open_ isolated failed => ?_,
      fun open_ isolated read locked => ?_, fun open_ isolated read unlocked => ?_, fun open_ fresh => ?_, fun held => ?_⟩
    · refine changed fresh.symm (answer (code := 1) rfl ?_)
      exact (if_neg (not_not.2 open_)).trans ((if_neg fresh).trans (if_pos shut))
    · exact answer (code := 1) rfl ((if_neg (not_not.2 open_)).trans (if_pos isolated))
    · refine answer (code := 1) rfl ?_
      rcases h with held | ⟨fresh, wide⟩
      · exact if_pos held
      · by_cases open_ : free
        · exact (if_neg (not_not.2 open_)).trans ((if_neg fresh).trans (if_neg (Bool.eq_false_iff.1 wide)))
        · exact if_pos open_
    · exact restored open_ isolated (LeafRecord.fromSensors_failed failed)
    · exact restored open_ isolated (LeafRecord.fromSensors_locked read locked)
    · exact restored open_ isolated (LeafRecord.fromSensors_open read unlocked)
    · exact answer (code := 0) rfl ((if_neg (not_not.2 open_)).trans (if_neg fresh))
    · exact answer (code := 0) rfl (if_pos held)
  · refine exec_perform (r := .entranceIsolate) (p := [leaf, 1]) rfl ready rfl ?_
    rw [State.perform, leAt_single]
    exact dif_neg (Nat.not_lt.2 high)
  · refine exec_perform (r := .entranceIsolate) (p := [leaf, 0]) rfl ready rfl ?_
    rw [State.perform, leAt_single]
    exact dif_neg (Nat.not_lt.2 high)
  · intro t tag side s ready low d
    have request {res : Result} {u : State} (j : (s.advance t).requestTakeover d = (res, u)) :
        exec (.takeoverRequest t tag side) s = .next (u.replied 0x2A tag res) := by
      refine exec_perform (r := .takeoverRequest) (p := [side]) rfl ready rfl ?_
      rw [State.perform, leAt_single, State.takeoverRequest, sideOf_code low, ← j]
    have giveBack {res : Result} {u : State} (j : (s.advance t).returnTakeover d = (res, u)) :
        exec (.takeoverReturn t tag side) s = .next (u.replied 0x2B tag res) := by
      refine exec_perform (r := .takeoverReturn) (p := [side]) rfl ready rfl ?_
      rw [State.perform, leAt_single, State.takeoverReturn, sideOf_code low, ← j]
    refine ⟨fun h => request (State.requestTakeover_waits h), fun h => request (State.requestTakeover_granted h),
      fun h => giveBack (State.returnTakeover_none h), fun h => giveBack (State.returnTakeover_pending h), fun h => ?_⟩
    obtain ⟨frame, leaves, alerts, bodies⟩ := State.tookBack_spec d (s.advance t)
    refine ⟨_, giveBack (State.returnTakeover_granted h), frame, fun i => ?_, alerts, fun room => ?_⟩
    · intro r y back
      refine ⟨fun h => ?_, fun side manual => ?_⟩
      · refine (leaves i).trans ?_
        split_ifs with side
        · exact LeafRecord.takeBack_other (h.resolve_left (not_not.2 side))
        · rfl
      · have taken : y = if (r.fromSensors t s.ent.closedTol).state = .opened then
            { r.fromSensors t s.ent.closedTol with returnMark := !(s.ent.release d).isGranted }
          else r.fromSensors t s.ent.closedTol :=
          (leaves i).trans ((if_pos side).trans (LeafRecord.takeBack_manual manual))
        refine ⟨fun failed => taken.trans ?_, fun read locked => taken.trans ?_, fun read unlocked => taken.trans ?_⟩
        · rw [LeafRecord.fromSensors_failed failed]
          rfl
        · rw [LeafRecord.fromSensors_locked read locked]
          rfl
        · rw [LeafRecord.fromSensors_open read unlocked]
          have mark : (!(s.ent.release d).isGranted) = decide (s.ent.release d ≠ .granted) := by
            cases s.ent.release d <;> rfl
          rw [mark]
          rfl
    · refine (bodies room).trans ?_
      have manual : (([0, 1, 2, 3, 4, 5, 6, 7] : List (Fin 8)).filter fun i =>
          decide (leafSide i = d ∧ (s.ent.leaves.get i).state = .manual)) =
          d.leaves.filter fun i => decide ((s.ent.leaves.get i).state = .manual) := by
        rw [← Side.leaves_eq_filter, List.filter_filter]
        exact List.filter_congr fun i _ => (Bool.decide_and ..).trans (Bool.and_comm ..)
      rw [manual]
      refine congrArg (s.notice.bodies ++ · ++ [ReportBody.takeover d .none]) (List.map_congr_left fun i hi => ?_)
      have side := (Side.mem_leaves d i).1 (List.mem_filter.1 hi).1
      rw [leaves i, if_pos side]
  · refine exec_perform (r := .takeoverRequest) (p := [side]) rfl ready rfl ?_
    rw [State.perform, leAt_single, State.takeoverRequest, sideOf_bad high]
  · refine exec_perform (r := .takeoverReturn) (p := [side]) rfl ready rfl ?_
    rw [State.perform, leAt_single, State.takeoverReturn, sideOf_bad high]

end Sys2Proof.Machine
end

section
/-! The odometry events that fall due, the lookups and the marker edge (01 §1.2 to §1.6, 02 §2.6). -/

namespace Sys2Proof.Machine

/-- The hand-over after an effect on the odometry and the notices. -/
theorem State.granted_odo {s u : State} (h : u = { s with odo := u.odo, notice := u.notice }) :
    u.grantTransmitter =
      { s with
        odo := u.grantTransmitter.odo
        notice := u.grantTransmitter.notice
        link := { s.link with tx := u.grantTransmitter.link.tx, waiting := u.grantTransmitter.link.waiting } } := by
  rw [State.grantTransmitter_odo]
  refine (State.granted_eq (s := s) (by rw [h])).trans ?_
  exact congrArg (fun w : State => { w with
    notice := u.grantTransmitter.notice
    link := { s.link with
      tx := u.grantTransmitter.link.tx, waiting := u.grantTransmitter.link.waiting } }) h

/-! ## The odometry events that fall due (R3, R4, R18) -/

theorem AlertEntry.follow_follow (e : AlertEntry) (b : Bool) : (e.follow (some b)).follow (some b) = e.follow (some b) := by
  cases b
  · simp [AlertEntry.follow]
  · simp only [AlertEntry.follow]
    split_ifs <;> simp_all

/-- The difference in mm that a span shows (R18). -/
def State.spanDiff (s : State) : Nat := ceilDiv (s.odo.span.pin - s.odo.span.whl).natAbs 1000

/-- The odometry after a span that disagrees (R18), before the tests of R11. -/
def State.disagreed (s : State) : Odometry :=
  { s.odo with
    disagree := true
    uncertainty := min (s.odo.uncertainty + s.spanDiff) 65535
    span := Span.zero }

theorem State.compareSpan_apart {s : State} (h : s.cfg.agreeTol < s.spanDiff) :
    s.compareSpan = State.degrade (State.setCondition .odometryDisagree true { s with odo := s.disagreed }) :=
  if_pos h

theorem State.compareSpan_close {s : State} (h : ¬s.cfg.agreeTol < s.spanDiff) :
    s.compareSpan = State.publishOdometry { s with odo := { s.odo with disagree := false, span := Span.zero } } :=
  if_neg h

theorem Odometry.degrade_eq (o : Odometry) (n : Nat) :
    o.degrade n =
      { o with
        localisation := if o.localisation = .localised ∧ (n ≤ o.uncertainty ∨ 2 ≤ o.missed) then .degraded
          else o.localisation } := by
  unfold Odometry.degrade
  split_ifs <;> rfl

theorem Odometry.degrade_disagree (o : Odometry) (n : Nat) : (o.degrade n).disagree = o.disagree := by
  unfold Odometry.degrade
  split <;> rfl

theorem State.compareSpan_odo_apart {s : State} (h : s.cfg.agreeTol < s.spanDiff) :
    s.compareSpan.odo = s.disagreed.degrade s.cfg.uMax := by
  rw [State.compareSpan_apart h]
  rfl

theorem State.compareSpan_odo_close {s : State} (h : ¬s.cfg.agreeTol < s.spanDiff) :
    s.compareSpan.odo = { s.odo with disagree := false, span := Span.zero } := by
  rw [State.compareSpan_close h]
  rfl

theorem State.compareSpan_disagree (s : State) : s.compareSpan.odo.disagree = decide (s.cfg.agreeTol < s.spanDiff) := by
  by_cases h : s.cfg.agreeTol < s.spanDiff
  · rw [State.compareSpan_odo_apart h, Odometry.degrade_disagree, decide_eq_true h]
    rfl
  · rw [State.compareSpan_odo_close h, decide_eq_false h]

theorem State.compareSpan_framed (s : State) :
    s.compareSpan = { s with odo := s.compareSpan.odo, notice := s.compareSpan.notice } := by
  by_cases h : s.cfg.agreeTol < s.spanDiff
  · rw [State.compareSpan_apart h]
    rfl
  · rw [State.compareSpan_close h]
    rfl

/-- The three conditions follow a comparison. -/
theorem State.compareSpan_entry {s : State} (l : s.notice.alerts.length = 21) (k : AlertKind) :
    s.compareSpan.notice.entry k = (s.notice.entry k).follow (s.compareSpan.odo.shows k) := by
  by_cases h : s.cfg.agreeTol < s.spanDiff
  · have disagree := (s.compareSpan_disagree).trans (decide_eq_true h)
    have odo := State.compareSpan_odo_apart h
    have length : (s.notice.setActive s.clock.now .odometryDisagree true).alerts.length = 21 := by
      rw [Notice.setActive_length, l]
    have published : s.compareSpan.notice.entry k =
        ((s.notice.setActive s.clock.now .odometryDisagree true).entry k).follow (s.compareSpan.odo.shows k) := by
      rw [odo, State.compareSpan_apart h]
      exact State.publishOdometry_entry (s := { s with
        odo := s.disagreed.degrade s.cfg.uMax
        notice := s.notice.setActive s.clock.now .odometryDisagree true }) length k
    by_cases hk : k = .odometryDisagree
    · subst hk
      rw [published, Notice.setActive_entry_self _ _ _ _ l, Odometry.shows_eq]
      dsimp only
      rw [disagree, AlertEntry.follow_follow]
    · rw [published, Notice.setActive_entry_other _ _ _ hk]
  · rw [State.compareSpan_close h]
    exact State.publishOdometry_entry (s := { s with odo := { s.odo with disagree := false, span := Span.zero } }) l k

theorem ringMark_eq (t : Time) (ring : List RingEntry) :
    ringMark t ring = ring.map fun e => ⟨e.time, e.dir, e.stale || decide (2000000 ≤ Time.since t e.time)⟩ := by
  refine List.map_congr_left fun e _ => ?_
  split_ifs with h
  · rw [decide_eq_true (show 2000000 ≤ Time.since t e.time from h), Bool.or_true]
  · rw [decide_eq_false (show ¬2000000 ≤ Time.since t e.time from h), Bool.or_false]

/-- Settles O23: each event by its operation, and the conditions of a comparison. -/
theorem dueOdometryEventsAct : Obligations.DueOdometryEventsAct := by
  intro t s
  refine ⟨?_, fun still moving => ?_, fun h => ?_, fun h => ?_, fun due empty => ?_⟩
  · intro mark
    have marked : (s.advance t).odo.markStale t =
        { s.odo with pinRing := s.odo.pinRing.map mark, whlRing := s.odo.whlRing.map mark } := by
      unfold Odometry.markStale
      rw [ringMark_eq, ringMark_eq]
      rfl
    exact congrArg (fun o => Host.Outcome.next (State.finish { s.advance t with odo := o })) marked
  · refine congrArg (fun u : State => Host.Outcome.next u.finish) ?_
    have verdict : (standsStill (s.advance t).clock.now (s.advance t).cfg (s.advance t).referenceRing &&
        !(s.advance t).odo.standstill) = true :=
      (Bool.and_eq_true _ _).mpr ⟨still, (congrArg (!·) moving).trans rfl⟩
    refine (if_pos verdict).trans ?_
    have direction : travelDir true s.sup.drive.selector s.referenceRing =
        (match s.sup.drive.selector, s.referenceRing.getLast? with
          | .up, _ => Dir.up
          | .down, _ => .down
          | .neutral, some e => e.dir
          | .neutral, none => .up) := by
      unfold travelDir
      cases s.sup.drive.selector
      · rfl
      · rfl
      · cases s.referenceRing.getLast? <;> rfl
    exact congrArg (fun d => { s.advance t with
      odo := { s.odo with speed := 0, standstill := true, movementUm := 0, direction := d } }) direction
  · refine congrArg (fun u : State => Host.Outcome.next u.finish) (if_neg fun both => ?_)
    obtain ⟨still, moving⟩ := (Bool.and_eq_true _ _).mp both
    rcases h with h | h
    · exact Bool.false_ne_true (h.symm.trans still)
    · exact absurd ((Bool.not_eq_true' _).mp moving) (Bool.not_eq_false _ ▸ h)
  · exact congrArg (fun u : State => Host.Outcome.next u.finish)
      (if_neg (mt of_decide_eq_true (Nat.not_le.2 h)))
  · intro diff
    have run : exec (.agreementSpanComplete t) s = .next (s.advance t).compareSpan.grantTransmitter := by
      have effect : (if (s.advance t).spanComplete then (s.advance t).compareSpan else s.advance t) =
          (s.advance t).compareSpan := if_pos (decide_eq_true due)
      refine congrArg Host.Outcome.next ((congrArg State.finish effect).trans (State.finish_empty ?_))
      rw [State.compareSpan_framed]
      exact empty
    refine ⟨_, run, ?_, fun apart => ?_, fun close => ?_, fun l => ⟨?_, fun k => ?_⟩⟩
    · exact State.granted_odo (s.advance t).compareSpan_framed
    · refine (State.grantTransmitter_odo _).trans ((State.compareSpan_odo_apart (s := s.advance t) apart).trans ?_)
      exact Odometry.degrade_eq _ _
    · exact (State.grantTransmitter_odo _).trans (State.compareSpan_odo_close (s := s.advance t) (Nat.not_lt.2 close))
    · have shown := (State.grantTransmitter_entry (s.advance t).compareSpan .odometryDisagree).trans
        (State.compareSpan_entry (s := s.advance t) l .odometryDisagree)
      rw [shown, Odometry.shows_eq]
      exact (AlertEntry.follow_active _ _).trans (State.compareSpan_disagree _)
    · rw [State.grantTransmitter_odo]
      exact (State.grantTransmitter_entry _ k).trans (State.compareSpan_entry (s := s.advance t) l k)

end Sys2Proof.Machine
end

section
/-! The lookups of the active bank (02 §2.6), and the marker edge that reads them (01 §1.5, §1.6). -/

namespace Sys2Proof.Machine

/-! ## The first of an ordered list -/

/-- In a list ordered by `f`, the first element with a property is the one with the least `f`. -/
theorem find?_ordered {α β : Type} [LinearOrder β] {f : α → β} {p : α → Bool} {l : List α}
    (ordered : l.Pairwise fun a b => f a < f b) {v : α} :
    l.find? p = some v ↔ v ∈ l ∧ p v = true ∧ ∀ w ∈ l, p w = true → f v ≤ f w := by
  induction l with
  | nil => exact iff_of_false nofun fun ⟨h, _⟩ => List.not_mem_nil h
  | cons a l ih =>
    obtain ⟨first, rest⟩ := List.pairwise_cons.1 ordered
    by_cases ha : p a = true
    · rw [List.find?_cons_of_pos ha, Option.some_inj]
      constructor
      · rintro rfl
        exact ⟨List.mem_cons_self, ha, List.forall_mem_cons.2 ⟨fun _ => le_rfl, fun w hw _ => (first w hw).le⟩⟩
      · rintro ⟨hv, -, least⟩
        rcases List.mem_cons.1 hv with rfl | hv
        · rfl
        · exact absurd (least a List.mem_cons_self ha) (not_le.2 (first v hv))
    · rw [List.find?_cons_of_neg ha, ih rest]
      constructor
      · rintro ⟨hv, hp, least⟩
        exact ⟨List.mem_cons_of_mem _ hv, hp, List.forall_mem_cons.2 ⟨fun h => absurd h ha, least⟩⟩
      · rintro ⟨hv, hp, least⟩
        rcases List.mem_cons.1 hv with rfl | hv
        · exact absurd hp ha
        · exact ⟨hv, hp, (List.forall_mem_cons.1 least).2⟩

/-- The last such element is the one with the greatest `f`. -/
theorem find?_reverse_ordered {α β : Type} [LinearOrder β] {f : α → β} {p : α → Bool} {l : List α}
    (ordered : l.Pairwise fun a b => f a < f b) {v : α} :
    l.reverse.find? p = some v ↔ v ∈ l ∧ p v = true ∧ ∀ w ∈ l, p w = true → f w ≤ f v := by
  have reversed : l.reverse.Pairwise fun a b => OrderDual.toDual (f a) < OrderDual.toDual (f b) :=
    List.pairwise_reverse.2 ordered
  rw [find?_ordered reversed]
  simp only [List.mem_reverse, OrderDual.toDual_le_toDual]

/-! ## The segments of a bank -/

/-- Where a segment ends: at the start of the next, the last at the line end (02 §2.2). -/
def stopBefore (lineEnd : Nat) : Option (Option Segment) → Nat
  | some (some g) => g.start
  | _ => lineEnd

/-- The view of the segment `g` at place `j` of a run of places. -/
def viewIn (lineEnd i : Nat) (l : List (Option Segment)) (j : Nat) (g : Segment) : SegView where
  index := i + j
  start := g.start
  stop := stopBefore lineEnd l[j + 1]?
  last := decide (l.length = j + 1)
  seg := g

theorem viewsFrom_cons_some (e i : Nat) (g : Segment) (l : List (Option Segment)) :
    viewsFrom e i (some g :: l) = viewIn e i (some g :: l) 0 g :: viewsFrom e (i + 1) l := by
  have next : viewIn e i (some g :: l) 0 g =
      { index := i, start := g.start, stop := match l with | some h :: _ => h.start | _ => e
        last := l.isEmpty, seg := g } := by
    rcases l with _ | ⟨_ | h, l⟩ <;> rfl
  rw [next]
  rfl

theorem viewIn_cons (e i : Nat) (x : Option Segment) (l : List (Option Segment)) (j : Nat) (g : Segment) :
    viewIn e i (x :: l) (j + 1) g = viewIn e (i + 1) l j g := by
  simp only [viewIn, List.getElem?_cons_succ, List.length_cons, Nat.add_right_cancel_iff, Nat.add_assoc, Nat.add_comm 1 j]

theorem mem_viewsFrom {e i : Nat} {l : List (Option Segment)} {v : SegView} :
    v ∈ viewsFrom e i l ↔ ∃ j g, l[j]? = some (some g) ∧ v = viewIn e i l j g := by
  induction l generalizing i with
  | nil => exact iff_of_false List.not_mem_nil fun ⟨_, _, h, _⟩ => by simp at h
  | cons x l ih =>
    have tail : (∃ j g, (x :: l)[j]? = some (some g) ∧ v = viewIn e i (x :: l) j g) ↔
        (∃ g, x = some g ∧ v = viewIn e i (x :: l) 0 g) ∨ v ∈ viewsFrom e (i + 1) l := by
      rw [ih]
      constructor
      · rintro ⟨_ | j, g, hg, hv⟩
        · exact .inl ⟨g, Option.some_inj.1 hg, hv⟩
        · exact .inr ⟨j, g, hg, hv.trans (viewIn_cons ..)⟩
      · rintro (⟨g, hg, hv⟩ | ⟨j, g, hg, hv⟩)
        · exact ⟨0, g, congrArg some hg, hv⟩
        · exact ⟨j + 1, g, hg, hv.trans (viewIn_cons ..).symm⟩
    rw [tail]
    cases x with
    | none => exact (or_iff_right fun ⟨_, h, _⟩ => nomatch h).symm
    | some g =>
      rw [viewsFrom_cons_some, List.mem_cons]
      refine or_congr ⟨fun h => ⟨g, rfl, h⟩, ?_⟩ Iff.rfl
      rintro ⟨k, hk, hv⟩
      cases hk
      exact hv

theorem le_index_of_mem_viewsFrom {e i : Nat} {l : List (Option Segment)} {v : SegView} (h : v ∈ viewsFrom e i l) :
    i ≤ v.index := by
  obtain ⟨j, g, -, rfl⟩ := mem_viewsFrom.1 h
  exact Nat.le_add_right i j

/-- The segments stand in the order of their indexes. -/
theorem viewsFrom_ordered (e i : Nat) (l : List (Option Segment)) :
    (viewsFrom e i l).Pairwise fun v w => v.index < w.index := by
  induction l generalizing i with
  | nil => exact .nil
  | cons x l ih =>
    cases x with
    | none => exact ih (i + 1)
    | some g =>
      rw [viewsFrom_cons_some, List.pairwise_cons]
      exact ⟨fun w hw => le_index_of_mem_viewsFrom hw, ih (i + 1)⟩

theorem State.views_ordered (s : State) : s.views.Pairwise fun v w => v.index < w.index := by
  unfold State.views Bank.views
  split
  · exact .nil
  · split
    · exact .nil
    · exact viewsFrom_ordered ..

theorem State.mem_views (s : State) (v : SegView) :
    v ∈ s.views ↔ ∃ b h, s.activeBank = some b ∧ b.header = some h ∧
      (b.places.take h.count)[v.index]? = some (some v.seg) ∧ v.start = v.seg.start ∧
      (v.last = true ↔ (b.places.take h.count).length = v.index + 1) ∧
      v.stop = stopBefore h.lineEnd (b.places.take h.count)[v.index + 1]? := by
  unfold State.views Bank.views
  cases hb : s.activeBank with
  | none => exact iff_of_false List.not_mem_nil fun ⟨_, _, h, _⟩ => nomatch h
  | some b =>
    dsimp only
    cases hh : b.header with
    | none =>
      refine iff_of_false List.not_mem_nil ?_
      rintro ⟨_, _, hc, h, _⟩
      cases hc
      exact nomatch hh.symm.trans h
    | some h =>
      dsimp only
      rw [mem_viewsFrom]
      constructor
      · rintro ⟨j, g, hg, rfl⟩
        refine ⟨b, h, rfl, hh, ?_⟩
        simp only [viewIn, Nat.zero_add]
        exact ⟨hg, trivial, decide_eq_true_iff, trivial⟩
      · rintro ⟨_, _, hc, hd, place, start, last, stop⟩
        cases hc
        cases hh.symm.trans hd
        refine ⟨v.index, v.seg, place, ?_⟩
        have flag : v.last = decide ((b.places.take h.count).length = v.index + 1) :=
          Bool.eq_iff_iff.2 (last.trans decide_eq_true_iff.symm)
        obtain ⟨index, _, _, _, seg⟩ := v
        simp only at start stop flag
        simp only [viewIn, Nat.zero_add, start, stop, flag]

/-! ## The segment at the pinion point and the expected marker -/

theorem State.lineEnd_eq (s : State) : s.lineEnd = (s.activeBank.bind Bank.header).map Header.lineEnd := by
  unfold State.lineEnd
  rcases s.activeBank with _ | b
  · rfl
  · dsimp only [Option.bind_some]
    cases b.header <;> rfl

/-- The point lookup gives the segment of the greatest index among those that start at or below the point (R32). -/
theorem State.segmentAt_eq_some_iff (s : State) (p : Int) (v : SegView) :
    s.segmentAt p = some v ↔ v ∈ s.views ∧ ∃ b h, s.activeBank = some b ∧ b.header = some h ∧
      v.start ≤ clampPoint h.lineEnd p ∧ ∀ w ∈ s.views, w.start ≤ clampPoint h.lineEnd p → w.index ≤ v.index := by
  unfold State.segmentAt
  rw [State.lineEnd_eq]
  cases hb : s.activeBank with
  | none => exact iff_of_false nofun fun ⟨_, _, _, h, _⟩ => nomatch h
  | some b =>
    dsimp only [Option.bind_some]
    cases hh : b.header with
    | none =>
      refine iff_of_false nofun ?_
      rintro ⟨_, _, _, hc, h, _⟩
      cases hc
      exact nomatch hh.symm.trans h
    | some h =>
      dsimp only [Option.map_some]
      rw [pointLookup, List.getLast?_filter, find?_reverse_ordered s.views_ordered]
      simp only [decide_eq_true_eq]
      constructor
      · rintro ⟨hv, start, greatest⟩
        exact ⟨hv, b, h, rfl, hh, start, greatest⟩
      · rintro ⟨hv, _, _, hc, hd, start, greatest⟩
        cases hc
        cases hh.symm.trans hd
        exact ⟨hv, start, greatest⟩

theorem State.pinionSegment_eq_some_iff (s : State) (v : SegView) :
    s.pinionSegment = some v ↔ s.odo.localisation ≠ .unlocalised ∧ s.segmentAt s.pinionPoint = some v := by
  unfold State.pinionSegment
  cases s.odo.localisation <;> simp

/-- The markers uphill stand in the order of their segments. -/
theorem State.markers_up_ordered (s : State) : (s.markers .up).Pairwise fun m n => m.segment < n.segment := by
  refine List.Pairwise.filterMap _ ?_ s.views_ordered
  intro v w less m hm n hn
  obtain ⟨_, _, rfl⟩ := Option.map_eq_some_iff.1 hm
  obtain ⟨_, _, rfl⟩ := Option.map_eq_some_iff.1 hn
  exact less

theorem State.mem_markers_up (s : State) (m : MarkerAt) :
    m ∈ s.markers .up ↔ ∃ v ∈ s.views, v.seg.marker = some m.toMarker ∧ m.segment = v.index := by
  unfold State.markers
  simp only [List.mem_filterMap, Option.map_eq_some_iff]
  refine exists_congr fun v => and_congr_right fun _ => ?_
  constructor
  · rintro ⟨n, hn, rfl⟩
    exact ⟨hn, rfl⟩
  · rintro ⟨hn, hs⟩
    exact ⟨_, hn, by rw [← hs]⟩

theorem State.markers_down (s : State) : s.markers .down = (s.markers .up).reverse := rfl

/-- May the reader point still meet a marker in a direction (R14)? -/
def State.mayMeet (s : State) (d : Dir) (m : Marker) : Bool :=
  markerAhead d s.readerPoint s.odo.uncertainty m && s.odo.lastPassed != some m.id

theorem State.expectedToward_up (s : State) (m : Marker) :
    s.expectedToward .up = some m ↔ ∃ v ∈ s.views, v.seg.marker = some m ∧ s.mayMeet .up m = true ∧
      ∀ w ∈ s.views, ∀ n, w.seg.marker = some n → s.mayMeet .up n = true → v.index ≤ w.index := by
  unfold State.expectedToward
  rw [Option.map_eq_some_iff]
  simp only [find?_ordered s.markers_up_ordered, State.mem_markers_up]
  constructor
  · rintro ⟨x, ⟨⟨v, hv, hx, place⟩, meets, least⟩, rfl⟩
    refine ⟨v, hv, hx, meets, fun w hw n hn may => ?_⟩
    rw [← place]
    exact least ⟨n, w.index⟩ ⟨w, hw, hn, rfl⟩ may
  · rintro ⟨v, hv, hm, meets, least⟩
    refine ⟨⟨m, v.index⟩, ⟨⟨v, hv, hm, rfl⟩, meets, ?_⟩, rfl⟩
    rintro y ⟨w, hw, hn, place⟩ may
    rw [place]
    exact least w hw _ hn may

theorem State.expectedToward_down (s : State) (m : Marker) :
    s.expectedToward .down = some m ↔ ∃ v ∈ s.views, v.seg.marker = some m ∧ s.mayMeet .down m = true ∧
      ∀ w ∈ s.views, ∀ n, w.seg.marker = some n → s.mayMeet .down n = true → w.index ≤ v.index := by
  unfold State.expectedToward
  rw [Option.map_eq_some_iff, State.markers_down]
  simp only [find?_reverse_ordered s.markers_up_ordered, State.mem_markers_up]
  constructor
  · rintro ⟨x, ⟨⟨v, hv, hx, place⟩, meets, greatest⟩, rfl⟩
    refine ⟨v, hv, hx, meets, fun w hw n hn may => ?_⟩
    rw [← place]
    exact greatest ⟨n, w.index⟩ ⟨w, hw, hn, rfl⟩ may
  · rintro ⟨v, hv, hm, meets, greatest⟩
    refine ⟨⟨m, v.index⟩, ⟨⟨v, hv, hm, rfl⟩, meets, ?_⟩, rfl⟩
    rintro y ⟨w, hw, hn, place⟩ may
    rw [place]
    exact greatest w hw _ hn may

/-! ## The marker edge (R13, R16) -/

theorem secondNewest_short {ring : List RingEntry} (h : ring.length ≤ 1) : secondNewest ring = none := by
  rcases ring with _ | ⟨_, _ | ⟨_, _⟩⟩
  · rfl
  · rfl
  · simp at h

theorem secondNewest_concat (older : List RingEntry) (b n : RingEntry) : secondNewest (older ++ [b, n]) = some b := by
  have split : older ++ [b, n] = (older ++ [b]) ++ [n] := by simp
  rw [secondNewest, split, List.dropLast_concat, List.getLast?_concat]

theorem State.markerEdge_ignored {s : State} (h : s.line.active = none ∨ s.odo.localisation = .unlocalised) :
    s.markerEdge = s := by
  unfold State.markerEdge
  rcases h with h | h
  · rw [h]
  · rw [h]
    cases s.line.active <;> rfl

theorem State.markerEdge_rejected {s : State} (active : s.line.active ≠ none) (held : s.odo.localisation ≠ .unlocalised)
    (pending : s.odo.capture ≠ none) : s.markerEdge = s.rejectEdge s.clock.now := by
  unfold State.markerEdge
  obtain ⟨n, hn⟩ := Option.ne_none_iff_exists'.1 active
  obtain ⟨k, hk⟩ := Option.ne_none_iff_exists'.1 pending
  rw [hn, hk]
  cases hl : s.odo.localisation
  · exact absurd hl held
  · rfl
  · rfl

theorem State.markerEdge_captured {s : State} (active : s.line.active ≠ none) (held : s.odo.localisation ≠ .unlocalised)
    (free : s.odo.capture = none) :
    s.markerEdge = { s with odo := { s.odo with capture := some (s.takeCapture s.clock.now) } } := by
  unfold State.markerEdge
  obtain ⟨n, hn⟩ := Option.ne_none_iff_exists'.1 active
  rw [hn, free]
  cases hl : s.odo.localisation
  · exact absurd hl held
  · rfl
  · rfl

/-- The travel interpolated at an edge (R13). -/
theorem interpolated_pair (len : Nat) (t : Time) (b n : RingEntry) :
    interpolated len t (some n) (some b) =
      if n.stale = true ∨ b.stale = true then 0
      else if n.time = b.time then len
      else min len (len * Time.since t n.time / Time.since n.time b.time) :=
  if_congr (Bool.or_eq_true ..).to_iff rfl rfl

theorem interpolated_none (len : Nat) (t : Time) (n : Option RingEntry) : interpolated len t n none = 0 := by
  cases n <;> rfl

/-- The markers that the reader point may still meet, in the words of R14. -/
theorem State.mayMeet_up (s : State) (m : Marker) :
    s.mayMeet .up m = true ↔ s.odo.lastPassed ≠ some m.id ∧
      (s.odo.position : Int) - s.cfg.readerOffset - ((m.window : Int) + s.odo.uncertainty) ≤ m.position := by
  unfold State.mayMeet
  rw [Bool.and_eq_true, bne_iff_ne, and_comm]
  exact and_congr_right fun _ => decide_eq_true_iff

theorem State.mayMeet_down (s : State) (m : Marker) :
    s.mayMeet .down m = true ↔ s.odo.lastPassed ≠ some m.id ∧
      (m.position : Int) ≤ (s.odo.position : Int) - s.cfg.readerOffset + ((m.window : Int) + s.odo.uncertainty) := by
  unfold State.mayMeet
  rw [Bool.and_eq_true, bne_iff_ne, and_comm]
  exact and_congr_right fun _ => decide_eq_true_iff

/-- Settles O24: the three outcomes of an edge, and the lookups as the least and the greatest of their candidates. -/
theorem markerEdgeIsCapturedOrRejected : Obligations.MarkerEdgeIsCapturedOrRejected := by
  refine ⟨fun t s length => ⟨fun h => ?_, fun active held pending => ?_, fun active held free => ?_⟩, ?_⟩
  · exact congrArg (fun u : State => Host.Outcome.next u.finish) (State.markerEdge_ignored (s := s.advance t) h)
  · refine congrArg (fun u : State => Host.Outcome.next u.finish)
      ((State.markerEdge_rejected (s := s.advance t) active held pending).trans ?_)
    exact congrArg (fun l => State.raise .markerUnexpected { s.advance t with odo := { s.odo with log := l } })
      (logPush_eq _ length)
  · intro len
    refine ⟨_, congrArg (fun u : State => Host.Outcome.next u.finish)
      (State.markerEdge_captured (s := s.advance t) active held free), rfl, rfl, rfl, ?_, rfl, rfl, rfl, rfl,
      fun short => ?_, fun older b n ring => ?_⟩
    · have reference : (s.advance t).reference = s.reference := rfl
      unfold State.takeCapture
      dsimp only
      rw [reference]
      cases s.reference <;> rfl
    · have before := secondNewest_short short
      refine ⟨before, ?_⟩
      exact (congrArg (interpolated _ t _) before).trans (interpolated_none ..)
    · have before : secondNewest s.referenceRing = some b := by rw [ring, secondNewest_concat]
      have newest : s.referenceRing.getLast? = some n := by
        rw [ring, List.getLast?_append_of_ne_nil _ (by simp)]
        rfl
      have travel : interpolated (incrementOf s.cfg s.reference) t s.referenceRing.getLast? (secondNewest s.referenceRing) =
          interpolated len t (some n) (some b) := by
        rw [before, newest]
        cases hr : s.reference <;> (simp only [len, hr]; rfl)
      exact ⟨before, travel.trans (interpolated_pair ..)⟩
  · intro s bank reader meets
    have bankIs : s.activeBank = bank := by
      rw [State.activeBank_eq]
      cases ha : s.line.active with
      | none => simp only [bank, ha, Option.map_none]
      | some n =>
        simp only [bank, ha, Option.map_some]
        cases n <;> rfl
    refine ⟨fun v => ?_, fun v => ?_, ?_, ?_, ?_, rfl, fun d m => ?_⟩
    · rw [State.mem_views, bankIs]
      refine exists_congr fun b => exists_congr fun h => and_congr_right fun _ => and_congr_right fun _ =>
        and_congr_right fun _ => and_congr_right fun _ => and_congr_right fun _ => ?_
      refine iff_of_eq (congrArg (v.stop = ·) ?_)
      rcases (b.places.take h.count)[v.index + 1]? with _ | _ | _ <;> rfl
    · rw [State.pinionSegment_eq_some_iff, State.segmentAt_eq_some_iff, bankIs]
      rfl
    · rw [State.reference_eq]
      cases s.pinionSegment with
      | none => simp
      | some v => by_cases hk : v.seg.kind = .rack <;> simp [hk]
    · unfold State.referenceRing
      cases s.reference <;> rfl
    · unfold State.markerDir
      cases s.referenceRing.getLast? <;> rfl
    · cases d with
      | up =>
        rw [State.expectedToward_up]
        simp only [State.mayMeet_up]
        rfl
      | down =>
        rw [State.expectedToward_down]
        simp only [State.mayMeet_down]
        rfl

end Sys2Proof.Machine
end

section
/-! SET POSITION (01 §1.10), and what a move of the pinion point does to the engagement check (01 §1.9). -/

namespace Sys2Proof.Machine

/-! ## A move of the pinion point other than by an increment (R18, R19) -/

/-- The engagement check once the pinion point stands in a segment: an ARMED one of another segment returns (R19). -/
def Engagement.settle (segment : Option Nat) (e : Engagement) : Engagement :=
  match e with
  | .armed i p q kept => if segment = some i then .armed i p q kept else Engagement.before (.armed i p q kept)
  | e => e

theorem Engagement.before_isUnproven (e : Engagement) : e.before.isUnproven = e.isUnproven := by
  rcases e with _ | ⟨_, _, _, _ | _⟩ | _ <;> rfl

theorem Engagement.settle_isUnproven (x : Option Nat) (e : Engagement) : (e.settle x).isUnproven = e.isUnproven := by
  rcases e with _ | ⟨i, p, q, k⟩ | _
  · rfl
  · dsimp only [Engagement.settle]
    split_ifs
    · rfl
    · exact Engagement.before_isUnproven _
  · rfl

theorem State.spanRuns_iff (s : State) : s.spanRuns = true ↔ ∃ v, s.pinionSegment = some v ∧ v.seg.kind = .rack := by
  unfold State.spanRuns
  cases s.pinionSegment with
  | none => exact iff_of_false Bool.false_ne_true fun ⟨_, h, _⟩ => nomatch h
  | some v => cases hk : v.seg.kind <;> simp [hk]

/-- The check stays as it is, or takes the value it had before it was armed. -/
theorem State.afterPlacement_eq (s : State) :
    s.afterPlacement =
      { s with
        odo := { s.odo with
          engagement := s.odo.engagement.settle (s.pinionSegment.map SegView.index)
          span := if s.spanRuns then s.odo.span else Span.zero } } := by
  have keep (h : s.odo.engagement.settle (s.pinionSegment.map SegView.index) = s.odo.engagement) :
      s = { s with odo := { s.odo with
        engagement := s.odo.engagement.settle (s.pinionSegment.map SegView.index) } } := by
    rw [h]
  have check : s.afterPlacement =
      let u := { s with odo := { s.odo with
        engagement := s.odo.engagement.settle (s.pinionSegment.map SegView.index) } }
      if u.spanRuns then u else u.dropSpan := by
    unfold State.afterPlacement
    dsimp only
    refine congrArg (fun u : State => if u.spanRuns then u else u.dropSpan) ?_
    split
    · rename_i i p q k v armed placed
      split_ifs with h
      · refine keep ?_
        rw [armed, placed]
        exact if_pos (congrArg some (beq_iff_eq.1 h).symm)
      · rw [armed, placed]
        have other : (Option.map SegView.index (some v)) ≠ some i := fun e =>
          h (beq_iff_eq.2 (Option.some_inj.1 e).symm)
        rw [Engagement.settle, if_neg other]
    · rename_i h
      rw [if_neg Bool.false_ne_true]
      have returned : s.odo.engagement.before = s.odo.engagement.settle (s.pinionSegment.map SegView.index) := by
        rcases he : s.odo.engagement with _ | ⟨i, p, q, k⟩ | k
        · rfl
        · cases hp : s.pinionSegment with
          | none => rfl
          | some v => exact absurd hp (h i p q k v he)
        · rfl
      rw [returned]
  rw [check]
  dsimp only
  have runs : State.spanRuns { s with odo := { s.odo with
      engagement := s.odo.engagement.settle (s.pinionSegment.map SegView.index) } } = s.spanRuns := rfl
  rw [runs]
  split_ifs <;> rfl

/-! ## SET POSITION (R21) -/

/-- The position record that SET POSITION leaves. -/
def Odometry.placed (position u uMax : Nat) (o : Odometry) : Odometry :=
  { o with
    position := position, remainder := 0, uncertainty := u, credit := 0, missed := 0, lastPassed := none
    lastAccepted := none, distance := 0, distanceRem := 0, capture := none, span := Span.zero
    localisation := localisedBy uMax u, lossFlag := false }

theorem setPosition_payload (position : BitVec 24) (u : BitVec 16) :
    let p := le 3 position.toNat ++ le 2 u.toNat
    leAt p 0 3 = position.toNat ∧ leAt p 3 2 = u.toNat := by
  intro p
  have fields := readFields_payload (ws := [3, 2]) (vs := [position.toNat, u.toNat]) (p := p)
    (by simp [p, fieldBytes, widths])
    (by
      have := position.isLt
      have := u.isLt
      simp only [FieldsFit, widths, List.map_cons, List.map_nil, List.forall₂_cons, List.Forall₂.nil, and_true]
      omega)
  simpa [widths, readFields] using fields

/-- The state that SET POSITION leaves before its conditions are set. -/
def State.placedCar (position u : Nat) (s : State) : State :=
  State.afterPlacement { s with odo := s.odo.placed position (max u s.cfg.markerAccuracy) s.cfg.uMax }

theorem State.placeCar_eq (position u : Nat) (s : State) :
    s.placeCar position u = (s.placedCar position u).publishOdometry := rfl

theorem State.placeCar_framed (position u : Nat) (s : State) :
    s.placeCar position u =
      { s with odo := (s.placeCar position u).odo, notice := (s.placeCar position u).notice } := by
  rw [State.placeCar_eq, State.placedCar, State.afterPlacement_eq]
  rfl

theorem State.placedCar_odo (position u : Nat) (s : State) :
    (s.placedCar position u).odo =
      { s.odo.placed position (max u s.cfg.markerAccuracy) s.cfg.uMax with
        engagement := s.odo.engagement.settle ((s.placedCar position u).pinionSegment.map SegView.index) } := by
  unfold State.placedCar
  rw [State.afterPlacement_eq]
  dsimp only
  split_ifs <;> rfl

theorem State.publishOdometry_pinionSegment (s : State) : s.publishOdometry.pinionSegment = s.pinionSegment := rfl

theorem State.placeCar_odo (position u : Nat) (s : State) :
    (s.placeCar position u).odo = (s.placedCar position u).odo := by
  rw [State.placeCar_eq, State.publishOdometry_odo]

theorem State.placeCar_pinionSegment (position u : Nat) (s : State) :
    (s.placeCar position u).pinionSegment = (s.placedCar position u).pinionSegment := by
  rw [State.placeCar_eq, State.publishOdometry_pinionSegment]

/-- The three conditions follow a SET POSITION. -/
theorem State.placeCar_entry {s : State} (l : s.notice.alerts.length = 21) (position u : Nat) (k : AlertKind) :
    (s.placeCar position u).notice.entry k = (s.notice.entry k).follow ((s.placeCar position u).odo.shows k) := by
  have notice : (s.placedCar position u).notice = s.notice := by
    rw [State.placedCar, State.afterPlacement_eq]
  rw [State.placeCar_odo, State.placeCar_eq, State.publishOdometry_entry _ (by rw [notice, l]), notice]

/-- Settles O26: the record placed, and the conditions after it. -/
theorem setPositionPlacesTheCar : Obligations.SetPositionPlacesTheCar := by
  intro t tag position u s ready mayPlace
  have answer {res : Result} {x : State} (j : (s.advance t).setPosition position.toNat u.toNat = (res, x)) :
      exec (.setPosition t tag position u) s = .next (x.replied 0x10 tag res) := by
    obtain ⟨h1, h2⟩ := setPosition_payload position u
    refine exec_perform (r := .setPosition) (p := le 3 position.toNat ++ le 2 u.toNat) rfl ready rfl ?_
    rw [State.perform, h1, h2, j]
  have taken {res : Result} {x : State} (may : mayPlace) {e : Nat} (he : s.lineEnd = some e)
      (j : (if e < position.toNat then (Result.badField 1, s.advance t)
        else (.done .nothing, (s.advance t).placeCar position.toNat u.toNat)) = (res, x)) :
      exec (.setPosition t tag position u) s = .next (x.replied 0x10 tag res) := by
    refine answer ((if_pos may).trans ?_)
    have line : (s.advance t).lineEnd = some e := he
    rw [line, ← j]
  refine ⟨fun e may he within => ?_, fun e may he beyond => taken may he (if_pos beyond), fun h => answer ?_⟩
  · have odo := State.placedCar_odo position.toNat u.toNat (s.advance t)
    refine ⟨_, taken may he (if_neg (Nat.not_lt.2 within)), ?_, ?_, ?_, fun l k => ?_⟩
    · exact (s.advance t).placeCar_framed position.toNat u.toNat
    · refine (State.placeCar_odo ..).trans (odo.trans ?_)
      rw [← State.placeCar_pinionSegment]
      have check : s.odo.engagement.settle
          (((s.advance t).placeCar position.toNat u.toNat).pinionSegment.map SegView.index) =
          (match s.odo.engagement with
            | .armed i p q kept =>
              if ((s.advance t).placeCar position.toNat u.toNat).pinionSegment.map SegView.index = some i then
                .armed i p q kept
              else
                match kept with
                | none => .idle
                | some k => .unproven k
            | e => e) := by
        rcases s.odo.engagement with _ | ⟨_, _, _, _ | _⟩ | _ <;> rfl
      exact congrArg (fun e => { s.odo.placed position.toNat (max u.toNat s.cfg.markerAccuracy) s.cfg.uMax with
        engagement := e }) check
    · rw [Odometry.shows_eq, Odometry.shows_eq]
      have kept := (congrArg (fun o : Odometry => o.engagement.isUnproven) odo).trans (Engagement.settle_isUnproven _ _)
      exact congrArg some kept
    · exact State.placeCar_entry (s := s.advance t) l _ _ k
  · by_cases may : mayPlace
    · have line : (s.advance t).lineEnd = none := h.resolve_left (not_not.2 may)
      refine (if_pos may).trans ?_
      rw [line]
    · exact if_neg may

end Sys2Proof.Machine
end

section
/-! CONFIGURE (10 §10.5): the checks as a list, and what a taken record touches beside the configuration. -/

namespace Sys2Proof.Machine

/-! ## The checks (R189) -/

/-- The range checks of fields numbered from `n`. -/
def rangeChecks : Nat → List (Nat × Nat × Nat) → List Nat → List (Nat × Bool)
  | n, (_, lo, hi) :: fs, v :: vs => (n, configFieldOk n v lo hi) :: rangeChecks (n + 1) fs vs
  | _, _, _ => []

/-- The cross checks, each with the field it names. -/
def crossChecks (c : ConfigRecord) : List (Nat × Bool) :=
  [(29, decide (c.mS < c.mE)), (20, decide (c.rSv ≤ c.rEm)), (37, decide (c.tFreeze < c.tLost)),
   (3, decide (c.pinionOffset ≤ c.carLength)), (4, decide (c.readerOffset ≤ c.carLength)),
   (34, decide (c.m < c.wSync)),
   (27, decide (ceilDiv (c.vCar * c.tR) 1000 + ceilDiv (c.vCar * c.vCar) (2 * c.aFloor) ≤ c.horizon))]

theorem configFirstBad_eq (n : Nat) (fs : List (Nat × Nat × Nat)) (vs : List Nat) :
    configFirstBad n fs vs = ((rangeChecks n fs vs).find? fun x => !x.2).map Prod.fst := by
  induction fs generalizing n vs with
  | nil => rfl
  | cons f fs ih =>
    cases vs with
    | nil => rfl
    | cons v vs =>
      rw [configFirstBad, rangeChecks, firstFailed_cons, ih]
      cases configFieldOk n v f.2.1 f.2.2 <;> rfl

theorem configCrossBad_eq (c : ConfigRecord) :
    configCrossBad c = ((crossChecks c).find? fun x => !x.2).map Prod.fst := by
  simp only [crossChecks, firstFailed_cons, List.find?_nil, Option.map_none]
  unfold configCrossBad
  simp only [Bool.not_eq_true']

theorem configBad_eq (c : ConfigRecord) :
    configBad c =
      ((rangeChecks 1 configFields (configValues c) ++ crossChecks c).find? fun x => !x.2).map Prod.fst := by
  rw [configBad, configFirstBad_eq, configCrossBad_eq, List.find?_append]
  cases (rangeChecks 1 configFields (configValues c)).find? fun x => !x.2 <;> rfl

/-! ## The radio state judged against new timeouts (R48, R190) -/

/-- One move at most: to RADIO_LOST, to RADIO_DEGRADED, or none. -/
theorem State.rejudgeRadio_cases (s : State) :
    (s.radio.state ≠ .lost ∧ s.ageReached s.cfg.tLost = true ∧
      s.rejudgeRadio = State.publishRadio { s with radio := { s.radio with state := .lost, unheard := false } }) ∨
    (s.radio.state = .ok ∧ ¬s.ageReached s.cfg.tLost = true ∧ s.ageReached s.cfg.tFreeze = true ∧
      s.rejudgeRadio = State.publishRadio { s with radio := { s.radio with state := .degraded } }) ∨
    ((s.radio.state = .lost ∨ ¬s.ageReached s.cfg.tLost = true) ∧
      (s.radio.state ≠ .ok ∨ ¬s.ageReached s.cfg.tFreeze = true) ∧ s.rejudgeRadio = s) := by
  unfold State.rejudgeRadio
  by_cases lost : s.radio.state = .lost ∨ ¬s.ageReached s.cfg.tLost = true
  · rw [State.loseRadio_early lost]
    by_cases held : s.radio.state ≠ .ok ∨ ¬s.ageReached s.cfg.tFreeze = true
    · exact .inr (.inr ⟨lost, held, State.freezeRadio_early held⟩)
    · obtain ⟨ok, due⟩ := not_or.1 held
      rw [not_not] at ok due
      refine .inr (.inl ⟨ok, lost.resolve_left (by rw [ok]; nofun), due, State.freezeRadio_due ok due⟩)
  · obtain ⟨held, due⟩ := not_or.1 lost
    rw [not_not] at due
    refine .inl ⟨held, due, ?_⟩
    rw [State.loseRadio_due held due]
    refine State.freezeRadio_early (.inl ?_)
    rw [State.publishRadio_radio]
    exact fun h => RadioState.noConfusion h

/-! ## What a taken record touches (R190, R198) -/

theorem dropsCapture_iff (old new : ConfigRecord) (ref : Counter) :
    dropsCapture old new ref = true ↔
      old.readerOffset ≠ new.readerOffset ∨
        (ref = .pinion ∧ (old.lPin ≠ new.lPin ∨ old.pinSign ≠ new.pinSign)) ∨
        (ref = .wheel ∧ (old.lWhl ≠ new.lWhl ∨ old.whlSign ≠ new.whlSign)) := by
  cases ref <;> simp [dropsCapture, incrementOf, signOf, or_assoc]

theorem restartsSpan_iff (old new : ConfigRecord) :
    restartsSpan old new = true ↔
      (old.lPin ≠ new.lPin ∨ old.pinSign ≠ new.pinSign) ∨ (old.lWhl ≠ new.lWhl ∨ old.whlSign ≠ new.whlSign) := by
  simp only [restartsSpan, Bool.or_eq_true, bne_iff_ne]
  tauto

theorem State.spanRuns_eq_reference (s : State) : s.spanRuns = true ↔ s.reference = .pinion := by
  rw [State.spanRuns_iff, State.reference_eq]
  cases s.pinionSegment with
  | none => simp
  | some v => by_cases hk : v.seg.kind = .rack <;> simp [hk]

/-- The state with a new record, its capture kept or dropped. -/
def State.recorded (c : ConfigRecord) (s : State) : State :=
  { s with
    cfg := c
    configured := true
    odo := { s.odo with capture := if dropsCapture s.cfg c s.reference then none else s.odo.capture } }

/-- The odometry after a record is taken. -/
def State.reconfiguredOdo (c : ConfigRecord) (s : State) : Odometry :=
  { (s.recorded c).odo with
    engagement := s.odo.engagement.settle ((s.recorded c).pinionSegment.map SegView.index)
    span :=
      if restartsSpan s.cfg c = true ∨ (s.recorded c).reference ≠ s.reference ∨ (s.recorded c).reference = .wheel then
        Span.zero
      else s.odo.span }

theorem State.takeConfig_eq (c : ConfigRecord) (s : State) :
    s.takeConfig c = (State.publishOdometry { s.recorded c with odo := s.reconfiguredOdo c }).rejudgeRadio := by
  have placed := State.afterPlacement_eq (s.recorded c)
  have reference : (s.recorded c).afterPlacement.reference = (s.recorded c).reference := by
    rw [placed]
    rfl
  have effect : s.takeConfig c =
      (State.publishOdometry (if restartsSpan s.cfg c || (s.recorded c).afterPlacement.reference != s.reference then
        (s.recorded c).afterPlacement.dropSpan else (s.recorded c).afterPlacement)).rejudgeRadio := rfl
  have span (restarted : Bool) :
      (if restarted = true then Span.zero else if (s.recorded c).spanRuns then s.odo.span else Span.zero) =
        if restarted = true ∨ (s.recorded c).reference = .wheel then Span.zero else s.odo.span := by
    cases restarted
    · by_cases runs : (s.recorded c).spanRuns = true
      · have rack := (State.spanRuns_eq_reference _).1 runs
        simp [runs, rack]
      · have wheel : (s.recorded c).reference = .wheel := by
          cases h : (s.recorded c).reference
          · exact absurd ((State.spanRuns_eq_reference _).2 h) runs
          · rfl
        simp [runs, wheel]
    · simp
  have dropped (restarted : Bool) (x : State) :
      (if restarted = true then x.dropSpan else x) =
        { x with odo := { x.odo with span := if restarted = true then Span.zero else x.odo.span } } := by
    cases restarted <;> rfl
  rw [effect, reference, dropped, placed]
  refine congrArg (fun p : Span => (State.publishOdometry { s.recorded c with
    odo := { (s.recorded c).odo with
      engagement := s.odo.engagement.settle ((s.recorded c).pinionSegment.map SegView.index)
      span := p } }).rejudgeRadio) ((span _).trans ?_)
  simp only [Bool.or_eq_true, bne_iff_ne, or_assoc]

theorem State.takeConfig_framed (c : ConfigRecord) (s : State) :
    s.takeConfig c =
      { s.recorded c with
        odo := s.reconfiguredOdo c, radio := (s.takeConfig c).radio, notice := (s.takeConfig c).notice } := by
  rw [State.takeConfig_eq]
  exact State.rejudgeRadio_frame _

theorem State.takeConfig_odo (c : ConfigRecord) (s : State) : (s.takeConfig c).odo = s.reconfiguredOdo c := by
  rw [State.takeConfig_framed]

theorem State.takeConfig_pinionSegment (c : ConfigRecord) (s : State) :
    (s.takeConfig c).pinionSegment = (s.recorded c).pinionSegment := by
  rw [State.takeConfig_framed]
  rfl

theorem State.takeConfig_reference (c : ConfigRecord) (s : State) :
    (s.takeConfig c).reference = (s.recorded c).reference := by
  rw [State.takeConfig_framed]
  rfl

/-- The state that a rejudged radio is left in, its unheard value, and the conditions of the framer where it moves. -/
theorem State.rejudgeRadio_spec (s : State) :
    s.rejudgeRadio.radio =
        { s.radio with state := s.rejudgeRadio.radio.state, unheard := s.rejudgeRadio.radio.unheard } ∧
      s.rejudgeRadio.radio.state =
        (if s.radio.state = .lost ∨ s.ageReached s.cfg.tLost = true then .lost
        else if s.radio.state = .ok ∧ s.ageReached s.cfg.tFreeze = true then .degraded
        else s.radio.state) ∧
      s.rejudgeRadio.radio.unheard =
        (if s.radio.state ≠ .lost ∧ s.ageReached s.cfg.tLost = true then false else s.radio.unheard) ∧
      (s.notice.alerts.length = 21 → ∀ k, s.rejudgeRadio.notice.entry k =
        (s.notice.entry k).follow
          (if s.rejudgeRadio.radio.state = s.radio.state then none else s.rejudgeRadio.radio.shows k)) := by
  rcases s.rejudgeRadio_cases with ⟨held, due, e⟩ | ⟨ok, early, due, e⟩ | ⟨held, ok, e⟩
  · rw [e, State.publishRadio_radio]
    refine ⟨rfl, (if_pos (.inr due)).symm, (if_pos ⟨held, due⟩).symm, fun l k => ?_⟩
    dsimp only
    rw [if_neg held.symm]
    exact State.publishRadio_entry { s with radio := { s.radio with state := .lost, unheard := false } } l k
  · have notLost : ¬s.radio.state = .lost := by rw [ok]; nofun
    rw [e, State.publishRadio_radio]
    refine ⟨rfl, ?_, (if_neg fun h => early h.2).symm, fun l k => ?_⟩
    · rw [if_neg (not_or.2 ⟨notLost, early⟩), if_pos ⟨ok, due⟩]
    · dsimp only
      rw [if_neg (by rw [ok]; nofun)]
      exact State.publishRadio_entry { s with radio := { s.radio with state := .degraded } } l k
  · rw [e]
    refine ⟨rfl, ?_, ?_, fun _ k => ?_⟩
    · by_cases lost : s.radio.state = .lost
      · rw [if_pos (.inl lost), lost]
      · rw [if_neg (not_or.2 ⟨lost, held.resolve_left lost⟩), if_neg fun h => ok.elim (· h.1) (· h.2)]
    · rw [if_neg fun h => held.elim h.1 (· h.2)]
    · rw [if_pos rfl, AlertEntry.follow_none]

theorem State.ageReached_eq_any (n : Nat) (s : State) :
    s.ageReached n = s.radio.lastGood.any fun l => decide (n ≤ Time.since s.clock.localMs l) := by
  unfold State.ageReached State.radioAge
  cases s.radio.lastGood <;> rfl

theorem State.publishOdometry_length (s : State) :
    s.publishOdometry.notice.alerts.length = s.notice.alerts.length := by
  simp only [State.publishOdometry, State.setCondition, Notice.setActive_length]

/-- Settles O49: the checks as one list, and a taken record through the Odometry Unit and the framer. -/
theorem configureReplacesTheRecord : Obligations.ConfigureReplacesTheRecord := by
  refine ⟨?_, fun c => ?_⟩
  · intro t tag record s ready fits mayTake
    have answer {res : Result} {x : State} (j : (s.advance t).configure record = (res, x)) :
        exec (.configure t tag record) s = .next (x.replied 0x39 tag res) := by
      refine exec_perform (r := .configure) (p := configBytes record) rfl ready rfl ?_
      rw [State.perform, configOfBytes_configBytes fits, j]
    have judged {res : Result} {x : State} (may : mayTake) (j : (match configBad record with
          | some n => (Result.badField n, s.advance t)
          | none => (.done .nothing, (s.advance t).takeConfig record)) = (res, x)) :
        exec (.configure t tag record) s = .next (x.replied 0x39 tag res) :=
      answer ((if_pos may).trans j)
    refine ⟨fun may good => ?_, fun n may bad => judged may (by rw [bad]), fun mayNot => answer (if_neg mayNot)⟩
    obtain ⟨radio, state, unheard, entries⟩ := State.rejudgeRadio_spec
      (State.publishOdometry { (s.advance t).recorded record with odo := (s.advance t).reconfiguredOdo record })
    rw [← State.takeConfig_eq] at radio state unheard entries
    refine ⟨_, judged may (by rw [good]), ?_, ?_, fun l k => ?_⟩
    · rw [State.takeConfig_odo]
      refine (State.takeConfig_framed record (s.advance t)).trans ?_
      exact congrArg (fun r => { (s.advance t).recorded record with
        odo := (s.advance t).reconfiguredOdo record, radio := r
        notice := ((s.advance t).takeConfig record).notice }) radio
    · intro pinion wheel old
      have age (n : Nat) : State.ageReached n (State.publishOdometry { (s.advance t).recorded record with
          odo := (s.advance t).reconfiguredOdo record }) = old n := State.ageReached_eq_any n _
      rw [State.takeConfig_odo, State.takeConfig_pinionSegment, State.takeConfig_reference]
      refine ⟨if_congr (dropsCapture_iff ..) rfl rfl, ?_, if_congr ?_ rfl rfl, ?_, ?_⟩
      · unfold State.reconfiguredOdo
        dsimp only
        rw [State.advance_odo]
        rcases s.odo.engagement with _ | ⟨_, _, _, _ | _⟩ | _ <;> rfl
      · rw [restartsSpan_iff, or_assoc]
        rfl
      · rw [state, age, age]
        rfl
      · rw [unheard, age]
        rfl
    · have published := State.publishOdometry_entry { (s.advance t).recorded record with
        odo := (s.advance t).reconfiguredOdo record } l k
      rw [entries ((State.publishOdometry_length _).trans l) k, published, State.takeConfig_odo]
      rfl
  · intro field checks
    rw [configBad_eq]
    refine congrArg (fun l : List (Nat × Bool) => (l.find? fun x => !x.2).map Prod.fst) ?_
    simp [rangeChecks, configFields, configValues, crossChecks, configFieldOk, checks, field, ceilDiv]
    rfl

end Sys2Proof.Machine
end

section
/-! RESTART (06 §6.8, 09 §9.7): the conditions that latch again after the clearing, and the blocks that it sets. -/

namespace Sys2Proof.Machine

/-! ## Conditions that latch after a clearing (R170, R180) -/

/-- The alert entries of a cleared set once the conditions of a list have latched. -/
def latchedAlerts (L : List AlertKind) : List AlertEntry :=
  AlertKind.all.map fun k => if k ∈ L then ⟨true, false, true, 1⟩ else AlertEntry.clear

/-- Their ALERT reports, the first with the gap mark (R178). -/
def latchedReports (number : BitVec 8) (t : Time) (drops : Nat) (L : List AlertKind) : List Report :=
  L.zipIdx.map fun y =>
    ⟨number + BitVec.ofNat 8 y.2, t, if y.2 = 0 then drops else 0,
      .alert y.1 .condition false (BitVec.ofNat 24 (((L.take (y.2 + 1)).map fun k => 2 ^ k.number).sum))⟩

/-- A cleared Alert Set once the conditions of a list have latched. -/
def Notice.relatched (n : Notice) (t : Time) (L : List AlertKind) : Notice :=
  { n with
    alerts := latchedAlerts L
    queue := n.queue ++ latchedReports n.nextNumber t n.drops L
    nextNumber := n.nextNumber + BitVec.ofNat 8 L.length
    drops := if L = [] then n.drops else 0 }

theorem Notice.resetClear_eq (n : Notice) (t : Time) : n.resetClear = n.relatched t [] := by
  simp only [Notice.resetClear, Notice.relatched, latchedReports, List.zipIdx_nil, List.map_nil, List.append_nil,
    List.length_nil, if_true, BitVec.add_zero]
  rfl

theorem latchedReports_concat (number : BitVec 8) (t : Time) (drops : Nat) (L : List AlertKind) (k : AlertKind) :
    latchedReports number t drops (L ++ [k]) =
      latchedReports number t drops L ++
        [⟨number + BitVec.ofNat 8 L.length, t, if L = [] then drops else 0,
          .alert k .condition false (BitVec.ofNat 24 (((L ++ [k]).map fun k => 2 ^ k.number).sum))⟩] := by
  unfold latchedReports
  rw [List.zipIdx_append, List.map_append]
  congr 1
  · refine List.map_congr_left fun y hy => ?_
    have place := (List.mem_zipIdx hy).2.1
    rw [List.take_append_of_le_length (by omega)]
  · simp [List.length_eq_zero_iff, List.take_of_length_le]

/-- The flags and the latched set of one more condition, over a list that does not hold it. -/
structure LatchesAfter (L : List AlertKind) (k : AlertKind) : Prop where
  cls : k.cls = .condition
  fresh : (latchedAlerts L).getD k.number AlertEntry.clear = AlertEntry.clear
  alerts : (latchedAlerts L).set k.number ⟨true, false, true, 1⟩ = latchedAlerts (L ++ [k])
  bits : latchedBits 1 (latchedAlerts (L ++ [k])) = ((L ++ [k]).map fun k => 2 ^ k.number).sum

theorem latchedReports_length (number : BitVec 8) (t : Time) (drops : Nat) (L : List AlertKind) :
    (latchedReports number t drops L).length = L.length := by
  rw [latchedReports, List.length_map, List.length_zipIdx]

/-- The first latching of an entry that has just been written. -/
theorem Notice.latch_new {n : Notice} {t : Time} {k : AlertKind} {e : AlertEntry} (l : n.alerts.length = 21)
    (h : e.latched = false) :
    (n.setEntry k e).latch t k =
      Notice.post t (.alert k k.cls e.forced
        (n.setEntry k { e with latched := true, count := min (e.count + 1) 255 }).latchedSet)
        (n.setEntry k { e with latched := true, count := min (e.count + 1) 255 }) := by
  have again (x : AlertEntry) : (n.setEntry k e).setEntry k x = n.setEntry k x := by
    simp only [Notice.setEntry, List.set_set]
  unfold Notice.latch
  dsimp only
  rw [Notice.entry_setEntry_self n k e l, again]
  exact if_neg (Bool.eq_false_iff.1 h)

theorem Notice.relatched_rise {n : Notice} {t : Time} {L : List AlertKind} {k : AlertKind} (h : LatchesAfter L k)
    (room : n.queue.length + L.length < 24) : (n.relatched t L).setActive t k true = n.relatched t (L ++ [k]) := by
  obtain ⟨cls, fresh, alerts, bits⟩ := h
  have entry : (n.relatched t L).entry k = AlertEntry.clear := fresh
  have rises : (n.relatched t L).setEntry k ⟨true, false, true, 1⟩ =
      { n.relatched t L with alerts := latchedAlerts (L ++ [k]) } :=
    congrArg (fun a => { n.relatched t L with alerts := a }) alerts
  have posts : (n.relatched t L).setActive t k true =
      Notice.post t (.alert k .condition false { n.relatched t L with alerts := latchedAlerts (L ++ [k]) }.latchedSet)
        { n.relatched t L with alerts := latchedAlerts (L ++ [k]) } := by
    rw [Notice.setActive_rise (by rw [entry]; rfl) (by rw [entry]; rfl), entry, Notice.latch_new rfl rfl, cls]
    exact congrArg (fun m : Notice => m.post t (.alert k .condition false m.latchedSet)) rises
  have full : (n.relatched t L).queue.length < 24 := by
    change (n.queue ++ latchedReports n.nextNumber t n.drops L).length < 24
    rw [List.length_append, latchedReports_length]
    exact room
  refine posts.trans ((Notice.post_joins (n := { n.relatched t L with alerts := latchedAlerts (L ++ [k]) }) full ..).trans ?_)
  rw [Notice.latchedSet, bits]
  have number : n.nextNumber + BitVec.ofNat 8 L.length + 1 = n.nextNumber + BitVec.ofNat 8 (L ++ [k]).length := by
    rw [List.length_append, List.length_singleton, BitVec.ofNat_add, BitVec.add_assoc]
    rfl
  simp only [Notice.relatched, latchedReports_concat, number, List.append_assoc, List.append_eq_nil_iff,
    List.cons_ne_nil, and_false, if_false]

theorem Notice.relatched_stays {n : Notice} {t : Time} {L : List AlertKind} {k : AlertKind}
    (fresh : (latchedAlerts L).getD k.number AlertEntry.clear = AlertEntry.clear) :
    (n.relatched t L).setActive t k false = n.relatched t L :=
  Notice.setActive_same (n := n.relatched t L) (b := false) (congrArg AlertEntry.active fresh) t

theorem Notice.relatched_follow {n : Notice} {t : Time} {L : List AlertKind} {k : AlertKind} (h : LatchesAfter L k)
    (room : n.queue.length + L.length < 24) (b : Bool) :
    (n.relatched t L).setActive t k b = n.relatched t (L ++ if b then [k] else []) := by
  cases b
  · rw [Notice.relatched_stays h.fresh]
    exact congrArg (n.relatched t) (List.append_nil L).symm
  · exact Notice.relatched_rise h room

/-! ## RESTART (R126, R192) -/

/-- The conditions that latch again at RESTART, the framer's before those of the Odometry Unit. -/
def restartLatching (degraded disagree unproven : Bool) : List AlertKind :=
  [.radioLost] ++ (if degraded then [.positionDegraded] else []) ++ (if disagree then [.odometryDisagree] else []) ++
    if unproven then [.engagementUnproven] else []

theorem restart_latchings (n : Notice) (t : Time) (degraded disagree unproven : Bool) (room : n.queue.length ≤ 20) :
    ((((((n.resetClear.setActive t .radioDegraded false).setActive t .radioLost true).setActive t .valleyUnheard
      false).setActive t .carrierBlank false).setActive t .positionDegraded degraded).setActive t .odometryDisagree
      disagree).setActive t .engagementUnproven unproven =
    n.relatched t (restartLatching degraded disagree unproven) := by
  rw [Notice.resetClear_eq n t, Notice.relatched_stays (by decide),
    Notice.relatched_rise ⟨by decide, by decide, by decide, by decide⟩ (Nat.lt_of_le_of_lt room (by decide)),
    Notice.relatched_stays (by decide), Notice.relatched_stays (by decide)]
  rw [Notice.relatched_follow ⟨by decide, by decide, by decide, by decide⟩
    (Nat.lt_of_le_of_lt (Nat.add_le_add_right room _) (by decide))]
  rw [Notice.relatched_follow (by cases degraded <;> exact ⟨by decide, by decide, by decide, by decide⟩)
    (Nat.lt_of_le_of_lt (Nat.add_le_add_right room _) (by cases degraded <;> decide))]
  rw [Notice.relatched_follow
    (by cases degraded <;> cases disagree <;> exact ⟨by decide, by decide, by decide, by decide⟩)
    (Nat.lt_of_le_of_lt (Nat.add_le_add_right room _) (by cases degraded <;> cases disagree <;> decide))]
  rfl

/-- The blocks that RESTART sets, before the owners evaluate. -/
def State.restartBlocks (s : State) : State :=
  { s with
    radio := s.radio.restarted, route := Route.powerOn, sup := s.sup.restarted, notice := s.notice.resetClear }

theorem State.setCondition_noticed {s u : State} (h : ∃ n, u = { s with notice := n }) (k : AlertKind) (b : Bool) :
    ∃ n, u.setCondition k b = { s with notice := n } := by
  obtain ⟨n, rfl⟩ := h
  exact ⟨_, rfl⟩

theorem State.publishRadio_noticed {s u : State} (h : ∃ n, u = { s with notice := n }) :
    ∃ n, u.publishRadio = { s with notice := n } :=
  State.setCondition_noticed (State.setCondition_noticed (State.setCondition_noticed
    (State.setCondition_noticed h ..) ..) ..) ..

theorem State.publishOdometry_noticed {s u : State} (h : ∃ n, u = { s with notice := n }) :
    ∃ n, u.publishOdometry = { s with notice := n } :=
  State.setCondition_noticed (State.setCondition_noticed (State.setCondition_noticed h ..) ..) ..

theorem State.evaluateOwners_framed (s : State) : s.evaluateOwners = { s with notice := s.evaluateOwners.notice } := by
  obtain ⟨n, h⟩ := State.publishOdometry_noticed (State.publishRadio_noticed (s := s) ⟨s.notice, rfl⟩)
  rw [State.evaluateOwners, h]

theorem State.publishRadio_notice (s : State) :
    s.publishRadio.notice =
      (((s.notice.setActive s.clock.now .radioDegraded (s.radio.state == .degraded)).setActive s.clock.now .radioLost
        (s.radio.state == .lost)).setActive s.clock.now .valleyUnheard s.radio.unheard).setActive s.clock.now
        .carrierBlank (s.radio.blankCount == 3) := rfl

theorem State.publishOdometry_notice (s : State) :
    s.publishOdometry.notice =
      ((s.notice.setActive s.clock.now .positionDegraded s.odo.isDegraded).setActive s.clock.now .odometryDisagree
        s.odo.disagree).setActive s.clock.now .engagementUnproven s.odo.engagement.isUnproven := rfl

theorem State.evaluateOwners_entry {s : State} (l : s.notice.alerts.length = 21) (k : AlertKind) :
    s.evaluateOwners.notice.entry k = ((s.notice.entry k).follow (s.radio.shows k)).follow (s.odo.shows k) := by
  rw [State.evaluateOwners, State.publishOdometry_entry _ ((State.publishRadio_length s).trans l),
    State.publishRadio_entry s l, State.publishRadio_odo]

/-- Every entry after RESTART: the conditions that hold are active, latched and counted once, all else is clear. -/
theorem State.restartAll_entry (s : State) (k : AlertKind) :
    s.restartAll.notice.entry k =
      (AlertEntry.clear.follow (s.radio.restarted.shows k)).follow (s.odo.shows k) := by
  have cleared : s.notice.resetClear.entry k = AlertEntry.clear := by
    unfold Notice.resetClear
    cases k <;> rfl
  rw [← cleared]
  exact State.evaluateOwners_entry (s := s.restartBlocks) rfl k

theorem State.restartAll_notice {s : State} (room : s.notice.queue.length ≤ 20) :
    s.restartAll.notice =
      s.notice.relatched s.clock.now
        (restartLatching s.odo.isDegraded s.odo.disagree s.odo.engagement.isUnproven) := by
  rw [← restart_latchings s.notice s.clock.now _ _ _ room]
  have radio : s.restartBlocks.publishRadio.notice =
      (((s.notice.resetClear.setActive s.clock.now .radioDegraded false).setActive s.clock.now .radioLost
        true).setActive s.clock.now .valleyUnheard false).setActive s.clock.now .carrierBlank false :=
    State.publishRadio_notice s.restartBlocks
  have odometry : s.restartAll.notice =
      ((s.restartBlocks.publishRadio.notice.setActive s.clock.now .positionDegraded s.odo.isDegraded).setActive
        s.clock.now .odometryDisagree s.odo.disagree).setActive s.clock.now .engagementUnproven
        s.odo.engagement.isUnproven :=
    State.publishOdometry_notice s.restartBlocks.publishRadio
  rw [odometry, radio]

/-- Settles O50: the blocks set, and the conditions that latch again. -/
theorem restartClearsTheRunningBlocks : Obligations.RestartClearsTheRunningBlocks := by
  intro t tag s ready mayTake
  have answer {res : Result} {x : State} (j : (s.advance t).restart = (res, x)) :
      exec (.restart t tag) s = .next (x.replied 0x3B tag res) :=
    exec_perform (r := .restart) (p := []) rfl ready rfl j
  refine ⟨fun may => ?_, fun mayNot => answer (if_neg mayNot)⟩
  have entry (k : AlertKind) := State.restartAll_entry (s.advance t) k
  have quiet (k : AlertKind) (h : s.radio.restarted.shows k = none ∨ s.radio.restarted.shows k = some false) :
      (s.advance t).restartAll.notice.entry k = AlertEntry.clear.follow (s.odo.shows k) := by
    refine (entry k).trans (congrArg (fun e : AlertEntry => e.follow (s.odo.shows k)) ?_)
    rcases h with h | h
    · exact congrArg AlertEntry.clear.follow h
    · exact congrArg AlertEntry.clear.follow h
  have framed : (s.advance t).restartAll =
      { (s.advance t).restartBlocks with notice := (s.advance t).restartAll.notice } :=
    State.evaluateOwners_framed (s.advance t).restartBlocks
  have sup : (s.advance t).restartAll.sup = s.sup.restarted := congrArg State.sup framed
  refine ⟨(s.advance t).restartAll, answer (if_pos may), by rw [sup]; exact framed, ?_, ⟨?_, ?_, ?_⟩, fun k h1 h2 h3 h4 => ?_, by rw [sup]; rfl, fun room => ?_⟩
  · exact entry .radioLost
  · refine (quiet .positionDegraded (.inl rfl)).trans ?_
    rw [Odometry.shows_eq]
    cases s.odo.isDegraded <;> rfl
  · refine (quiet .odometryDisagree (.inl rfl)).trans ?_
    rw [Odometry.shows_eq]
    cases s.odo.disagree <;> rfl
  · refine (quiet .engagementUnproven (.inl rfl)).trans ?_
    rw [Odometry.shows_eq]
    cases s.odo.engagement.isUnproven <;> rfl
  · refine (quiet k ?_).trans ?_
    · cases k <;> first | exact .inl rfl | exact .inr rfl | exact absurd rfl h1
    · rw [Odometry.shows_eq]
      cases k <;> first | rfl | contradiction
  · have notice := State.restartAll_notice (s := s.advance t) room
    rw [notice]
    exact ⟨rfl, rfl, rfl⟩

end Sys2Proof.Machine
end

section
/-! The uplink frame (03 §3.8): its fields by offset, the note characters, and the CRC over it. -/

namespace Sys2Proof.Machine

/-! ## Fields most significant byte first -/

theorem beAt_append (before after : List Byte) (n x : Nat) :
    beAt (before ++ (be n x ++ after)) before.length n = x % 256 ^ n := by
  have taken : (be n x ++ after).take n = be n x := by
    rw [List.take_append_of_le_length (be_length n x).ge, List.take_of_length_le (be_length n x).le]
  rw [beAt, slice, List.drop_left, taken, ofBe_be]

/-- The bytes of a run of fields, each an offset, a width and a value. -/
def bigBytes (l : List (Nat × Nat × Nat)) : List Byte := l.flatMap fun x => be x.2.1 x.2.2

/-- A field of a run is read at its offset, as far as it fits its width. -/
theorem beAt_bigBytes {l : List (Nat × Nat × Nat)} {before after : List Byte} (h : Contiguous before.length l) :
    ∀ x ∈ l, beAt (before ++ (bigBytes l ++ after)) x.1 x.2.1 = x.2.2 % 256 ^ x.2.1 := by
  induction l generalizing before with
  | nil => exact List.forall_mem_nil _
  | cons x l ih =>
    obtain ⟨offset, rest⟩ := h
    have bytes : bigBytes (x :: l) ++ after = be x.2.1 x.2.2 ++ (bigBytes l ++ after) := List.append_assoc ..
    refine List.forall_mem_cons.2 ⟨?_, fun y hy => ?_⟩
    · rw [offset, bytes]
      exact beAt_append ..
    · rw [bytes, ← List.append_assoc]
      refine ih ?_ y hy
      rwa [List.length_append, be_length]

/-! ## The CRC over a run of bytes and its own CRC (R40) -/

/-- A register that takes in its own bits, most significant first, is shifted out. -/
theorem crcBits_own (r : BitVec 16) {k : Nat} (hk : k ≤ 16) :
    ((List.range k).map fun i => r.getLsbD (15 - i)).foldl crcBit r = r <<< k := by
  induction k with
  | zero => exact (BitVec.shiftLeft_zero r).symm
  | succ k ih =>
    have top : (r <<< k).msb = r.getLsbD (15 - k) := by
      rw [BitVec.msb_eq_getLsbD_last, BitVec.getLsbD_shiftLeft]
      simp [show ¬15 < k by omega]
    rw [List.range_succ, List.map_append, List.foldl_append, ih (by omega), List.map_singleton, List.foldl_cons,
      List.foldl_nil, crcBit, top, bne_self_eq_false, if_neg Bool.false_ne_true, ← BitVec.shiftLeft_add]

theorem bitsOfBytes_be_two (r : BitVec 16) :
    bitsOfBytes (be 2 r.toNat) = (List.range 16).map fun i => r.getLsbD (15 - i) := by
  have low (i : Nat) (hi : i < 8) : (BitVec.ofNat 8 r.toNat).getLsbD i = r.getLsbD i := by
    rw [BitVec.getLsbD_ofNat, decide_eq_true hi, Bool.true_and]
    rfl
  have high (i : Nat) (hi : i < 8) : (BitVec.ofNat 8 (r.toNat / 256)).getLsbD i = r.getLsbD (8 + i) := by
    rw [BitVec.getLsbD_ofNat, decide_eq_true hi, Bool.true_and, show 256 = 2 ^ 8 from rfl, Nat.testBit_div_two_pow,
      Nat.add_comm]
    rfl
  have split : bitsOfBytes (be 2 r.toNat) =
      bitsOfByte (BitVec.ofNat 8 (r.toNat / 256)) ++ (bitsOfByte (BitVec.ofNat 8 r.toNat) ++ []) := rfl
  rw [split]
  simp only [bitsOfByte, low _ (show 7 < 8 by decide), low _ (show 6 < 8 by decide), low _ (show 5 < 8 by decide),
    low _ (show 4 < 8 by decide), low _ (show 3 < 8 by decide), low _ (show 2 < 8 by decide),
    low _ (show 1 < 8 by decide), low _ (show 0 < 8 by decide), high _ (show 7 < 8 by decide),
    high _ (show 6 < 8 by decide), high _ (show 5 < 8 by decide), high _ (show 4 < 8 by decide),
    high _ (show 3 < 8 by decide), high _ (show 2 < 8 by decide), high _ (show 1 < 8 by decide),
    high _ (show 0 < 8 by decide)]
  rfl

theorem crc16_append_self (bytes : List Byte) : crc16 (bytes ++ be 2 (crc16 bytes).toNat) = 0#16 := by
  have split : bitsOfBytes (bytes ++ be 2 (crc16 bytes).toNat) =
      bitsOfBytes bytes ++ bitsOfBytes (be 2 (crc16 bytes).toNat) := List.flatMap_append
  rw [crc16, split, List.foldl_append, bitsOfBytes_be_two]
  refine (crcBits_own (crc16 bytes) le_rfl).trans ?_
  rw [BitVec.shiftLeft_eq_zero le_rfl]

/-! ## Six bits a character (R196) -/

theorem bitsOfByte_byteOfBits (b7 b6 b5 b4 b3 b2 b1 b0 : Bool) :
    bitsOfByte (byteOfBits b7 b6 b5 b4 b3 b2 b1 b0) = [b7, b6, b5, b4, b3, b2, b1, b0] := by
  revert b7 b6 b5 b4 b3 b2 b1 b0
  decide

theorem bytesOfBits_length {k : Nat} {bits : List Bool} (h : bits.length = 8 * k) : (bytesOfBits bits).length = k := by
  induction k generalizing bits with
  | zero =>
    rw [List.eq_nil_of_length_eq_zero h]
    rfl
  | succ k ih =>
    match bits, h with
    | b7 :: b6 :: b5 :: b4 :: b3 :: b2 :: b1 :: b0 :: rest, h =>
      rw [bytesOfBits, List.length_cons, ih (by simp only [List.length_cons] at h; omega)]

theorem bitsOfBytes_bytesOfBits {k : Nat} {bits : List Bool} (h : bits.length = 8 * k) :
    bitsOfBytes (bytesOfBits bits) = bits := by
  induction k generalizing bits with
  | zero =>
    rw [List.eq_nil_of_length_eq_zero h]
    rfl
  | succ k ih =>
    match bits, h with
    | b7 :: b6 :: b5 :: b4 :: b3 :: b2 :: b1 :: b0 :: rest, h =>
      have tail := ih (bits := rest) (by simp only [List.length_cons] at h; omega)
      rw [bytesOfBits, bitsOfBytes, List.flatMap_cons, ← bitsOfBytes, tail, bitsOfByte_byteOfBits]
      rfl

/-- The 24 codes of a note, 0 beyond its length. -/
theorem noteCodes_eq {text : List Byte} (h : text.length ≤ 24) :
    (text.map fun b => (noteCode b).getD 0) ++ List.replicate (24 - text.length) 0 =
      (List.range 24).map fun i => (text[i]?.bind noteCode).getD 0 := by
  refine List.ext_getElem? fun i => ?_
  rw [List.getElem?_map]
  by_cases inside : i < text.length
  · rw [List.getElem?_append_left (by rwa [List.length_map]), List.getElem?_map, List.getElem?_range (by omega),
      Option.map_some, List.getElem?_eq_getElem inside]
    rfl
  · have absent : text[i]? = none := List.getElem?_eq_none (Nat.not_lt.1 inside)
    rw [List.getElem?_append_right (by rw [List.length_map]; omega), List.length_map, List.getElem?_replicate]
    by_cases short : i < 24
    · rw [if_pos (by omega), List.getElem?_range short, Option.map_some, absent]
      rfl
    · rw [if_neg (by omega), List.getElem?_eq_none (by rw [List.length_range]; omega)]
      rfl

theorem noteBits_length (codes : List Nat) : (codes.flatMap sixBits).length = 6 * codes.length := by
  induction codes with
  | nil => rfl
  | cons c l ih =>
    rw [List.flatMap_cons, List.length_append, ih, List.length_cons]
    exact Nat.add_comm 6 _

theorem noteBytes_length {text : List Byte} (h : text.length ≤ 24) : (noteBytes text).length = 18 := by
  unfold noteBytes
  rw [noteCodes_eq h]
  exact bytesOfBits_length (k := 18) (by rw [noteBits_length]; rfl)

theorem bitsOfBytes_noteBytes {text : List Byte} (h : text.length ≤ 24) :
    bitsOfBytes (noteBytes text) =
      (List.range 24).flatMap fun i => sixBits ((text[i]?.bind noteCode).getD 0) := by
  unfold noteBytes
  rw [noteCodes_eq h, bitsOfBytes_bytesOfBits (k := 18) (by rw [noteBits_length]; rfl), List.flatMap_map]

/-! ## The frame (R56, R196) -/

/-- The fields of an uplink frame from byte 2 to the end of slot 1, in order. -/
def State.uplinkFields (s : State) : List (Nat × Nat × Nat) :=
  [(2, 1, s.radio.uplinkNumber), (3, 2, s.lineId), (5, 1, 0x81), (6, 1, s.cfg.carId), (7, 3, s.odo.position),
   (10, 2, s.odo.uncertainty), (12, 2, s.odo.speed), (14, 1, s.sup.mode.code + 8 * s.sup.firstCause),
   (15, 1, s.brake.service.uplinkBits + 16 * s.brake.band.uplinkBits), (16, 1, s.brake.emergency.uplinkBits),
   (17, 1, flagBits [s.ent.allLocked, s.ent.releaseLeft.isGranted, s.ent.releaseRight.isGranted,
     s.route.authority.isSome]),
   (18, 1, (s.route.authority.map fun r => r.seq.toNat).getD 0),
   (19, 1, s.radio.ring.length + 16 * flagBits (s.radio.ring.map fun e => !e.accepted))] ++
  ([0, 1, 2, 3].map fun i => (20 + i, 1, (s.radio.ring[i]?.map AckEntry.id).getD 0)) ++ [(24, 1, 0)]

theorem ringIds_eq (ring : List AckEntry) :
    ringIds ring = [0, 1, 2, 3].map fun i => (ring[i]?.map AckEntry.id).getD 0 := by
  rcases ring with _ | ⟨a, _ | ⟨b, _ | ⟨c, _ | ⟨d, l⟩⟩⟩⟩ <;> rfl

theorem State.uplinkBody_eq (s : State) : s.uplinkBody = bigBytes s.uplinkFields ++ s.radio.uplinkSlot2 := by
  have ids : (ringIds s.radio.ring).flatMap (be 1) =
      bigBytes ([0, 1, 2, 3].map fun i => (20 + i, 1, (s.radio.ring[i]?.map AckEntry.id).getD 0)) := by
    rw [ringIds_eq, bigBytes, List.flatMap_map, List.flatMap_map]
  have status : s.uplinkBody =
      bigBytes [(2, 1, s.radio.uplinkNumber), (3, 2, s.lineId), (5, 1, 0x81), (6, 1, s.cfg.carId),
        (7, 3, s.odo.position), (10, 2, s.odo.uncertainty), (12, 2, s.odo.speed),
        (14, 1, s.sup.mode.code + 8 * s.sup.firstCause),
        (15, 1, s.brake.service.uplinkBits + 16 * s.brake.band.uplinkBits),
        (16, 1, s.brake.emergency.uplinkBits),
        (17, 1, flagBits [s.ent.allLocked, s.ent.releaseLeft.isGranted, s.ent.releaseRight.isGranted,
          s.route.authority.isSome]),
        (18, 1, (s.route.authority.map fun r => r.seq.toNat).getD 0),
        (19, 1, s.radio.ring.length + 16 * flagBits (s.radio.ring.map fun e => !e.accepted))] ++
      (ringIds s.radio.ring).flatMap (be 1) ++ bigBytes [(24, 1, 0)] ++ s.radio.uplinkSlot2 := by
    unfold State.uplinkBody State.uplinkStatus
    simp only [bigBytes, List.flatMap_cons, List.flatMap_nil, List.append_nil, List.append_assoc]
    cases s.route.authority <;> rfl
  rw [status, ids]
  simp only [State.uplinkFields, bigBytes, List.flatMap_append, List.append_assoc]

theorem Radio.uplinkSlot2_length {r : Radio} (h : ∀ x ∈ r.notes, x.length ≤ 24) : r.uplinkSlot2.length = 20 := by
  unfold Radio.uplinkSlot2
  split
  · rfl
  · rename_i text _ hn
    rw [List.length_append, List.length_append, noteBytes_length (h _ (by rw [hn]; exact List.mem_cons_self)),
      be_length, be_length]

theorem Radio.uplinkSlot2_none {r : Radio} (h : r.notes = []) : r.uplinkSlot2 = List.replicate 20 0 := by
  simp only [Radio.uplinkSlot2, h]

theorem Radio.uplinkSlot2_note {r : Radio} {text : List Byte} {rest : List (List Byte)} (h : r.notes = text :: rest) :
    r.uplinkSlot2 = [0x82#8, BitVec.ofNat 8 text.length] ++ noteBytes text := by
  simp only [Radio.uplinkSlot2, h]
  rfl

theorem bigBytes_length (l : List (Nat × Nat × Nat)) : (bigBytes l).length = (l.map fun x => x.2.1).sum := by
  induction l with
  | nil => rfl
  | cons x l ih =>
    rw [List.map_cons, List.sum_cons, ← ih]
    exact (List.length_append ..).trans (congrArg (· + _) (be_length ..))

theorem flagBits_mul (l : List Bool) (k : Nat) :
    ((l.zipIdx k).map fun e => bit e.1 * 2 ^ e.2).sum = 2 ^ k * flagBits l := by
  induction l generalizing k with
  | nil => rfl
  | cons b l ih =>
    rw [List.zipIdx_cons, List.map_cons, List.sum_cons, ih, flagBits]
    ring

theorem flagBits_eq_sum (l : List Bool) : flagBits l = (l.zipIdx.map fun e => bit e.1 * 2 ^ e.2).sum := by
  rw [flagBits_mul, pow_zero, one_mul]

theorem State.uplinkFields_length (s : State) : (bigBytes s.uplinkFields).length = 23 := by
  simp [bigBytes_length, State.uplinkFields]

/-- The alignment word of a frame (R41). -/
def uplinkWord (n : Nat) : List Byte := if n % 2 = 0 then [0x47, 0x9C] else [0xB8, 0x63]

theorem uplinkWord_length (n : Nat) : (uplinkWord n).length = 2 := by
  unfold uplinkWord
  split <;> rfl

theorem State.uplinkFields_contiguous (s : State) :
    Contiguous (uplinkWord s.radio.uplinkNumber).length s.uplinkFields := by
  rw [uplinkWord_length]
  simp [State.uplinkFields, Contiguous]

theorem flagBits_four (a b c d : Bool) : flagBits [a, b, c, d] = bit a + 2 * bit b + 4 * bit c + 8 * bit d := by
  simp only [flagBits]
  ring

/-- The covered bytes of a frame have 43 bytes. -/
theorem State.uplinkBody_length {s : State} (h : ∀ x ∈ s.radio.notes, x.length ≤ 24) : s.uplinkBody.length = 43 := by
  rw [State.uplinkBody_eq, List.length_append, Radio.uplinkSlot2_length h, State.uplinkFields_length]

theorem State.uplinkFrame_eq (s : State) :
    s.uplinkFrame =
      uplinkWord s.radio.uplinkNumber ++ (s.uplinkBody ++ (be 2 (crc16 s.uplinkBody).toNat ++ [0xFF])) := by
  unfold State.uplinkFrame
  rw [List.append_assoc, List.append_assoc]
  rfl

/-- The fields are those of the obligation's list, which gives the ring's ids after the reserved byte. -/
theorem State.mem_uplinkFields {s : State} {a : List (Nat × Nat × Nat)} {b c : List (Nat × Nat × Nat)}
    (h : s.uplinkFields = a ++ b ++ c) : ∀ x ∈ a ++ c ++ b, x ∈ s.uplinkFields := by
  intro x hx
  rw [h]
  simp only [List.mem_append] at hx ⊢
  tauto

theorem take_drop_middle {α : Type} {a b c : List α} {m n : Nat} (ha : a.length = m) (hb : b.length = n) :
    ((a ++ (b ++ c)).drop m).take n = b := by
  rw [← ha, List.drop_left, List.take_append_of_le_length hb.ge, List.take_of_length_le hb.le]

/-- Settles O44: the frame as word, fields, note and CRC, and the CRC by its own bits. -/
theorem uplinkFramesCarryTheirCrc : Obligations.UplinkFramesCarryTheirCrc := by
  refine ⟨?_, by decide +kernel, crc16_append_self⟩
  intro t s notes bit channel six contents
  have frame := s.uplinkFrame_eq
  have word := uplinkWord_length s.radio.uplinkNumber
  have length := State.uplinkBody_length notes
  have slot := Radio.uplinkSlot2_length notes
  have fields := s.uplinkFields_length
  generalize hc : (be 2 (crc16 s.uplinkBody).toNat ++ [0xFF#8] : List Byte) = rest at frame
  have slots : s.uplinkFrame =
      (uplinkWord s.radio.uplinkNumber ++ bigBytes s.uplinkFields) ++ (s.radio.uplinkSlot2 ++ rest) := by
    rw [frame, State.uplinkBody_eq, List.append_assoc, List.append_assoc]
  have start : (uplinkWord s.radio.uplinkNumber ++ bigBytes s.uplinkFields).length = 25 := by
    rw [List.length_append, word, fields]
  refine ⟨s.uplinkFrame, rfl, ?_, ?_, ?_, ?_, ?_, fun none => ?_, fun text others hn => ?_⟩
  · rw [frame, ← hc]
    simp [word, length]
  · have covered : slice s.uplinkFrame 2 43 = s.uplinkBody := by
      rw [frame]
      exact take_drop_middle word length
    have code : beAt s.uplinkFrame 45 2 = (crc16 s.uplinkBody).toNat := by
      have crc := beAt_append (uplinkWord s.radio.uplinkNumber ++ s.uplinkBody) [0xFF#8] 2 (crc16 s.uplinkBody).toNat
      rw [List.length_append, word, length, hc, List.append_assoc, ← frame] at crc
      exact crc.trans (Nat.mod_eq_of_lt (crc16 s.uplinkBody).isLt)
    rw [frameCrcOk, covered, code]
    exact beq_self_eq_true _
  · have last : s.uplinkFrame =
        (uplinkWord s.radio.uplinkNumber ++ s.uplinkBody ++ be 2 (crc16 s.uplinkBody).toNat) ++ [0xFF#8] := by
      rw [frame, ← hc, List.append_assoc, List.append_assoc]
    rw [byteAt, last, List.getD_append_right _ _ _ _ (by simp [word, length])]
    simp [word, length]
  · rw [frame]
    exact (List.take_left' word)
  · have band : channel .band = s.brake.band.uplinkBits := rfl
    have service : channel .service = s.brake.service.uplinkBits := rfl
    have emergency : channel .emergency = s.brake.emergency.uplinkBits := rfl
    have cause : (s.sup.trip.map fun r => r.first.number).getD 0 = s.sup.firstCause := by
      unfold Supervisor.firstCause
      cases s.sup.trip <;> rfl
    have outcomes : (s.radio.ring.zipIdx.map fun e => bit (!e.1.accepted) * 2 ^ e.2).sum =
        flagBits (s.radio.ring.map fun e => !e.accepted) := by
      rw [flagBits_eq_sum, List.zipIdx_map, List.map_map]
      rfl
    have entrances : bit s.ent.allLocked + 2 * bit (s.ent.releaseLeft == .granted) +
        4 * bit (s.ent.releaseRight == .granted) + 8 * bit s.route.authority.isSome =
        flagBits [s.ent.allLocked, s.ent.releaseLeft.isGranted, s.ent.releaseRight.isGranted,
          s.route.authority.isSome] := by
      have granted (r : Release) : (r == .granted) = r.isGranted := by cases r <;> rfl
      rw [granted, granted]
      exact (flagBits_four ..).symm
    intro x hx
    have member : x ∈ s.uplinkFields := by
      refine State.mem_uplinkFields rfl x ?_
      rw [← cause, ← service, ← band, ← emergency, ← outcomes, ← entrances]
      exact hx
    have read := beAt_bigBytes (before := uplinkWord s.radio.uplinkNumber) (after := s.radio.uplinkSlot2 ++ rest)
      (l := s.uplinkFields) s.uplinkFields_contiguous x member
    rwa [← List.append_assoc, ← slots] at read
  · rw [slots]
    exact (take_drop_middle start slot).trans (Radio.uplinkSlot2_none none)
  · have short := notes text (by rw [hn]; exact List.mem_cons_self)
    have note := Radio.uplinkSlot2_note hn
    have at_ (i : Nat) : byteAt s.uplinkFrame (25 + i) =
        (0x82#8 :: BitVec.ofNat 8 text.length :: (noteBytes text ++ rest)).getD i 0 := by
      rw [byteAt, slots, note, List.getD_append_right _ _ _ _ (by rw [start]; omega), start, Nat.add_sub_cancel_left]
      rfl
    have body : (s.uplinkFrame.drop 27).take 18 = noteBytes text := by
      have parts : s.uplinkFrame =
          (uplinkWord s.radio.uplinkNumber ++ bigBytes s.uplinkFields ++ [0x82#8, BitVec.ofNat 8 text.length]) ++
            (noteBytes text ++ rest) := by
        rw [slots, note, List.append_assoc _ [0x82#8, BitVec.ofNat 8 text.length]]
        rfl
      rw [parts]
      exact take_drop_middle (by rw [List.length_append, start]; rfl) (noteBytes_length short)
    refine ⟨at_ 0, ?_, ?_⟩
    · refine (congrArg BitVec.toNat (at_ 1)).trans ?_
      exact (BitVec.toNat_ofNat ..).trans (Nat.mod_eq_of_lt (by omega))
    · rw [body]
      exact bitsOfBytes_noteBytes short

end Sys2Proof.Machine
end

section
/-! The supervision pass stage by stage (06 §6.1): the state that each stage leaves, written out. -/

namespace Sys2Proof.Machine

/-! ## Faults (R99) -/

/-- The first enabled fault of a list. -/
def State.reported (s : State) (l : List (FaultKind × Option Nat)) : Option (FaultKind × Option Nat) :=
  l.find? fun f => s.cfg.enables.testBit f.1.enableBit

/-- The fault record after the faults of a list. -/
def State.recordAfter (s : State) (l : List (FaultKind × Option Nat)) : Option FaultRecord :=
  match s.reported l with
  | none => s.sup.faultRecord
  | some f => some ⟨f.1, f.2, s.sup.inputPosition, s.clock.now⟩

/-- The notices after them. -/
def State.noticeAfter (s : State) (l : List (FaultKind × Option Nat)) : Notice :=
  match s.reported l with
  | none => s.notice
  | some _ => s.notice.latch s.clock.now .supervisionFault

theorem State.handleFaults_eq (l : List (FaultKind × Option Nat)) (s : State) :
    s.handleFaults l =
      { s with
        sup := { s.sup with faultSeen := s.sup.faultSeen || decide (l ≠ []), faultRecord := s.recordAfter l }
        notice := s.noticeAfter l } := by
  unfold State.handleFaults State.recordAfter State.noticeAfter State.reported
  cases l with
  | nil => simp
  | cons f l =>
    have seen : (s.sup.faultSeen || decide (f :: l ≠ [])) = true := by simp
    rw [seen]
    dsimp only
    generalize List.find? (fun f => s.cfg.enables.testBit f.1.enableBit) (f :: l) = found
    cases found <;> rfl

/-! ## The stages -/

/-- The Supervisor at the judgement of a pass: the results, the position of the inputs, the stop point and the faults. -/
def State.heldSup (p : State) : Supervisor :=
  { p.sup with
    pass := p.passResults.1
    inputPosition := p.odo.position
    faultSeen := p.sup.faultSeen || decide (p.passResults.2 ≠ [])
    faultRecord := State.recordAfter { p with sup := { p.sup with inputPosition := p.odo.position } } p.passResults.2
    stopPoint := (p.overrun p.passResults.1).1 }

/-- The state that stage 3 judges. -/
def State.held (p : State) : State := { p with sup := p.heldSup, notice := p.noticeAfter p.passResults.2 }

/-- Stage 3 by the mode of the pass. -/
def State.judged (p : State) : State :=
  match p.sup.mode with
  | .shunt => p.held.judgeRunning p.passResults.1 (p.overrun p.passResults.1).2
  | .line => p.held.judgeRunning p.passResults.1 (p.overrun p.passResults.1).2
  | .tripped => p.held.judgeTripped (p.overrun p.passResults.1).2
  | _ => p.held.judgeStanding

theorem State.supervisionPass_eq (s : State) : s.supervisionPass = s.odometryPass.judged.setDemands := by
  unfold State.supervisionPass
  dsimp only
  rw [State.handleFaults_eq]
  rfl

/-! ## Stage 3 in SHUNT and LINE -/

/-- Entry into TRIPPED, written out (R115). -/
theorem State.enterTrip_eq (r : PassResults) (first : Cause) (causes : List Cause) (s : State) :
    s.enterTrip r first causes =
      { s with
        sup := { s.sup with
          mode := .tripped, modeBefore := some s.sup.mode, level := .emergency, effort := .idle
          trip := some ⟨first, s.odo.position, r.speed, r.permitted, r.time, s.sup.mode, causes⟩ }
        notice := ((((s.notice.latch s.clock.now .trip).modeReported s.clock.now
          (.modeChange s.sup.mode .tripped .trip) s.sup.level .emergency r.speed r.permitted).setActive s.clock.now
            .overspeedWarning false).setActive s.clock.now .serviceIntervention false) } := by
  unfold State.enterTrip
  dsimp only
  rw [State.setLevel_eq]
  rfl

/-- A pass without a trip, written out (R109, R110). -/
theorem State.continueRunning_eq (r : PassResults) (e : Effort) (s : State) :
    s.continueRunning r e =
      let level := levelAfter s.cfg s.sup.level r.speed r.permitted
      { s with
        sup := { s.sup with effort := e, level := level }
        notice := ((if s.sup.level = level then s.notice
          else s.notice.post s.clock.now (.intervention s.sup.level level r.speed r.permitted)).setActive s.clock.now
            .overspeedWarning (decide (r.permitted < r.speed))).setActive s.clock.now .serviceIntervention
              (level == .service) } := by
  unfold State.continueRunning
  rw [State.setLevel_eq]
  rfl

/-- The demand that the effort monitor reads. -/
def State.judgedDemand (p : State) : Nat :=
  serviceDemand p.cfg p.sup.mode (levelAfter p.cfg p.sup.level p.passResults.1.speed p.passResults.1.permitted)
    p.sup.drive.brake p.ent.allLocked

/-- The verdict of the effort monitor. -/
def State.judgedEffort (p : State) : EffortVerdict := p.effortPass p.passResults.1 p.judgedDemand

/-- The causes that a running pass meets, but for BRAKE_EFFORT. -/
def State.causes (p : State) : List Cause := p.causesRunning p.passResults.1 (p.overrun p.passResults.1).2

/-- The state of stage 3 with the two failure flags taken in. -/
def State.cleared (p : State) : State :=
  { p.held with sup := { p.heldSup with engagementFailure := false, outputFault := false } }

/-- The cause that a running pass trips on, with all causes met: those of the cause order, else BRAKE_EFFORT. -/
inductive State.TripsOn (p : State) : Cause → List Cause → Prop
  | cause {first more} (h : p.causes = first :: more) : p.TripsOn first (first :: more)
  | effort (h : p.causes = []) (failed : p.judgedEffort.failed = true) : p.TripsOn .brakeEffort [.brakeEffort]

theorem State.judged_running {p : State} (running : p.sup.mode = .shunt ∨ p.sup.mode = .line) :
    p.judged = p.held.judgeRunning p.passResults.1 (p.overrun p.passResults.1).2 := by
  unfold State.judged
  rcases running with h | h <;> rw [h]

theorem State.judged_trips {p : State} (running : p.sup.mode = .shunt ∨ p.sup.mode = .line) {first : Cause}
    {causes : List Cause} (h : p.TripsOn first causes) : p.judged = p.cleared.enterTrip p.passResults.1 first causes := by
  rw [State.judged_running running]
  unfold State.judgeRunning
  have met : p.held.causesRunning p.passResults.1 (p.overrun p.passResults.1).2 = p.causes := rfl
  rw [met]
  cases h with
  | cause h => rw [h]; rfl
  | effort h failed => rw [h]; exact if_pos failed

theorem State.judged_continues {p : State} (running : p.sup.mode = .shunt ∨ p.sup.mode = .line) (none : p.causes = [])
    (brakes : p.judgedEffort.failed = false) :
    p.judged = p.cleared.continueRunning p.passResults.1 p.judgedEffort.effort := by
  rw [State.judged_running running]
  unfold State.judgeRunning
  have met : p.held.causesRunning p.passResults.1 (p.overrun p.passResults.1).2 = p.causes := rfl
  rw [met, none]
  exact if_neg (Bool.eq_false_iff.1 brakes)

theorem State.judged_tripped {p : State} (h : p.sup.mode = .tripped) :
    p.judged = p.held.judgeTripped (p.overrun p.passResults.1).2 := by
  unfold State.judged
  rw [h]

theorem State.judged_standing {p : State} (h : p.sup.mode = .init ∨ p.sup.mode = .parked) :
    p.judged = p.held.judgeStanding := by
  unfold State.judged
  rcases h with h | h <;> rw [h]

end Sys2Proof.Machine
end

section
/-! The obligations of the supervision pass (06 §6.3 to §6.6). -/

namespace Sys2Proof.Machine

/-! ## The pass as a command -/

/-- The causes joined: the trip record and the notices only. -/
theorem State.joinCauses_framed (cs : List Cause) (s : State) :
    ∃ trip n, cs.foldl State.joinCause s = { s with sup := { s.sup with trip := trip }, notice := n } := by
  induction cs generalizing s with
  | nil => exact ⟨s.sup.trip, s.notice, rfl⟩
  | cons c cs ih =>
    obtain ⟨u, n, h⟩ := ih (s.joinCause c)
    have one : ∃ trip n, s.joinCause c = { s with sup := { s.sup with trip := trip }, notice := n } := by
      unfold State.joinCause
      split
      · exact ⟨s.sup.trip, s.notice, rfl⟩
      · split
        · exact ⟨s.sup.trip, s.notice, rfl⟩
        · exact ⟨_, _, rfl⟩
    obtain ⟨v, m, hv⟩ := one
    rw [hv] at h
    exact ⟨u, n, (congrArg (List.foldl State.joinCause · cs) hv).trans h⟩

/-- The Supervisor with the outcome of a stage 3: mode, level, trip record, monitor and failure flags of another. -/
def Supervisor.withVerdict (u v : Supervisor) : Supervisor :=
  { u with
    mode := v.mode, modeBefore := v.modeBefore, level := v.level, trip := v.trip, effort := v.effort
    engagementFailure := v.engagementFailure, outputFault := v.outputFault }

theorem State.enterTrip_framed (p : State) (r : PassResults) (first : Cause) (causes : List Cause) :
    ∃ v n, p.cleared.enterTrip r first causes = { p with sup := p.heldSup.withVerdict v, notice := n } := by
  refine ⟨(p.cleared.enterTrip r first causes).sup, (p.cleared.enterTrip r first causes).notice, ?_⟩
  rw [State.enterTrip_eq]
  rfl

theorem State.continueRunning_framed (p : State) (r : PassResults) (e : Effort) :
    ∃ v n, p.cleared.continueRunning r e = { p with sup := p.heldSup.withVerdict v, notice := n } := by
  refine ⟨(p.cleared.continueRunning r e).sup, (p.cleared.continueRunning r e).notice, ?_⟩
  rw [State.continueRunning_eq]
  rfl

theorem State.judged_framed (p : State) :
    ∃ v n, p.judged = { p with sup := p.heldSup.withVerdict v, notice := n } := by
  cases hm : p.sup.mode
  case init => exact ⟨{ p.heldSup with effort := .idle }, _, State.judged_standing (.inl hm)⟩
  case parked => exact ⟨{ p.heldSup with effort := .idle }, _, State.judged_standing (.inr hm)⟩
  case tripped =>
    obtain ⟨trip, n, h⟩ := State.joinCauses_framed (p.held.causesTripped (p.overrun p.passResults.1).2)
      { p.held with sup := { p.heldSup with engagementFailure := false, outputFault := false, effort := .idle } }
    refine ⟨{ p.heldSup with engagementFailure := false, outputFault := false, effort := .idle, trip := trip },
      (n.setActive p.clock.now .overspeedWarning false).setActive p.clock.now .serviceIntervention
        (p.heldSup.level == .service),
      (State.judged_tripped hm).trans ((congrArg (State.publishLevel false) h).trans ?_)⟩
    rfl
  all_goals
    have running : p.sup.mode = .shunt ∨ p.sup.mode = .line := by simp [hm]
    by_cases none : p.causes = []
    · cases brakes : p.judgedEffort.failed
      · rw [State.judged_continues running none brakes]
        exact p.continueRunning_framed ..
      · rw [State.judged_trips running (.effort none brakes)]
        exact p.enterTrip_framed ..
    · obtain ⟨first, more, causes⟩ := List.exists_cons_of_ne_nil none
      rw [State.judged_trips running (.cause causes)]
      exact p.enterTrip_framed ..

/-- What every stage 3 leaves of the Supervisor. -/
theorem State.judged_sup (p : State) : p.judged.sup = p.heldSup.withVerdict p.judged.sup := by
  obtain ⟨v, n, h⟩ := p.judged_framed
  have e := congrArg State.sup h
  rw [e]
  rfl

/-- The demands of a pass, from the mode and the level that stage 3 leaves. -/
theorem State.judged_formDemands (p : State) :
    p.judged.formDemands =
      { service := serviceDemand p.cfg p.judged.sup.mode p.judged.sup.level p.sup.drive.brake p.ent.allLocked
        band := bandDemand p.judged.sup.mode p.ent.allLocked p.odo.standstill p.sup.drive.traction p.pinionSegment
        emergency := emergencyDemand p.judged.sup.mode } := by
  obtain ⟨v, n, h⟩ := p.judged_framed
  rw [h]
  rfl

/-- The state after a pass, before the transmitter is handed on. -/
def State.passed (t : Time) (s : State) : State := (s.advance t).odometryPass.judged.setDemands

theorem State.passed_framed (t : Time) (s : State) :
    s.passed t =
      { s.advance t with
        odo := (s.advance t).odometryPass.odo, sup := (s.passed t).sup, notice := (s.passed t).notice } := by
  obtain ⟨u, n, h⟩ := (s.advance t).odometryPass.judged_framed
  unfold State.passed
  rw [h]
  rfl

theorem State.supervisionPass_run {t : Time} {s : State} (empty : s.link.buffer = []) :
    exec (.supervisionPass t) s = .next (s.passed t).grantTransmitter := by
  have pass : (s.advance t).supervisionPass = s.passed t := State.supervisionPass_eq _
  refine congrArg Host.Outcome.next ((congrArg State.finish pass).trans (State.finish_empty ?_))
  rw [State.passed_framed]
  exact empty

theorem State.passed_granted (t : Time) (s : State) :
    (s.passed t).grantTransmitter =
      { s.advance t with
        odo := (s.advance t).odometryPass.odo
        sup := (s.passed t).grantTransmitter.sup
        notice := (s.passed t).grantTransmitter.notice
        link := { s.link with
          tx := (s.passed t).grantTransmitter.link.tx, waiting := (s.passed t).grantTransmitter.link.waiting } } := by
  rw [State.grantTransmitter_sup]
  refine (State.granted_eq (s := s) ((congrArg State.link (s.passed_framed t)).trans rfl)).trans ?_
  exact congrArg (fun w : State => { w with
    notice := (s.passed t).grantTransmitter.notice
    link := { s.link with
      tx := (s.passed t).grantTransmitter.link.tx, waiting := (s.passed t).grantTransmitter.link.waiting } })
    (s.passed_framed t)

theorem State.passed_entry (t : Time) (s : State) (k : AlertKind) :
    (s.passed t).grantTransmitter.notice.entry k = (s.passed t).notice.entry k := State.grantTransmitter_entry _ k

theorem State.passed_notice (t : Time) (s : State) : (s.passed t).notice = (s.advance t).odometryPass.judged.notice := rfl

theorem State.grantTransmitter_notice_busy {s : State} (h : s.link.tx ≠ none) : s.grantTransmitter.notice = s.notice := by
  obtain ⟨f, hf⟩ := Option.ne_none_iff_exists'.1 h
  rw [State.grantTransmitter_busy hf]

/-! ## The faults of a pass -/

theorem State.noticeAfter_length (s : State) (l : List (FaultKind × Option Nat)) :
    (s.noticeAfter l).alerts.length = s.notice.alerts.length := by
  unfold State.noticeAfter
  split
  · rfl
  · exact Notice.latch_length ..

theorem State.noticeAfter_entry_other (s : State) (l : List (FaultKind × Option Nat)) {k : AlertKind}
    (h : k ≠ .supervisionFault) : (s.noticeAfter l).entry k = s.notice.entry k := by
  unfold State.noticeAfter
  split
  · rfl
  · exact Notice.latch_entry_other _ _ h

theorem State.noticeAfter_bodies (s : State) (l : List (FaultKind × Option Nat)) :
    ∃ before : List ReportBody,
      (∀ y ∈ before, ∃ cls forced latched, y = .alert .supervisionFault cls forced latched) ∧
        (s.noticeAfter l).bodies = s.notice.bodies ++ before := by
  unfold State.noticeAfter
  split
  · exact ⟨[], List.forall_mem_nil _, (List.append_nil _).symm⟩
  · exact Notice.latch_bodies ..

/-! ## Settling O30 -/

theorem State.judgementDue_iff {s : State} {start : Time} {v0 : Nat} (h : s.sup.effort = .running start v0)
    (running : s.sup.mode = .shunt ∨ s.sup.mode = .line) :
    s.judgementDue = true ↔ s.cfg.tCheck * 1000 ≤ Time.since s.clock.now start := by
  have runs : s.sup.mode.runs = true := by rcases running with h | h <;> rw [h] <;> rfl
  unfold State.judgementDue
  rw [h]
  dsimp only
  rw [runs, Bool.true_and, decide_eq_true_iff]

theorem Mode.runs_iff (m : Mode) : m.runs = true ↔ m = .shunt ∨ m = .line := by
  cases m <;> simp [Mode.runs]

theorem State.passResults_time (s : State) : s.passResults.1.time = s.clock.now := by
  unfold State.passResults
  split <;> rfl

/-- A window that is due, judged (R119, R120). -/
theorem State.effortPass_due {p : State} {start : Time} {v0 : Nat} {r : PassResults} {demand : Nat}
    (h : p.sup.effort = .running start v0) (full : 64 ≤ demand) (moving : 0 < r.speed)
    (due : p.cfg.tCheck * 1000 ≤ Time.since r.time start) :
    p.effortPass r demand =
      if (((v0 : Int) - r.speed) * 1000).fdiv ((Time.since r.time start / 1000 : Nat) : Int) <
          (((p.cfg.kEff * r.netService + 99) / 100 : Nat) : Int) then ⟨.idle, true⟩
      else ⟨.running r.time r.speed, false⟩ := by
  unfold State.effortPass
  rw [h]
  exact (if_neg (by omega)).trans (if_neg (Nat.not_lt.2 due))

/-- Settles O30: a due judgement is the pass, whose effort verdict is that of the window. -/
theorem effortWindowIsJudged : Obligations.EffortWindowIsJudged := by
  intro t start v0 s empty effort running
  have due : (s.advance t).judgementDue = true ↔ s.cfg.tCheck * 1000 ≤ Time.since t start :=
    State.judgementDue_iff (s := s.advance t) effort running
  refine ⟨fun elapsed => ?_, fun early => ?_⟩
  · intro p r level measured required
    have run := State.supervisionPass_run (t := t) empty
    have pass : exec (.effortWindowJudgement t) s = exec (.supervisionPass t) s :=
      congrArg (fun u : State => Host.Outcome.next u.finish) (if_pos (due.2 elapsed))
    refine ⟨_, pass.trans run, run, fun none moving full => ?_⟩
    have time : r.time = t := State.passResults_time p
    have verdict : p.judgedEffort = if measured < required then ⟨.idle, true⟩ else ⟨.running t r.speed, false⟩ := by
      have judged := State.effortPass_due (p := p) (r := r) (demand := p.judgedDemand) effort full moving
        (by rw [time]; exact elapsed)
      rw [time] at judged
      exact judged
    rw [State.grantTransmitter_sup]
    refine ⟨fun weak => ?_, fun enough => ?_⟩
    · have trips : p.judged = p.cleared.enterTrip r .brakeEffort [.brakeEffort] :=
        State.judged_trips (p := p) running (.effort none (by rw [verdict, if_pos weak]))
      have sup : p.judged.sup = _ := congrArg State.sup (trips.trans (State.enterTrip_eq ..))
      refine ⟨(congrArg Supervisor.mode sup :),
        (congrArg Supervisor.trip sup :).trans ?_⟩
      dsimp only
      rw [time]
      rfl
    · have continues := State.judged_continues (p := p) running none (by rw [verdict, if_neg (not_lt.2 enough)])
      have sup : p.judged.sup = _ := congrArg State.sup (continues.trans (State.continueRunning_eq ..))
      refine ⟨(congrArg Supervisor.mode sup :), (congrArg Supervisor.effort sup :).trans ?_⟩
      dsimp only
      rw [verdict, if_neg (not_lt.2 enough)]
  · exact congrArg (fun u : State => Host.Outcome.next u.finish)
      (if_neg (mt due.1 (Nat.not_le.2 early)))

end Sys2Proof.Machine
end

section
/-! A supervision pass that sets the level (06 §6.3, §6.5, §6.6): settles O28. -/

namespace Sys2Proof.Machine

/-! ## The level, the demand and the effort monitor case by case -/

theorem levelAfter_eq (c : ConfigRecord) (l : Level) (v p : Nat) :
    levelAfter c l v p =
      if l = .service then (if v + c.mR ≤ p then .none else .service)
      else if p + c.mS < v then .service
      else if p < v then .warning
      else .none := by
  cases l <;> rfl

theorem serviceDemand_running (c : ConfigRecord) {mode : Mode} (running : mode = .shunt ∨ mode = .line) (level : Level)
    (driver : Nat) (locked : Bool) :
    serviceDemand c mode level driver locked =
      max driver (max (if level = .service then 64 else 0) (if locked then 0 else c.holdLevel)) := by
  unfold serviceDemand
  rw [(Mode.runs_iff mode).2 running]
  cases level <;> rfl

theorem State.effortPass_idle {p : State} {r : PassResults} (h : p.sup.effort = .idle) (demand : Nat) :
    p.effortPass r demand = ⟨if demand = 64 ∧ 0 < r.speed then .running r.time r.speed else .idle, false⟩ := by
  unfold State.effortPass
  rw [h]
  dsimp only
  split_ifs <;> rfl

theorem State.effortPass_ended {p : State} {r : PassResults} {start : Time} {v0 demand : Nat}
    (h : p.sup.effort = .running start v0) (ends : demand < 64 ∨ r.speed = 0) :
    p.effortPass r demand = ⟨.idle, false⟩ := by
  unfold State.effortPass
  rw [h]
  exact if_pos ends

theorem State.effortPass_within {p : State} {r : PassResults} {start : Time} {v0 demand : Nat}
    (h : p.sup.effort = .running start v0) (on : ¬(demand < 64 ∨ r.speed = 0))
    (early : Time.since r.time start < p.cfg.tCheck * 1000) : p.effortPass r demand = ⟨.running start v0, false⟩ := by
  unfold State.effortPass
  rw [h]
  exact (if_neg on).trans (if_pos early)

/-! ## The notices of a pass without a trip -/

theorem State.noticeAfter_queue_length_le {s : State} (l : s.notice.alerts.length = 21) (q : s.notice.queue.length < 24)
    (faults : List (FaultKind × Option Nat)) : (s.noticeAfter faults).queue.length ≤ s.notice.queue.length + 1 := by
  unfold State.noticeAfter
  split
  · exact Nat.le_succ _
  · exact Notice.touch_queue_length_le l q false ..

/-- The notice once a change of level is reported. -/
def Notice.levelReported (n : Notice) (t : Time) (old new : Level) (v p : Nat) : Notice :=
  if old = new then n else n.post t (.intervention old new v p)

theorem Notice.levelReported_length (n : Notice) (t : Time) (old new : Level) (v p : Nat) :
    (n.levelReported t old new v p).alerts.length = n.alerts.length := by
  unfold Notice.levelReported
  split <;> simp only [Notice.post_alerts]

theorem Notice.levelReported_bodies {n : Notice} (h : n.queue.length < 24) (t : Time) (old new : Level) (v p : Nat) :
    (n.levelReported t old new v p).bodies = n.bodies ++ if old = new then [] else [.intervention old new v p] := by
  unfold Notice.levelReported
  split_ifs
  · exact (List.append_nil _).symm
  · exact Notice.post_bodies h ..

/-- Settles O28: the pass continues, and its level, its monitor and its reports are those of the rules. -/
theorem passSetsTheLevel : Obligations.PassSetsTheLevel := by
  intro t s empty running l p r level demand judged brakes none enough
  have time : r.time = t := State.passResults_time p
  have level_eq : levelAfter s.cfg s.sup.level r.speed r.permitted = level := levelAfter_eq ..
  have demand_eq : p.judgedDemand = demand := by
    refine (serviceDemand_running _ running ..).trans ?_
    exact congrArg (fun x : Level => max s.sup.drive.brake
      (max (if x = .service then 64 else 0) (if s.ent.allLocked then 0 else s.cfg.holdLevel))) level_eq
  have due {start : Time} {v0 : Nat} (h : s.sup.effort = .running start v0) (j : judged start) :
      p.judgedEffort = ⟨.running t r.speed, false⟩ := by
    have enough := enough start v0 h j
    obtain ⟨full, moving, elapsed⟩ := j
    have verdict := State.effortPass_due (p := p) (r := r) (demand := demand) h full moving (by rw [time]; exact elapsed)
    rw [time] at verdict
    exact (congrArg (p.effortPass r) demand_eq).trans (verdict.trans (if_neg (not_lt.2 enough)))
  have within {start : Time} {v0 : Nat} (h : s.sup.effort = .running start v0) (full : 64 ≤ demand) (moving : 0 < r.speed)
      (early : Time.since t start < s.cfg.tCheck * 1000) : p.judgedEffort = ⟨.running start v0, false⟩ :=
    (congrArg (p.effortPass r) demand_eq).trans (State.effortPass_within h (by omega) (by rw [time]; exact early))
  have ended {start : Time} {v0 : Nat} (h : s.sup.effort = .running start v0) (ends : demand < 64 ∨ r.speed = 0) :
      p.judgedEffort = ⟨.idle, false⟩ :=
    (congrArg (p.effortPass r) demand_eq).trans (State.effortPass_ended h ends)
  have idle (h : s.sup.effort = .idle) :
      p.judgedEffort = ⟨if demand = 64 ∧ 0 < r.speed then .running t r.speed else .idle, false⟩ := by
    have verdict := (congrArg (p.effortPass r) demand_eq).trans (State.effortPass_idle (r := r) h demand)
    rw [time] at verdict
    exact verdict
  have calm : p.judgedEffort.failed = false := by
    cases h : s.sup.effort with
    | idle => rw [idle h]
    | running start v0 =>
      by_cases ends : demand < 64 ∨ r.speed = 0
      · rw [ended h ends]
      · by_cases early : Time.since t start < s.cfg.tCheck * 1000
        · rw [within h (by omega) (by omega) early]
        · rw [due h ⟨by omega, by omega, by omega⟩]
  have continues : p.judged = _ :=
    (State.judged_continues (p := p) running none calm).trans (State.continueRunning_eq ..)
  have sup := congrArg State.sup continues
  have sup_level : p.judged.sup.level = level := (congrArg Supervisor.level sup :).trans level_eq
  have sup_effort : p.judged.sup.effort = p.judgedEffort.effort := (congrArg Supervisor.effort sup :)
  have sup_mode : p.judged.sup.mode = s.sup.mode := (congrArg Supervisor.mode sup :)
  let base : Notice := p.noticeAfter p.passResults.2
  have base_length : base.alerts.length = 21 := (State.noticeAfter_length p _).trans l
  let posted : Notice := base.levelReported t s.sup.level level r.speed r.permitted
  have posted_length : posted.alerts.length = 21 := (Notice.levelReported_length ..).trans base_length
  have notice : (s.passed t).notice = (posted.setActive t .overspeedWarning (decide (r.permitted < r.speed))).setActive t
      .serviceIntervention (level == .service) := by
    have n := congrArg State.notice continues
    dsimp only at n
    rw [show levelAfter p.cleared.cfg p.cleared.sup.level p.passResults.1.speed p.passResults.1.permitted = level
      from level_eq] at n
    exact n
  refine ⟨(s.passed t).grantTransmitter, State.supervisionPass_run empty, ?_⟩
  rw [State.grantTransmitter_sup, State.passed_entry, State.passed_entry, notice]
  refine ⟨(sup_mode :), (congrArg Supervisor.trip sup :), sup_level, ?_, ?_, ?_, fun h => ?_, fun start v0 h => ?_,
    fun busy q => ?_⟩
  · have formed : (s.passed t).sup.demands.service =
        serviceDemand s.cfg p.judged.sup.mode p.judged.sup.level s.sup.drive.brake s.ent.allLocked :=
      congrArg Demands.service p.judged_formDemands
    rw [formed, sup_mode, sup_level]
    exact serviceDemand_running _ running ..
  · rw [Notice.setActive_entry_other _ _ _ (by decide), Notice.setActive_entry_self _ _ _ _ posted_length,
      AlertEntry.follow_active]
  · rw [Notice.setActive_entry_self _ _ _ _ ((Notice.setActive_length ..).trans posted_length), AlertEntry.follow_active,
      Level.beq_service]
  · exact sup_effort.trans (congrArg EffortVerdict.effort (idle h))
  · exact ⟨fun ends => sup_effort.trans (congrArg EffortVerdict.effort (ended h ends)),
      fun full moving early => sup_effort.trans (congrArg EffortVerdict.effort (within h full moving early)),
      fun j => sup_effort.trans (congrArg EffortVerdict.effort (due h j))⟩
  · have q' : s.notice.queue.length < 24 := by omega
    have room : base.queue.length ≤ s.notice.queue.length + 1 := State.noticeAfter_queue_length_le (s := p) l q' _
    obtain ⟨before, faults, base_bodies⟩ := State.noticeAfter_bodies p p.passResults.2
    obtain ⟨first, warning, first_bodies⟩ :=
      posted.setActive_bodies t .overspeedWarning (decide (r.permitted < r.speed))
    obtain ⟨second, service, second_bodies⟩ :=
      (posted.setActive t .overspeedWarning (decide (r.permitted < r.speed))).setActive_bodies t .serviceIntervention
        (level == .service)
    have busy' : (s.passed t).link.tx ≠ Option.none := by rw [State.passed_framed]; exact busy
    intro alerts
    refine ⟨before, first ++ second, fun y hy => ⟨_, List.mem_singleton.2 rfl, faults y hy⟩, fun y hy => ?_, ?_⟩
    · rcases List.mem_append.1 hy with hy | hy
      · exact ⟨_, by simp, warning y hy⟩
      · exact ⟨_, by simp, service y hy⟩
    · rw [State.grantTransmitter_notice_busy (s := s.passed t) busy', notice]
      refine second_bodies.trans ?_
      rw [first_bodies, Notice.levelReported_bodies (by omega), ← List.append_assoc]
      exact congrArg (fun x => x ++ _ ++ first ++ second) base_bodies

end Sys2Proof.Machine
end

section
/-! The verdicts and the demands of a supervision pass (01 §1.2, §1.3, 05 §5.8, 06 §6.6): settles O29. -/

namespace Sys2Proof.Machine

/-! ## The window of fresh entries (R4) -/

theorem windowOf_eq (t : Time) (w : Nat) (ring : List RingEntry) :
    windowOf t w ring = (ring.filter fun e => !e.stale).filter fun e => decide (Time.since t e.time < w * 1000) := by
  rw [windowOf, List.filter_filter]
  exact List.filter_congr fun e _ => Bool.and_comm ..

theorem foldl_max_eq {α : Type} (f : α → Nat) {l : List α} {a m : Nat} (start : a ≤ m) (bound : ∀ e ∈ l, f e ≤ m)
    (hit : a = m ∨ ∃ e ∈ l, f e = m) : l.foldl (fun a e => max a (f e)) a = m := by
  induction l generalizing a with
  | nil => simpa using hit
  | cons x l ih =>
    have hx := bound x (List.mem_cons_self ..)
    refine ih (max_le start hx) (fun e he => bound e (List.mem_cons_of_mem _ he)) ?_
    rcases hit with rfl | ⟨e, he, h⟩
    · exact .inl (max_eq_left hx)
    · rcases List.mem_cons.1 he with rfl | he
      · exact .inl ((max_eq_right (h ▸ start)).trans h)
      · exact .inr ⟨e, he, h⟩

theorem foldl_min_eq {α : Type} (f : α → Nat) {l : List α} {a m : Nat} (start : m ≤ a) (bound : ∀ e ∈ l, m ≤ f e)
    (hit : a = m ∨ ∃ e ∈ l, f e = m) : l.foldl (fun a e => min a (f e)) a = m := by
  induction l generalizing a with
  | nil => simpa using hit
  | cons x l ih =>
    have hx := bound x (List.mem_cons_self ..)
    refine ih (le_min start hx) (fun e he => bound e (List.mem_cons_of_mem _ he)) ?_
    rcases hit with rfl | ⟨e, he, h⟩
    · exact .inl (min_eq_left hx)
    · rcases List.mem_cons.1 he with rfl | he
      · exact .inl ((min_eq_right (h ▸ start)).trans h)
      · exact .inr ⟨e, he, h⟩

/-- The ages of the oldest and the newest entry of a list. -/
theorem ages_eq {t : Time} {es : List RingEntry} {young old : RingEntry} (hy : young ∈ es) (ho : old ∈ es)
    (span : ∀ e ∈ es, Time.since t young.time ≤ Time.since t e.time ∧ Time.since t e.time ≤ Time.since t old.time) :
    oldestAge t es = Time.since t old.time ∧ newestAge t es = Time.since t young.time := by
  have oldest : oldestAge t es = Time.since t old.time :=
    foldl_max_eq (fun e : RingEntry => Time.since t e.time) (Nat.zero_le _) (fun e he => (span e he).2) (.inr ⟨old, ho, rfl⟩)
  refine ⟨oldest, ?_⟩
  unfold newestAge
  rw [oldest]
  exact foldl_min_eq (fun e : RingEntry => Time.since t e.time) (span old ho).1 (fun e he => (span e he).1)
    (.inr ⟨young, hy, rfl⟩)

theorem standsStill_iff (t : Time) (c : ConfigRecord) (ring : List RingEntry) :
    standsStill t c ring = true ↔
      (windowOf t c.window ring).length < 2 ∧ ∀ e, newestFresh ring = some e → c.tStill * 1000 ≤ Time.since t e.time := by
  unfold standsStill
  rw [Bool.and_eq_true, decide_eq_true_iff]
  cases newestFresh ring with
  | none => simp
  | some e => simp

theorem speedEstimate_still {t : Time} {c : ConfigRecord} {ring : List RingEntry} (h : standsStill t c ring = true)
    (len previous : Nat) : speedEstimate t c len previous ring = 0 := by
  unfold speedEstimate
  exact (if_neg (Nat.not_le.2 ((standsStill_iff ..).1 h).1)).trans (if_pos h)

theorem speedEstimate_window {t : Time} {c : ConfigRecord} {ring : List RingEntry} {young old : RingEntry}
    (h : 2 ≤ (windowOf t c.window ring).length) (hy : young ∈ windowOf t c.window ring) (ho : old ∈ windowOf t c.window ring)
    (ages : ∀ e ∈ windowOf t c.window ring,
      Time.since t young.time ≤ Time.since t e.time ∧ Time.since t e.time ≤ Time.since t old.time) (len previous : Nat) :
    speedEstimate t c len previous ring =
      let span := Time.since t old.time - Time.since t young.time
      if span = 0 then 15000
      else min ((((windowOf t c.window ring).length - 1) * len * 1000 + (span - 1)) / span) 15000 := by
  obtain ⟨oldest, newest⟩ := ages_eq hy ho ages
  unfold speedEstimate
  dsimp only
  rw [if_pos h, oldest, newest]
  rfl

theorem speedEstimate_falling {t : Time} {c : ConfigRecord} {ring : List RingEntry} {e : RingEntry}
    (few : (windowOf t c.window ring).length < 2) (moving : standsStill t c ring = false) (newest : newestFresh ring = some e)
    (len previous : Nat) :
    speedEstimate t c len previous ring =
      let age := Time.since t e.time
      if age = 0 then previous else min (min previous ((len * 1000 + (age - 1)) / age)) 15000 := by
  unfold speedEstimate
  dsimp only
  rw [if_neg (Nat.not_le.2 few), if_neg (Bool.eq_false_iff.1 moving), newest]
  rfl

theorem travelDir_moving {ring : List RingEntry} {e : RingEntry} (h : newestFresh ring = some e) (sel : Selector) :
    travelDir false sel ring = e.dir := by
  unfold travelDir
  rw [if_neg Bool.false_ne_true, h]

/-- The direction of a standing car, from the selector, else from the newest entry. -/
theorem travelDir_still (sel : Selector) (ring : List RingEntry) :
    travelDir true sel ring =
      match sel with
      | .up => .up
      | .down => .down
      | .neutral => (ring.getLast?.map RingEntry.dir).getD .up := by
  cases sel <;> cases h : ring.getLast? <;> simp [travelDir, h]

/-! ## The odometry of a pass -/

/-- The ring entry with its stale mark at a time (R3). -/
def markedEntry (t : Time) (e : RingEntry) : RingEntry := ⟨e.time, e.dir, e.stale || decide (2000000 ≤ Time.since t e.time)⟩

/-- The reference ring with its stale marks. -/
def State.markedRing (t : Time) (s : State) : List RingEntry := s.referenceRing.map (markedEntry t)

theorem Odometry.markStale_eq (t : Time) (o : Odometry) :
    o.markStale t = { o with pinRing := o.pinRing.map (markedEntry t), whlRing := o.whlRing.map (markedEntry t) } := by
  unfold Odometry.markStale
  rw [ringMark_eq, ringMark_eq]
  rfl

theorem State.odometryPass_odo (t : Time) (s : State) :
    (s.advance t).odometryPass.odo =
      { s.odo with
        pinRing := s.odo.pinRing.map (markedEntry t)
        whlRing := s.odo.whlRing.map (markedEntry t)
        speed := speedEstimate t s.cfg (incrementOf s.cfg s.reference) s.odo.speed (s.markedRing t)
        standstill := standsStill t s.cfg (s.markedRing t)
        direction := travelDir (standsStill t s.cfg (s.markedRing t)) s.sup.drive.selector (s.markedRing t)
        movementUm := if standsStill t s.cfg (s.markedRing t) = true ∧ s.odo.standstill = false then 0
          else s.odo.movementUm } := by
  have begins (b c : Bool) (x : Int) : (if b && !c then 0 else x) = if b = true ∧ c = false then 0 else x := by
    cases b <;> cases c <;> rfl
  have ring : (s.odo.markStale t).ring s.reference = s.markedRing t := by
    rw [Odometry.markStale_eq, State.markedRing, State.referenceRing]
    cases s.reference <;> rfl
  have marked : (s.advance t).odo.markStale (s.advance t).clock.now = _ := Odometry.markStale_eq t s.odo
  rw [← ring]
  unfold State.odometryPass
  dsimp only
  rw [marked, Odometry.markStale_eq, ← begins]
  rfl

/-! ## The stop point and the fault record (R112, R99) -/

theorem Supervisor.testsOverrun_iff (u : Supervisor) :
    u.testsOverrun = true ↔ u.mode = .line ∨ (u.mode = .tripped ∧ u.modeBefore = some .line) := by
  unfold Supervisor.testsOverrun
  cases u.mode <;> simp

theorem State.authorityAhead_none {s : State} {d : Dir} :
    s.authorityAhead d = none ↔ s.route.authority.any (fun a => a.dir == d) = false := by
  unfold State.authorityAhead
  cases s.route.authority with
  | none => simp
  | some a => by_cases h : a.dir = d <;> simp [h]

theorem State.reported_first {s : State} {before after : List (FaultKind × Option Nat)} {f : FaultKind × Option Nat}
    (off : ∀ g ∈ before, s.cfg.enables.testBit g.1.enableBit = false) (on : s.cfg.enables.testBit f.1.enableBit = true) :
    s.reported (before ++ f :: after) = some f :=
  List.find?_eq_some_iff_append.2 ⟨on, before, after, rfl, fun g hg => by rw [off g hg]; rfl⟩

theorem State.reported_none {s : State} {l : List (FaultKind × Option Nat)}
    (off : ∀ g ∈ l, s.cfg.enables.testBit g.1.enableBit = false) : s.reported l = none :=
  List.find?_eq_none.2 fun g hg => Bool.eq_false_iff.1 (off g hg)

theorem State.recordAfter_none {s : State} {l : List (FaultKind × Option Nat)} (h : s.reported l = none) :
    s.recordAfter l = s.sup.faultRecord := by
  unfold State.recordAfter
  rw [h]

theorem State.recordAfter_some {s : State} {l : List (FaultKind × Option Nat)} {f : FaultKind × Option Nat}
    (h : s.reported l = some f) : s.recordAfter l = some ⟨f.1, f.2, s.sup.inputPosition, s.clock.now⟩ := by
  unfold State.recordAfter
  rw [h]

theorem State.noticeAfter_some {s : State} {l : List (FaultKind × Option Nat)} {f : FaultKind × Option Nat}
    (h : s.reported l = some f) : s.noticeAfter l = s.notice.latch s.clock.now .supervisionFault := by
  unfold State.noticeAfter
  rw [h]

/-! ## Stage 3 and the alert of a fault -/

theorem State.joinCauses_entry_other {k : AlertKind} (h : k ≠ .trip) (cs : List Cause) (s : State) :
    (cs.foldl State.joinCause s).notice.entry k = s.notice.entry k := by
  induction cs generalizing s with
  | nil => rfl
  | cons c cs ih =>
    refine (ih _).trans ?_
    unfold State.joinCause
    split
    · rfl
    · split
      · rfl
      · exact Notice.latch_entry_other _ _ h

theorem Notice.levelReported_entry (n : Notice) (t : Time) (old new : Level) (v p : Nat) (k : AlertKind) :
    (n.levelReported t old new v p).entry k = n.entry k := by
  unfold Notice.levelReported
  split <;> simp only [Notice.post_entry]

/-- Stage 3 leaves SUPERVISION_FAULT as the faults left it. -/
theorem State.judged_fault (p : State) :
    p.judged.notice.entry .supervisionFault = (p.noticeAfter p.passResults.2).entry .supervisionFault := by
  have falls (n : Notice) (t : Time) (a b : Bool) :
      ((n.setActive t .overspeedWarning a).setActive t .serviceIntervention b).entry .supervisionFault =
        n.entry .supervisionFault := by
    rw [Notice.setActive_entry_other _ _ _ (by decide), Notice.setActive_entry_other _ _ _ (by decide)]
  have trips {first : Cause} {causes : List Cause} :
      (p.cleared.enterTrip p.passResults.1 first causes).notice.entry .supervisionFault =
        (p.noticeAfter p.passResults.2).entry .supervisionFault := by
    rw [State.enterTrip_eq]
    refine (falls ..).trans ?_
    rw [Notice.modeReported_entry, Notice.latch_entry_other _ _ (by decide)]
    rfl
  cases hm : p.sup.mode
  case init =>
    rw [State.judged_standing (.inl hm)]
    exact falls ..
  case parked =>
    rw [State.judged_standing (.inr hm)]
    exact falls ..
  case tripped =>
    rw [State.judged_tripped hm]
    exact (falls ..).trans (State.joinCauses_entry_other (by decide) ..)
  all_goals
    have running : p.sup.mode = .shunt ∨ p.sup.mode = .line := by simp [hm]
    by_cases none : p.causes = []
    · cases brakes : p.judgedEffort.failed
      · rw [State.judged_continues running none brakes, State.continueRunning_eq]
        refine (falls ..).trans ?_
        exact Notice.levelReported_entry (p.noticeAfter p.passResults.2) ..
      · rw [State.judged_trips running (.effort none brakes)]
        exact trips
    · obtain ⟨first, more, causes⟩ := List.exists_cons_of_ne_nil none
      rw [State.judged_trips running (.cause causes)]
      exact trips

/-- A stage 3 that finds no running mode keeps mode and level and leaves the monitor idle. -/
theorem State.judged_kept {p : State} (h : p.sup.mode = .init ∨ p.sup.mode = .parked ∨ p.sup.mode = .tripped) :
    p.judged.sup.mode = p.sup.mode ∧ p.judged.sup.level = p.sup.level ∧ p.judged.sup.effort = .idle ∧
      (p.sup.mode ≠ .tripped → p.judged.sup = { p.heldSup with effort := .idle }) := by
  have standing (h : p.sup.mode = .init ∨ p.sup.mode = .parked) : p.judged.sup = { p.heldSup with effort := .idle } := by
    rw [State.judged_standing h]
    rfl
  by_cases trip : p.sup.mode = .tripped
  · obtain ⟨record, n, joined⟩ := State.joinCauses_framed (p.held.causesTripped (p.overrun p.passResults.1).2)
      { p.held with sup := { p.heldSup with engagementFailure := false, outputFault := false, effort := .idle } }
    have sup : p.judged.sup = _ :=
      congrArg State.sup ((State.judged_tripped trip).trans (congrArg (State.publishLevel false) joined))
    exact ⟨(congrArg Supervisor.mode sup :), (congrArg Supervisor.level sup :), (congrArg Supervisor.effort sup :),
      fun no => absurd trip no⟩
  · have sup := standing (by tauto)
    exact ⟨(congrArg Supervisor.mode sup :), (congrArg Supervisor.level sup :), (congrArg Supervisor.effort sup :),
      fun _ => sup⟩

/-! ## Settling O29 -/

theorem serviceDemand_eq (c : ConfigRecord) (mode : Mode) (level : Level) (driver : Nat) (locked : Bool) :
    serviceDemand c mode level driver locked =
      max driver (max (if (mode = .shunt ∨ mode = .line) ∧ level ≠ .service then 0 else 64)
        (if locked then 0 else c.holdLevel)) := by
  unfold serviceDemand
  cases mode <;> cases level <;> rfl

theorem bandDemand_release_iff (mode : Mode) (locked still traction : Bool) (pinion : Option SegView) :
    bandDemand mode locked still traction pinion = .release ↔
      (mode = .shunt ∨ mode = .line) ∧ locked = true ∧
        (still = false ∨ traction = true ∨ ∃ v, pinion = some v ∧ v.seg.kind = .adhesion) := by
  have adhesion (k : SegKind) : (k == .adhesion) = decide (k = .adhesion) := by cases k <;> rfl
  unfold bandDemand
  rw [← Mode.runs_iff]
  cases mode.runs <;> cases locked <;> cases still <;> cases traction <;> cases pinion <;> simp [adhesion]

theorem emergencyDemand_release_iff (mode : Mode) :
    emergencyDemand mode = .release ↔ mode = .shunt ∨ mode = .line := by
  cases mode <;> simp [emergencyDemand, Mode.runs]

/-- Settles O29: the verdicts by the equations of the estimate, the rest by what stage 3 leaves of the Supervisor. -/
theorem passSetsTheDemands : Obligations.PassSetsTheDemands := by
  intro t s empty p r mark fresh inside len
  have ring : s.markedRing t = s.referenceRing.map mark := rfl
  have newest : newestFresh (s.markedRing t) = fresh.getLast? := rfl
  have window : windowOf t s.cfg.window (s.markedRing t) = inside := windowOf_eq ..
  have odo : p.odo = _ := State.odometryPass_odo t s
  have len_eq : incrementOf s.cfg s.reference = len := by
    cases h : s.reference <;> simp only [len, h, incrementOf]
  have speed : p.odo.speed = speedEstimate t s.cfg len s.odo.speed (s.markedRing t) := by
    rw [← len_eq]
    exact congrArg Odometry.speed odo
  have still : p.odo.standstill = standsStill t s.cfg (s.markedRing t) := congrArg Odometry.standstill odo
  have direction : p.odo.direction =
      travelDir (standsStill t s.cfg (s.markedRing t)) s.sup.drive.selector (s.markedRing t) :=
    congrArg Odometry.direction odo
  have granted := State.passed_granted t s
  have u_odo : (s.passed t).grantTransmitter.odo = p.odo := (congrArg State.odo granted :)
  have held := State.judged_sup p
  refine ⟨(s.passed t).grantTransmitter, State.supervisionPass_run empty, ?_⟩
  rw [u_odo, State.grantTransmitter_sup, State.passed_entry]
  refine ⟨by rw [State.grantTransmitter_sup] at granted; exact granted, rfl, ?_, ?_, fun h => ?_,
    fun young old many hy ho ages => ?_, fun e few moving last => ?_, fun moving e last => ?_, fun h => ?_,
    (congrArg Supervisor.pass held :), (congrArg Supervisor.inputPosition held :), ?_, (congrArg Supervisor.drive held :),
    (congrArg Supervisor.testStep held :), fun tests => ?_, fun skips => ?_, ?_, ?_, rfl, fun h => ?_⟩
  · refine odo.trans ?_
    rw [odo]
    rfl
  · rw [still, standsStill_iff, window, newest]
  · rw [speed, speedEstimate_still (still.symm.trans h)]
  · rw [← window] at many hy ho ages ⊢
    rw [speed]
    exact speedEstimate_window many hy ho ages ..
  · rw [← window] at few
    rw [speed]
    exact speedEstimate_falling few (still.symm.trans moving) last ..
  · rw [direction, ← still, moving]
    exact travelDir_moving last _
  · rw [direction, ← still, h, travelDir_still, ring, List.getLast?_map]
    cases s.sup.drive.selector <;> cases s.referenceRing.getLast? <;> rfl
  · obtain ⟨v, n, h⟩ := p.judged_framed
    exact (congrArg (fun u : State => u.cfg.holdLevel) h :)
  · have run : p.sup.testsOverrun = true := (Supervisor.testsOverrun_iff _).2 tests
    have stop : p.judged.sup.stopPoint = p.nextStopPoint r.dir r.front :=
      (congrArg Supervisor.stopPoint held :).trans (congrArg Prod.fst (if_pos run))
    refine stop.trans ?_
    unfold State.nextStopPoint
    cases known : s.route.authority.any (fun a => a.dir == r.dir) with
    | false =>
      rw [(State.authorityAhead_none (s := p)).2 known, if_neg Bool.false_ne_true]
      show (match s.sup.stopPoint with | none => _ | some q => _) = _
      rcases s.sup.stopPoint with _ | q <;> rfl
    | true =>
      obtain ⟨a, ha⟩ := Option.ne_none_iff_exists'.1
        (mt (State.authorityAhead_none (s := p) (d := r.dir)).1 (fun h => Bool.noConfusion (known.symm.trans h)))
      rw [ha, if_pos rfl]
  · have run : ¬p.sup.testsOverrun = true := mt (Supervisor.testsOverrun_iff _).1 skips
    exact (congrArg Supervisor.stopPoint held :).trans (congrArg Prod.fst (if_neg run))
  · intro enabled
    have bit (k : FaultKind) : enabled k = s.cfg.enables.testBit k.enableBit := by cases k <;> rfl
    have record : p.judged.sup.faultRecord =
        State.recordAfter { p with sup := { p.sup with inputPosition := p.odo.position } } p.passResults.2 :=
      (congrArg Supervisor.faultRecord held :)
    refine ⟨(congrArg Supervisor.faultSeen held :), fun off => ?_, fun before f after faults off on => ?_⟩
    · exact record.trans (State.recordAfter_none (State.reported_none fun g hg => (bit g.1).symm.trans (off g hg)))
    · have first (u : State) (cfg : u.cfg = s.cfg) : u.reported p.passResults.2 = some f := by
        rw [faults]
        exact State.reported_first (fun g hg => by rw [cfg, ← bit, off g hg]) (by rw [cfg, ← bit, on])
      have position : p.odo.position = s.odo.position := (congrArg Odometry.position odo :)
      refine ⟨?_, fun l => ?_⟩
      · refine record.trans ?_
        rw [State.recordAfter_some (first { p with sup := { p.sup with inputPosition := p.odo.position } } rfl)]
        exact congrArg (fun x => some (FaultRecord.mk f.1 f.2 x t)) position
      · refine (congrArg AlertEntry.latched p.judged_fault).trans ?_
        rw [State.noticeAfter_some (first p rfl)]
        exact congrArg AlertEntry.latched (Notice.latch_entry_self p.notice t _ l)
  · have formed := State.judged_formDemands p
    refine ⟨(congrArg Demands.service formed).trans (serviceDemand_eq ..), ?_, ?_⟩
    · exact (iff_of_eq (congrArg (· = SingleDemand.release) (congrArg Demands.band formed))).trans
        (bandDemand_release_iff ..)
    · exact (iff_of_eq (congrArg (· = SingleDemand.release) (congrArg Demands.emergency formed))).trans
        (emergencyDemand_release_iff _)
  · obtain ⟨mode, level, effort, kept⟩ := State.judged_kept (p := p) h
    refine ⟨mode, level, effort, fun no => ?_⟩
    have sup := kept no
    exact ⟨(congrArg Supervisor.engagementFailure sup :), (congrArg Supervisor.outputFault sup :),
      (congrArg Supervisor.trip sup :)⟩

end Sys2Proof.Machine
end

section
/-! A supervision pass that trips, and one in TRIPPED (06 §6.4, §6.5): settles O27. -/

namespace Sys2Proof.Machine

/-! ## The causes met (R111, R112, R113) -/

theorem mem_causeIf {c d : Cause} {b : Bool} : c ∈ causeIf b d ↔ b = true ∧ c = d := by
  cases b <;> simp [causeIf]

theorem causeIf_sublist (b : Bool) (c : Cause) : (causeIf b c).Sublist [c] := by
  cases b
  · exact List.nil_sublist _
  · exact List.Sublist.refl _

/-- The causes of a pass in SHUNT or LINE, each by its rule. -/
def State.Meets (s : State) (r : PassResults) (overrun : Bool) : Cause → Prop
  | .overspeed => r.permitted + s.cfg.mE < r.speed
  | .authorityOverrun => overrun = true
  | .entranceOpenMoving => s.openMoving = true
  | .rollaway => rollawayMet s.sup.drive.selector s.movement s.cfg.rollaway = true
  | .brakeEffort => False
  | .rackEngagement => s.sup.engagementFailure = true
  | .outputFault => s.sup.outputFault = true

theorem State.mem_causesRunning (s : State) (r : PassResults) (overrun : Bool) (c : Cause) :
    c ∈ s.causesRunning r overrun ↔ s.Meets r overrun c := by
  simp only [State.causesRunning, List.mem_append, mem_causeIf, decide_eq_true_iff]
  cases c <;> simp [State.Meets]

/-- The causes of a pass in TRIPPED, each by its rule. -/
def State.MeetsTripped (s : State) (overrun : Bool) : Cause → Prop
  | .authorityOverrun => overrun = true
  | .entranceOpenMoving => s.openMoving = true
  | .rackEngagement => s.sup.engagementFailure = true
  | .outputFault => s.sup.outputFault = true
  | _ => False

theorem State.mem_causesTripped (s : State) (overrun : Bool) (c : Cause) :
    c ∈ s.causesTripped overrun ↔ s.MeetsTripped overrun c := by
  simp only [State.causesTripped, List.mem_append, mem_causeIf]
  cases c <;> simp [State.MeetsTripped]

theorem State.causesRunning_sorted (s : State) (r : PassResults) (overrun : Bool) :
    (s.causesRunning r overrun).Pairwise fun a b => a.number < b.number := by
  have order : [Cause.overspeed, .authorityOverrun, .entranceOpenMoving, .rollaway, .rackEngagement, .outputFault].Pairwise
      fun a b => a.number < b.number := by decide
  unfold State.causesRunning
  exact order.sublist ((((((causeIf_sublist ..).append (causeIf_sublist ..)).append (causeIf_sublist ..)).append
    (causeIf_sublist ..)).append (causeIf_sublist ..)).append (causeIf_sublist ..))

/-- Is a position passed by the front, travelling in a direction? -/
def Dir.passed (d : Dir) (front q : Nat) : Prop :=
  match d with
  | .up => q < front
  | .down => front < q

theorem Dir.passed_iff (d : Dir) (front q : Nat) : ahead d front q < 0 ↔ d.passed front q := by
  cases d <;> simp only [ahead, Dir.passed] <;> omega

/-- The overrun of the stop point or of the authority end (R112). -/
theorem State.overrun_iff (s : State) (r : PassResults) :
    (s.overrun r).2 = true ↔ s.sup.testsOverrun = true ∧
      ((∃ a, s.route.authority = some a ∧ a.dir = r.dir ∧ r.dir.passed r.front a.endPos) ∨
        ((∀ a, s.route.authority = some a → a.dir ≠ r.dir) ∧
          ∃ q, s.sup.stopPoint = some q ∧ q.dir = r.dir ∧ r.dir.passed r.front q.position)) := by
  have same (d e : Dir) : (d == e) = true ↔ d = e := beq_iff_eq
  have stop : s.overrunMet r.dir r.front = true ↔
      (∃ a, s.authorityAhead r.dir = some a ∧ r.dir.passed r.front a.endPos) ∨
        (s.authorityAhead r.dir = none ∧
          ∃ q, s.sup.stopPoint = some q ∧ q.dir = r.dir ∧ r.dir.passed r.front q.position) := by
    unfold State.overrunMet
    rcases s.authorityAhead r.dir with _ | a
    · rcases s.sup.stopPoint with _ | q
      · simp
      · simp [Dir.passed_iff]
    · simp [Dir.passed_iff]
  unfold State.overrun
  split_ifs with tests
  · rw [stop]
    unfold State.authorityAhead
    rcases s.route.authority with _ | a
    · simp [tests]
    · by_cases h : a.dir = r.dir <;> simp [h, tests]
  · simp [tests]

theorem State.openMoving_iff (s : State) :
    s.openMoving = true ↔ s.ent.allLocked = false ∧ s.cfg.entranceMoving < s.movement.natAbs := by
  simp [State.openMoving]

/-! ## Causes joined (R116) -/

theorem Cause.number_injective {a b : Cause} (h : a.number = b.number) : a = b := by
  cases a <;> cases b <;> first | rfl | exact absurd h (by decide)

theorem mem_insertCause (c d : Cause) (l : List Cause) : d ∈ insertCause c l ↔ d = c ∨ d ∈ l := by
  induction l with
  | nil => simp [insertCause]
  | cons x l ih =>
    unfold insertCause
    split_ifs with before same
    · simp
    · subst same
      simp
    · simp only [List.mem_cons, ih]
      tauto

theorem insertCause_length {c : Cause} {l : List Cause} (new : c ∉ l) : (insertCause c l).length = l.length + 1 := by
  induction l with
  | nil => rfl
  | cons x l ih =>
    obtain ⟨hx, hl⟩ := not_or.1 (mt List.mem_cons.2 new)
    unfold insertCause
    rw [if_neg hx]
    split_ifs
    · rfl
    · rw [List.length_cons, ih hl, List.length_cons]

theorem insertCause_sorted {c : Cause} {l : List Cause} (h : l.Pairwise fun a b => a.number < b.number) :
    (insertCause c l).Pairwise fun a b => a.number < b.number := by
  induction l with
  | nil => exact List.pairwise_singleton _ _
  | cons x l ih =>
    obtain ⟨hx, hl⟩ := List.pairwise_cons.1 h
    unfold insertCause
    split_ifs with before same
    · exact List.pairwise_cons.2 ⟨fun y hy => (List.mem_cons.1 hy).elim (· ▸ before) fun hy => before.trans (hx y hy), h⟩
    · exact h
    · refine List.pairwise_cons.2 ⟨fun y hy => ?_, ih hl⟩
      rcases (mem_insertCause ..).1 hy with rfl | hy
      · exact lt_of_le_of_ne (Nat.not_lt.1 before) fun e => same (Cause.number_injective e).symm
      · exact hx y hy

/-- A trip record's causes after some have joined, and TRIP raised for each that is new. -/
structure State.Joined (s u : State) (tr : TripRecord) (cs C : List Cause) : Prop where
  trip : u.sup.trip = some { tr with causes := C }
  mem : ∀ c, c ∈ C ↔ c ∈ tr.causes ∨ c ∈ cs
  sorted : C.Pairwise fun a b => a.number < b.number
  longer : tr.causes.length ≤ C.length
  count : (u.notice.entry .trip).count =
    if C.length = tr.causes.length then (s.notice.entry .trip).count
    else min ((s.notice.entry .trip).count + (C.length - tr.causes.length)) 255
  latched : (u.notice.entry .trip).latched = ((s.notice.entry .trip).latched || decide (tr.causes.length < C.length))

theorem State.joinCauses_joined (cs : List Cause) {s : State} {tr : TripRecord} (trip : s.sup.trip = some tr)
    (sorted : tr.causes.Pairwise fun a b => a.number < b.number) (l : s.notice.alerts.length = 21) :
    ∃ C, s.Joined (cs.foldl State.joinCause s) tr cs C := by
  induction cs generalizing s tr with
  | nil =>
    refine ⟨tr.causes, trip, fun c => ?_, sorted, le_refl _, (if_pos rfl).symm, ?_⟩
    · simp
    · simp
  | cons c cs ih =>
    by_cases known : c ∈ tr.causes
    · have same : s.joinCause c = s := by
        unfold State.joinCause
        rw [trip]
        exact if_pos (List.contains_iff_mem.2 known)
      obtain ⟨C, joined⟩ := ih trip sorted l
      rw [List.foldl_cons, same]
      refine ⟨C, { joined with mem := fun d => (joined.mem d).trans ?_ }⟩
      rw [List.mem_cons]
      exact ⟨fun h => h.imp id .inr, fun h => h.elim .inl (Or.elim · (fun e => .inl (e ▸ known)) .inr)⟩
    · have joins : s.joinCause c =
          State.raise .trip { s with sup := { s.sup with trip := some { tr with causes := insertCause c tr.causes } } } := by
        unfold State.joinCause
        rw [trip]
        exact if_neg (mt List.contains_iff_mem.1 known)
      have length := insertCause_length known
      have entry := Notice.latch_entry_self s.notice s.clock.now .trip l
      obtain ⟨C, joined⟩ := ih (s := s.joinCause c) (tr := { tr with causes := insertCause c tr.causes })
        (by rw [joins]; rfl) (insertCause_sorted sorted)
        (by rw [joins]; exact (Notice.latch_length ..).trans l)
      have longer : (insertCause c tr.causes).length ≤ C.length := joined.longer
      have before : ((s.joinCause c).notice.entry .trip) =
          { s.notice.entry .trip with latched := true, count := min ((s.notice.entry .trip).count + 1) 255 } := by
        rw [joins]
        exact entry
      refine ⟨C, joined.trip, fun d => (joined.mem d).trans ?_, joined.sorted, by omega, joined.count.trans ?_,
        joined.latched.trans ?_⟩
      · rw [mem_insertCause, List.mem_cons]
        tauto
      · rw [before]
        dsimp only
        rw [length]
        split_ifs <;> omega
      · rw [before, Bool.true_or, decide_eq_true (by omega), Bool.or_true]

/-! ## Settling O27 -/

theorem State.overrun_running_iff {s : State} {r : PassResults} (running : s.sup.mode = .shunt ∨ s.sup.mode = .line) :
    (s.overrun r).2 = true ↔ s.sup.mode = .line ∧
      ((∃ a, s.route.authority = some a ∧ a.dir = r.dir ∧ r.dir.passed r.front a.endPos) ∨
        ((∀ a, s.route.authority = some a → a.dir ≠ r.dir) ∧
          ∃ q, s.sup.stopPoint = some q ∧ q.dir = r.dir ∧ r.dir.passed r.front q.position)) := by
  rw [State.overrun_iff, Supervisor.testsOverrun_iff]
  rcases running with h | h <;> simp [h]

/-- The notice of an entry into TRIPPED: its alerts and its reports. -/
theorem State.enterTrip_notice (s : State) (r : PassResults) (first : Cause) (causes : List Cause) :
    ((s.enterTrip r first causes).notice.entry .trip = (s.notice.latch s.clock.now .trip).entry .trip) ∧
      (s.notice.alerts.length = 21 →
        ((s.enterTrip r first causes).notice.entry .overspeedWarning).active = false ∧
          ((s.enterTrip r first causes).notice.entry .serviceIntervention).active = false) ∧
      (s.notice.alerts.length = 21 → s.notice.queue.length ≤ 21 →
        (s.enterTrip r first causes).notice.bodies = (s.notice.latch s.clock.now .trip).bodies ++
          [.modeChange s.sup.mode .tripped .trip] ++
            if s.sup.level = .emergency then [] else [.intervention s.sup.level .emergency r.speed r.permitted]) := by
  have notice := congrArg State.notice (State.enterTrip_eq r first causes s)
  dsimp only at notice
  rw [notice]
  refine ⟨?_, fun l => ?_, fun l q => ?_⟩
  · rw [Notice.setActive_entry_other _ _ _ (by decide), Notice.setActive_entry_other _ _ _ (by decide),
      Notice.modeReported_entry]
  · have l' := (Notice.modeReported_length (s.notice.latch s.clock.now .trip) s.clock.now
      (.modeChange s.sup.mode .tripped .trip) s.sup.level .emergency r.speed r.permitted).trans
        ((Notice.latch_length ..).trans l)
    rw [Notice.setActive_entry_other _ _ _ (by decide), Notice.setActive_entry_self _ _ _ _ l',
      Notice.setActive_entry_self _ _ _ _ ((Notice.setActive_length ..).trans l')]
    exact ⟨AlertEntry.follow_active .., AlertEntry.follow_active ..⟩
  · have room := Notice.touch_queue_length_le l (by omega) false s.clock.now .trip
    have reported := Notice.modeReported_bodies (n := s.notice.latch s.clock.now .trip)
      (room.trans (by omega)) s.clock.now (.modeChange s.sup.mode .tripped .trip) s.sup.level .emergency r.speed
      r.permitted
    refine Eq.trans ?_ reported
    exact congrArg (List.map Report.body) ((Notice.setActive_quiet_queue (.inl rfl) _).trans
      (Notice.setActive_quiet_queue (.inl rfl) _))

/-- Settles O27: entry into TRIPPED on the causes of the cause order, and the causes that join a trip record. -/
theorem passTripsOnACause : Obligations.PassTripsOnACause := by
  intro t s empty p r passed overrun openMoving
  have opens : p.openMoving = true ↔ openMoving := State.openMoving_iff p
  have position : p.odo.position = s.odo.position := (congrArg Odometry.position (State.odometryPass_odo t s) :)
  have time : r.time = t := State.passResults_time p
  refine ⟨fun running => ?_, fun tr tripped trip sorted l => ?_⟩
  · intro causes
    have overruns : (p.overrun r).2 = true ↔ s.sup.mode = .line ∧ overrun :=
      State.overrun_running_iff (s := p) running
    have mem (c : Cause) : c ∈ causes ↔ p.Meets r (p.overrun r).2 c := State.mem_causesRunning ..
    refine ⟨mem _, (mem _).trans overruns, (mem _).trans opens, (mem _).trans ?_, mem _, mem _, (mem _).1,
      State.causesRunning_sorted .., fun first more met => ?_⟩
    · show rollawayMet s.sup.drive.selector p.movement s.cfg.rollaway = true ↔ _
      rcases s.sup.drive.selector <;> exact decide_eq_true_iff
    · have trips : p.judged = p.cleared.enterTrip r first (first :: more) := State.judged_trips (p := p) running (.cause met)
      have sup : p.judged.sup = _ := congrArg State.sup (trips.trans (State.enterTrip_eq ..))
      have mode : p.judged.sup.mode = .tripped := (congrArg Supervisor.mode sup :)
      have formed := State.judged_formDemands p
      rw [mode] at formed
      have base_length : (p.noticeAfter p.passResults.2).alerts.length = s.notice.alerts.length :=
        State.noticeAfter_length p _
      obtain ⟨entry, falls, bodies⟩ := State.enterTrip_notice p.cleared r first (first :: more)
      rw [← trips] at entry falls bodies
      refine ⟨(s.passed t).grantTransmitter, State.supervisionPass_run empty, State.passed_granted t s, ?_⟩
      rw [State.grantTransmitter_sup, State.passed_entry, State.passed_entry, State.passed_entry, met]
      refine ⟨mode, (congrArg Supervisor.level sup :), (congrArg Supervisor.modeBefore sup :),
        (congrArg Supervisor.trip sup :).trans ?_, (congrArg Supervisor.effort sup :),
        (congrArg Supervisor.engagementFailure sup :), (congrArg Supervisor.outputFault sup :), ?_,
        (congrArg Demands.band formed :), (congrArg Demands.emergency formed :), fun l => ?_, fun busy l q => ?_⟩
      · show some (TripRecord.mk _ _ _ _ r.time _ _) = _
        rw [time]
        exact congrArg (fun x => some (TripRecord.mk first x r.speed r.permitted t s.sup.mode (first :: more))) position
      · have brakes : 64 ≤ serviceDemand p.cfg .tripped p.judged.sup.level p.sup.drive.brake p.ent.allLocked :=
          le_max_of_le_right (le_max_left 64 _)
        exact brakes.trans_eq (congrArg Demands.service formed).symm
      · have raised := entry.trans (Notice.latch_entry_self (p.noticeAfter p.passResults.2) t .trip (base_length.trans l))
        rw [State.noticeAfter_entry_other _ _ (by decide)] at raised
        obtain ⟨warning, service⟩ := falls (base_length.trans l)
        exact ⟨(congrArg AlertEntry.latched raised :), (congrArg AlertEntry.count raised :), warning, service⟩
      · have busy' : (s.passed t).link.tx ≠ none := by
          rw [State.passed_framed]
          exact busy
        have room := State.noticeAfter_queue_length_le (s := p) l (Nat.lt_of_le_of_lt q (by decide)) p.passResults.2
        obtain ⟨before, faults, base_bodies⟩ := State.noticeAfter_bodies p p.passResults.2
        obtain ⟨after, alert, trip_bodies⟩ := (p.noticeAfter p.passResults.2).latch_bodies t .trip
        refine ⟨before ++ after, fun y hy => ?_, ?_⟩
        · exact (List.mem_append.1 hy).elim (fun hy => ⟨_, faults y hy⟩) fun hy => ⟨_, alert y hy⟩
        · rw [State.grantTransmitter_notice_busy (s := s.passed t) busy']
          refine (bodies (base_length.trans l) (room.trans (Nat.succ_le_succ q))).trans ?_
          refine (congrArg (fun x => x ++ _ ++ _) trip_bodies).trans ?_
          rw [base_bodies, List.append_assoc p.notice.bodies]
          rfl
  · have overruns : (p.overrun r).2 = true ↔ s.sup.modeBefore = some .line ∧ overrun := by
      refine (State.overrun_iff p r).trans (and_congr ((Supervisor.testsOverrun_iff p.sup).trans ?_) Iff.rfl)
      have mode : p.sup.mode = .tripped := tripped
      rw [mode]
      exact ⟨fun h => h.elim (fun h => nomatch h) And.right, fun h => .inr ⟨rfl, h⟩⟩
    obtain ⟨C, joined⟩ := State.joinCauses_joined (p.held.causesTripped (p.overrun r).2)
      (s := { p.held with sup := { p.heldSup with engagementFailure := false, outputFault := false, effort := .idle } })
      trip sorted ((State.noticeAfter_length p _).trans l)
    obtain ⟨record, n, framed⟩ := State.joinCauses_framed (p.held.causesTripped (p.overrun r).2)
      { p.held with sup := { p.heldSup with engagementFailure := false, outputFault := false, effort := .idle } }
    have judged := State.judged_tripped (p := p) tripped
    have sup : p.judged.sup = _ := congrArg State.sup (judged.trans (congrArg (State.publishLevel false) framed))
    have record_eq : p.judged.sup.trip = some { tr with causes := C } :=
      (congrArg (fun u : State => u.sup.trip) judged).trans joined.trip
    have entry : p.judged.notice.entry .trip = _ :=
      (congrArg (fun u : State => u.notice.entry .trip) judged).trans
        ((Notice.setActive_entry_other _ _ _ (by decide)).trans (Notice.setActive_entry_other _ _ _ (by decide)))
    have before : (p.noticeAfter p.passResults.2).entry .trip = s.notice.entry .trip :=
      State.noticeAfter_entry_other _ _ (by decide)
    refine ⟨(s.passed t).grantTransmitter, C, State.supervisionPass_run empty, ?_⟩
    rw [State.grantTransmitter_sup, State.passed_entry]
    refine ⟨(congrArg Supervisor.mode sup :).trans tripped, (congrArg Supervisor.level sup :), record_eq, fun c => ?_,
      joined.sorted, ?_, ?_, (congrArg Supervisor.engagementFailure sup :), (congrArg Supervisor.outputFault sup :)⟩
    · refine (joined.mem c).trans (or_congr Iff.rfl ((State.mem_causesTripped ..).trans ?_))
      cases c
      case authorityOverrun => exact overruns
      case entranceOpenMoving => exact opens
      all_goals exact Iff.rfl
    · refine (congrArg AlertEntry.count entry).trans (joined.count.trans ?_)
      exact congrArg (fun e : AlertEntry => if C.length = tr.causes.length then e.count
        else min (e.count + (C.length - tr.causes.length)) 255) before
    · refine (congrArg AlertEntry.latched entry).trans (joined.latched.trans ?_)
      exact congrArg (fun e : AlertEntry => e.latched || decide (tr.causes.length < C.length)) before

end Sys2Proof.Machine
end

section
/-! The stages of an entrance cycle (08 §8.1 to §8.5, §8.8 to §8.10), one leaf and one side at a time. -/

namespace Sys2Proof.Machine

/-! ## Changes of the entrances and the reports they post -/

/-- `u` is `s` with its entrances changed and the reports `b` posted. -/
structure State.EntTo (s u : State) (b : List ReportBody) : Prop where
  frame : u = { s with ent := u.ent, notice := u.notice }
  alerts : u.notice.alerts = s.notice.alerts
  queue : s.notice.queue.length + b.length ≤ 24 → u.notice.bodies = s.notice.bodies ++ b

theorem State.EntTo.trans {s u v : State} {b c : List ReportBody} (h : s.EntTo u b) (k : u.EntTo v c) :
    s.EntTo v (b ++ c) := by
  refine ⟨k.frame.trans (by rw [h.frame]), k.alerts.trans h.alerts, fun room => ?_⟩
  rw [List.length_append] at room
  have first := h.queue (by omega)
  have length : u.notice.queue.length = s.notice.queue.length + b.length := by
    rw [← Notice.bodies_length, first, List.length_append, Notice.bodies_length]
  rw [k.queue (by omega), first, List.append_assoc]

theorem State.EntTo.withEnt (s : State) (e : Entrances) : s.EntTo { s with ent := e } [] :=
  ⟨rfl, rfl, fun _ => (List.append_nil _).symm⟩

theorem State.EntTo.refl (s : State) : s.EntTo s [] := ⟨rfl, rfl, fun _ => (List.append_nil _).symm⟩

/-- A report of an entrance. -/
theorem State.EntTo.post (s : State) (b : ReportBody) : s.EntTo (s.post b) [b] :=
  ⟨rfl, Notice.post_alerts .., fun room => Notice.post_bodies (Nat.lt_of_succ_le room) ..⟩

theorem State.LeavesTo.entTo {s u : State} {f : Fin 8 → LeafRecord} {b : List ReportBody} (h : s.LeavesTo u f b) :
    s.EntTo u b :=
  ⟨h.frame.trans (by rw [h.frame]; rfl), h.alerts, h.queue⟩

theorem State.LeavesTo.ent {s u : State} {f : Fin 8 → LeafRecord} {b : List ReportBody} (h : s.LeavesTo u f b) :
    u.ent = { s.ent with leaves := u.ent.leaves } := by
  conv_lhs => rw [h.frame]
  rfl

/-! ## Stage 1 (R143, R144, R167) -/

theorem LeafInput.good_iff (x : LeafInput) :
    x.good = true ↔ x.idleHigh = true ∧ ((List.range 13).map fun i => x.burst.getLsbD i).count true % 2 = 1 := by
  have ones : ((List.range 13).map fun i => x.burst.getLsbD i).count true = burstOnes x.burst := by
    rw [burstOnes, ← List.countP_eq_length_filter, List.count, List.countP_map]
    exact List.countP_congr fun i _ => by simp
  rw [ones, LeafInput.good, Bool.and_eq_true, beq_iff_eq]

theorem LeafInput.counts_eq (x : LeafInput) : x.counts = (x.burst.extractLsb' 1 12).toNat := by
  have small := x.burst.isLt
  rw [LeafInput.counts, BitVec.extractLsb'_toNat, Nat.shiftRight_one, Nat.mod_eq_of_lt (by omega)]

/-- The record of a leaf whose read is taken at stage 1. -/
def LeafRecord.taken (now : Time) (tol : Nat) (x : LeafInput) (r : LeafRecord) : LeafRecord :=
  if x.good = false then
    if (r.read x).failed = 3 ∧ (r.read x).state.faultsOnReads = true then (r.read x).enterFault now .sensor else r.read x
  else if (r.read x).pending = false then r.read x
  else if (r.read x).state.faultsOnReads = true then
    LeafRecord.enter now (if (r.read x).locked tol then .closed else .opened) none { r.read x with pending := false }
  else { r.read x with pending := false }

/-- The first successful read that sets a state. -/
def LeafRecord.firstRead (x : LeafInput) (r : LeafRecord) : Bool := r.pending && x.good && r.state.faultsOnReads

/-- The ENTRANCE reports of a read. -/
def readReports (now : Time) (tol : Nat) (x : LeafInput) (i : Fin 8) (r : LeafRecord) : List ReportBody :=
  if (r.taken now tol x).state ≠ r.state ∨ r.firstRead x = true then
    [.entrance i.val (r.taken now tol x).state (r.taken now tol x).cause]
  else []

theorem LeafRecord.read_state (x : LeafInput) (r : LeafRecord) : (r.read x).state = r.state := by
  unfold LeafRecord.read
  split <;> rfl

theorem LeafRecord.read_pending (x : LeafInput) (r : LeafRecord) : (r.read x).pending = r.pending := by
  unfold LeafRecord.read
  split <;> rfl

/-- One leaf set to a record with its report. -/
theorem State.reportLeaf_leavesTo (s : State) (i : Fin 8) (r : LeafRecord) (b : ReportBody) :
    s.LeavesTo (State.post b { s with ent := { s.ent with leaves := s.ent.leaves.set i r } })
      (fun j => if j = i then r else s.ent.leaves.get j) [b] := by
  refine ⟨rfl, fun j => ?_, Notice.post_alerts .., fun room => Notice.post_bodies (Nat.lt_of_succ_le room) ..⟩
  show (s.ent.leaves.set i r).get j = _
  split_ifs with h
  · rw [h, Eight.get_set_self]
  · exact Eight.get_set_other _ _ _ _ h

theorem State.readLeaf_leavesTo (s : State) (x : LeafInput) (i : Fin 8) :
    s.LeavesTo (s.readLeaf x i)
      (fun j => if j = i then (s.ent.leaves.get i).taken s.clock.now s.cfg.closedTol x else s.ent.leaves.get j)
      (readReports s.clock.now s.cfg.closedTol x i (s.ent.leaves.get i)) := by
  have put {r : LeafRecord} (h : (s.ent.leaves.get i).taken s.clock.now s.cfg.closedTol x = r)
      (late : (s.ent.leaves.get i).firstRead x = false) :
      s.LeavesTo (s.putLeaf i r)
        (fun j => if j = i then (s.ent.leaves.get i).taken s.clock.now s.cfg.closedTol x else s.ent.leaves.get j)
        (readReports s.clock.now s.cfg.closedTol x i (s.ent.leaves.get i)) := by
    have put := s.putLeaf_leavesTo i r
    have reports : readReports s.clock.now s.cfg.closedTol x i (s.ent.leaves.get i) =
        leafReports i (s.ent.leaves.get i) r := by
      unfold readReports leafReports
      rw [h, late]
      by_cases same : r.state = (s.ent.leaves.get i).state
      · rw [if_pos same, if_neg (by simp [same])]
      · rw [if_neg same, if_pos (.inl same)]
    rw [reports, h]
    exact put
  unfold State.readLeaf
  dsimp only
  have firstRead : (s.ent.leaves.get i).firstRead x = (((s.ent.leaves.get i).read x).pending && x.good &&
      ((s.ent.leaves.get i).read x).state.faultsOnReads) := by
    rw [LeafRecord.read_state, LeafRecord.read_pending, LeafRecord.firstRead]
  cases good : x.good with
  | false =>
    have late : (s.ent.leaves.get i).firstRead x = false := by simp [firstRead, good]
    have taken : (s.ent.leaves.get i).taken s.clock.now s.cfg.closedTol x = _ := if_pos good
    rw [Bool.not_false, if_pos rfl]
    by_cases third : ((s.ent.leaves.get i).read x).failed = 3 ∧ ((s.ent.leaves.get i).read x).state.faultsOnReads = true
    · rw [if_pos third]
      exact put (taken.trans (if_pos third)) late
    · rw [if_neg third]
      exact put (taken.trans (if_neg third)) late
  | true =>
    have taken : (s.ent.leaves.get i).taken s.clock.now s.cfg.closedTol x = _ := if_neg (by simp [good])
    rw [Bool.not_true, if_neg Bool.false_ne_true]
    cases pending : ((s.ent.leaves.get i).read x).pending with
    | false =>
      rw [Bool.not_false, if_pos rfl]
      exact put (taken.trans (if_pos pending)) (by simp [firstRead, pending])
    | true =>
      have taken := taken.trans (if_neg fun h => Bool.noConfusion (pending.symm.trans h))
      rw [Bool.not_true, if_neg Bool.false_ne_true]
      cases faults : ((s.ent.leaves.get i).read x).state.faultsOnReads with
      | false =>
        rw [if_neg Bool.false_ne_true]
        exact put (taken.trans (if_neg fun h => Bool.noConfusion (faults.symm.trans h))) (by simp [firstRead, faults])
      | true =>
        have taken := taken.trans (if_pos faults)
        have first : (s.ent.leaves.get i).firstRead x = true := by simp [firstRead, pending, good, faults]
        have reports : readReports s.clock.now s.cfg.closedTol x i (s.ent.leaves.get i) = _ := if_pos (.inr first)
        rw [reports, taken, if_pos rfl]
        exact s.reportLeaf_leavesTo i _ _

theorem allLeaves_nodup : allLeaves.Nodup := by decide

theorem mem_allLeaves (i : Fin 8) : i ∈ allLeaves := by fin_cases i <;> decide

/-- Stage 1 as a whole. -/
theorem State.readLeaves_leavesTo (s : State) (inputs : Eight LeafInput) :
    s.LeavesTo (allLeaves.foldl (fun s i => s.readLeaf (inputs.get i) i) s)
      (fun i => (s.ent.leaves.get i).taken s.clock.now s.cfg.closedTol (inputs.get i))
      (allLeaves.flatMap fun i => readReports s.clock.now s.cfg.closedTol (inputs.get i) i (s.ent.leaves.get i)) := by
  have run := State.leavesTo_foldl_self (s := s) (g := fun s i => s.readLeaf (inputs.get i) i)
    (F := fun i r => r.taken s.clock.now s.cfg.closedTol (inputs.get i))
    (R := fun i r => readReports s.clock.now s.cfg.closedTol (inputs.get i) i r)
    (fun x n i => State.readLeaf_leavesTo (s.withLeaves x n) (inputs.get i) i) allLeaves_nodup
  simpa only [mem_allLeaves, if_true] using run

/-! ## Stage 2 (R162) -/

/-- The record of a leaf whose side is granted. -/
def LeafRecord.handed (now : Time) (r : LeafRecord) : LeafRecord :=
  if r.state = .isolated then r else r.handOver now

theorem State.handOverLeaf_eq (s : State) (i : Fin 8) :
    s.handOverLeaf i = s.putLeaf i ((s.ent.leaves.get i).handed s.clock.now) := by
  unfold State.handOverLeaf LeafRecord.handed
  dsimp only
  split_ifs
  · exact (s.putLeaf_same i).symm
  · rfl

/-- The reports of a takeover that is granted at stage 2. -/
def grantReports (now : Time) (x : Takeover) (f : Fin 8 → LeafRecord) (d : Side) : List ReportBody :=
  if x = .pending then (d.leaves.flatMap fun i => leafReports i (f i) ((f i).handed now)) ++ [.takeover d .granted]
  else []

/-- What the grant of one side does to the entrances. -/
theorem State.grantTakeover_entTo (d : Side) (s : State) :
    s.EntTo (s.grantTakeover d) (grantReports s.clock.now (s.ent.takeover d) s.ent.leaves.get d) ∧
      ∃ x, (s.grantTakeover d).ent =
          { (if s.ent.takeover d = .pending then s.ent.setTakeover d .granted else s.ent) with leaves := x } ∧
        ∀ i, x.get i = if s.ent.takeover d = .pending ∧ leafSide i = d then (s.ent.leaves.get i).handed s.clock.now
          else s.ent.leaves.get i := by
  by_cases h : s.ent.takeover d = .pending
  · have run := State.leavesTo_foldl_self (s := s) (g := State.handOverLeaf)
      (F := fun _ r => r.handed s.clock.now) (R := fun i r => leafReports i r (r.handed s.clock.now))
      (fun x n i => by
        rw [State.handOverLeaf_eq]
        exact State.putLeaf_leavesTo (s.withLeaves x n) i _) d.leaves_nodup
    have granted : s.grantTakeover d = State.post (.takeover d .granted)
        { d.leaves.foldl State.handOverLeaf s with
          ent := (d.leaves.foldl State.handOverLeaf s).ent.setTakeover d .granted } := by
      unfold State.grantTakeover
      rw [h]
    rw [granted, grantReports, if_pos h]
    refine ⟨?_, (d.leaves.foldl State.handOverLeaf s).ent.leaves, ?_, fun i => (run.leaves i).trans ?_⟩
    · exact run.entTo.trans ((State.EntTo.withEnt _ _).trans (State.EntTo.post _ _))
    · rw [if_pos h, run.ent]
      cases d <;> rfl
    · simp only [Side.mem_leaves, h, true_and]
  · have stays : s.grantTakeover d = s := by
      unfold State.grantTakeover
      split
      · exact absurd ‹_› h
      · rfl
    rw [stays, grantReports, if_neg h]
    refine ⟨State.EntTo.refl s, s.ent.leaves, by rw [if_neg h], fun i => ?_⟩
    rw [if_neg fun k => h k.1]

/-- Stage 2 as a whole, LEFT first. -/
theorem State.grantTakeovers_entTo (s : State) :
    s.EntTo ((s.grantTakeover .left).grantTakeover .right)
        ([Side.left, .right].flatMap fun d => grantReports s.clock.now (s.ent.takeover d) s.ent.leaves.get d) ∧
      ∃ x, ((s.grantTakeover .left).grantTakeover .right).ent =
          { s.ent with
            takeoverLeft := if s.ent.takeoverLeft = .pending then .granted else s.ent.takeoverLeft
            takeoverRight := if s.ent.takeoverRight = .pending then .granted else s.ent.takeoverRight
            leaves := x } ∧
        ∀ i, x.get i = if s.ent.takeover (leafSide i) = .pending then (s.ent.leaves.get i).handed s.clock.now
          else s.ent.leaves.get i := by
  obtain ⟨left, x, ent, leaves⟩ := s.grantTakeover_entTo .left
  obtain ⟨right, y, ent', leaves'⟩ := (s.grantTakeover .left).grantTakeover_entTo .right
  have now : (s.grantTakeover .left).clock = s.clock := (congrArg State.clock left.frame :)
  have other : (s.grantTakeover .left).ent.takeover .right = s.ent.takeover .right := by
    rw [ent]
    split_ifs <;> rfl
  have get : (s.grantTakeover .left).ent.leaves = x := by rw [ent]
  rw [now, other, get] at right leaves'
  rw [other] at ent'
  have reports : grantReports s.clock.now (s.ent.takeover .right) x.get .right =
      grantReports s.clock.now (s.ent.takeover .right) s.ent.leaves.get .right := by
    unfold grantReports
    have same (i : Fin 8) (hi : i ∈ Side.right.leaves) : x.get i = s.ent.leaves.get i := by
      rw [leaves i, if_neg]
      rw [(Side.mem_leaves _ i).1 hi]
      exact fun h => nomatch h.2
    rw [List.flatMap_congr fun i hi => by rw [same i hi]]
  rw [reports] at right
  refine ⟨?_, y, ?_, fun i => ?_⟩
  · have both := left.trans right
    rw [List.flatMap_cons, List.flatMap_cons, List.flatMap_nil, List.append_nil]
    exact both
  · rw [ent', ent]
    simp only [Entrances.takeover]
    by_cases l : s.ent.takeoverLeft = .pending <;> by_cases r : s.ent.takeoverRight = .pending <;>
      simp only [l, r, if_true, if_false, Entrances.setTakeover]
  · rw [leaves' i, leaves i]
    cases side : leafSide i <;> simp

/-! ## Stage 3 (R146 to R153) -/

theorem State.stepLeaves_leavesTo (s : State) :
    s.LeavesTo (allLeaves.foldl State.stepLeaf s) (fun i => (s.ent.leaves.get i).step s.clock.now s.cfg)
      (allLeaves.flatMap fun i => leafReports i (s.ent.leaves.get i) ((s.ent.leaves.get i).step s.clock.now s.cfg)) := by
  have run := State.leavesTo_foldl_self (s := s) (g := State.stepLeaf) (F := fun _ r => r.step s.clock.now s.cfg)
    (R := fun i r => leafReports i r (r.step s.clock.now s.cfg))
    (fun x n i => State.putLeaf_leavesTo (s.withLeaves x n) i ((x.get i).step s.clock.now s.cfg)) allLeaves_nodup
  simpa only [mem_allLeaves, if_true] using run

/-! ## Stage 5 (R160, R161, R165) -/

theorem State.clearMark_leavesTo (s : State) (i : Fin 8) :
    s.LeavesTo (s.clearMark i)
      (fun j => if j = i then { s.ent.leaves.get i with returnMark := false } else s.ent.leaves.get j) [] := by
  refine ⟨rfl, fun j => ?_, rfl, fun _ => (List.append_nil _).symm⟩
  show (s.ent.leaves.set i _).get j = _
  split_ifs with h
  · rw [h, Eight.get_set_self]
  · exact Eight.get_set_other _ _ _ _ h

/-- The report of a release that changes between GRANTED and WITHHELD. -/
def releaseReports (d : Side) (former new : Release) : List ReportBody :=
  if former.isGranted = new.isGranted then [] else [.release d new]

/-- What the release of one side does to the entrances. -/
theorem State.releaseSide_entTo (d : Side) (s : State) :
    s.EntTo (s.releaseSide d) (releaseReports d (s.ent.release d) (s.formRelease d)) ∧
      ∃ x, (s.releaseSide d).ent = { s.ent.setRelease d (s.formRelease d) with leaves := x } ∧
        ∀ i, x.get i = if leafSide i = d ∧ s.formRelease d = .granted then { s.ent.leaves.get i with returnMark := false }
          else s.ent.leaves.get i := by
  let s1 : State := { s with ent := s.ent.setRelease d (s.formRelease d) }
  have same : s1.ent.leaves = s.ent.leaves := by cases d <;> rfl
  have cleared : ∃ f, s1.LeavesTo (if (s.formRelease d).isGranted then d.leaves.foldl State.clearMark s1 else s1) f [] ∧
      ∀ i, f i = if leafSide i = d ∧ s.formRelease d = .granted then { s.ent.leaves.get i with returnMark := false }
        else s.ent.leaves.get i := by
    by_cases granted : s.formRelease d = .granted
    · have run := State.leavesTo_foldl_self (s := s1) (g := State.clearMark)
        (F := fun _ r => { r with returnMark := false }) (R := fun _ _ => [])
        (fun x n i => State.clearMark_leavesTo (s1.withLeaves x n) i) d.leaves_nodup
      rw [List.flatMap_eq_nil_iff.2 fun _ _ => rfl] at run
      rw [if_pos ((Release.isGranted_iff _).2 granted)]
      refine ⟨_, run, fun i => ?_⟩
      simp only [Side.mem_leaves, granted, and_true, same]
    · rw [if_neg (mt (Release.isGranted_iff _).1 granted)]
      refine ⟨_, State.LeavesTo.refl s1, fun i => ?_⟩
      rw [if_neg fun k => granted k.2, same]
  obtain ⟨f, run, leaves⟩ := cleared
  have first := (State.EntTo.withEnt s (s.ent.setRelease d (s.formRelease d))).trans run.entTo
  have form : s.releaseSide d =
      if (s.ent.release d).isGranted = (s.formRelease d).isGranted then
        (if (s.formRelease d).isGranted then d.leaves.foldl State.clearMark s1 else s1)
      else State.post (.release d (s.formRelease d))
        (if (s.formRelease d).isGranted then d.leaves.foldl State.clearMark s1 else s1) := rfl
  refine ⟨?_, _, ?_, fun i => (run.leaves i).trans (leaves i)⟩
  · rw [form, releaseReports]
    by_cases stands : (s.ent.release d).isGranted = (s.formRelease d).isGranted
    · rw [if_pos stands, if_pos stands]
      exact first
    · rw [if_neg stands, if_neg stands]
      exact first.trans (State.EntTo.post _ _)
  · rw [form]
    refine Eq.trans ?_ run.ent
    split_ifs <;> rfl

end Sys2Proof.Machine
end

section
/-! The entrance cycle as a whole (08 §8.1 to §8.12): settles O45. -/

namespace Sys2Proof.Machine

/-! ## The leaf machine case by case (R146 to R153) -/

namespace LeafRecord

variable {r : LeafRecord} {now : Time} {c : ConfigRecord}

theorem step_unlocking (h : r.state = .unlocking) :
    r.step now c = if r.lockProven then r.unlockTimeout now else r.enter now .opening none := by
  unfold step
  rw [h]

theorem step_opening (h : r.state = .opening) :
    r.step now c = if r.atOpen c.openCount then r.enter now .opened none else r := by
  unfold step
  rw [h]

theorem step_warning (h : r.state = .warning) : r.step now c = r.warningElapsed now c.warningTime := by
  unfold step
  rw [h]

theorem step_locking (h : r.state = .closing) (phase : r.phase = some .locking) :
    r.step now c = if r.locked c.closedTol then r.enter now .closed none else r.lockTimeout now c.closedTol := by
  unfold step
  rw [h, phase]

theorem step_driving (h : r.state = .closing) (phase : r.phase = some .driving) : r.step now c = r.stepClosing now c := by
  unfold step
  rw [h, phase]

theorem step_turning (h : r.state = .reopening) (phase : r.phase = some .turning) :
    r.step now c = r.enter now .opening none := by
  unfold step
  rw [h, phase]

theorem step_reopening (h : r.state = .reopening) (phase : r.phase = some .driving) :
    r.step now c = r.stepReopening now := by
  unfold step
  rw [h, phase]

theorem step_pause (h : r.state = .reopening) (phase : r.phase = some .pause) : r.step now c = r.pauseElapsed now := by
  unfold step
  rw [h, phase]

theorem step_closed (h : r.state = .closed) :
    r.step now c = if !r.lockProven || r.above c.closedTol then r.enterFault now .forced else r := by
  unfold step
  rw [h]

theorem step_resting (h : r.state = .opened ∨ r.state = .obstructed ∨ r.state = .isolated ∨ r.state = .manual ∨
    r.state = .fault) : r.step now c = r := by
  unfold step
  rcases h with h | h | h | h | h <;> rw [h]

theorem sensedClosed_iff (tol : Nat) : r.sensedClosed tol = true ↔ r.failed = 0 ∧ ∃ p, r.position = some p ∧ p ≤ tol := by
  unfold sensedClosed
  cases r.position <;> simp

theorem above_iff (tol : Nat) : r.above tol = true ↔ r.failed = 0 ∧ ∃ p, r.position = some p ∧ tol < p := by
  unfold above
  cases r.position <;> simp

theorem atOpen_iff (n : Nat) : r.atOpen n = true ↔ r.failed = 0 ∧ ∃ p, r.position = some p ∧ n - 20 ≤ p := by
  unfold atOpen
  cases r.position <;> simp [Config.openSlack]

theorem locked_iff (tol : Nat) :
    r.locked tol = true ↔ (r.failed = 0 ∧ ∃ p, r.position = some p ∧ p ≤ tol) ∧ r.lockProven = true := by
  rw [locked, Bool.and_eq_true, sensedClosed_iff]

theorem counts_iff (tol : Nat) :
    r.counts tol = true ↔ r.pending = false ∧ (r.state = .closed ∨ r.state = .isolated ∨
      (r.state = .manual ∧ (r.failed = 0 ∧ ∃ p, r.position = some p ∧ p ≤ tol) ∧ r.lockProven = true)) := by
  rw [← locked_iff]
  unfold counts
  cases r.state <;> simp

theorem stepReopening_reached {p q : Nat} (position : r.position = some p) (target : r.target = some q)
    (read : r.failed = 0) (reached : q ≤ p) : r.stepReopening now = r.enter now .reopening (some .pause) := by
  unfold stepReopening
  rw [position, target]
  exact if_pos ⟨read, reached⟩

theorem stepReopening_stays (h : ∀ p q, r.failed = 0 → r.position = some p → r.target = some q → p < q) :
    r.stepReopening now = r := by
  unfold stepReopening
  split
  · rename_i p q position target
    exact if_neg fun ⟨read, reached⟩ => Nat.not_lt.2 reached (h p q read position target)
  · rfl

end LeafRecord

/-! ## The releases (R160) -/

/-- The platform extents that contain the car span on a side. -/
def State.extentsAt (s : State) (d : Side) : List Platform :=
  (s.views.filterMap fun v => v.seg.platform).filter fun p =>
    decide (s.odo.localisation ≠ .unlocalised ∧
      p.fromPos ≤ min ((s.odo.position : Int) - s.cfg.carLength - s.odo.uncertainty).toNat (s.lineEnd.getD 0) ∧
        min (s.odo.position + s.odo.uncertainty) (s.lineEnd.getD 0) ≤ p.toPos) && p.side.serves d

theorem clampPoint_clampPoint (e : Nat) (p : Int) : clampPoint e (clampPoint e p : Nat) = clampPoint e p := by
  unfold clampPoint
  omega

theorem State.sideExtents_known {s : State} {d : Side} (h : s.odo.localisation ≠ .unlocalised) :
    s.sideExtents d =
      (s.platforms (s.spanFrom (s.lineEnd.getD 0)) (s.spanTo (s.lineEnd.getD 0))).filter fun p => p.side.serves d := by
  unfold State.sideExtents
  split
  · exact absurd ‹_› h
  · rfl

theorem State.sideExtents_eq (s : State) (d : Side) : (s.sideExtents d).map PlatformAt.toPlatform = s.extentsAt d := by
  have views (h : s.lineEnd = none) : s.views = [] := by
    unfold State.lineEnd at h
    unfold State.views
    cases hb : s.activeBank with
    | none => rfl
    | some b =>
      rw [hb] at h
      dsimp only at h ⊢
      unfold Bank.views
      cases hh : b.header with
      | none => rfl
      | some x =>
        rw [hh] at h
        exact nomatch h
  have placed (l : List SegView) (q : Platform → Bool) :
      ((l.filterMap fun v => v.seg.platform.map fun p => ({ p with segment := v.index } : PlatformAt)).filter
        fun p => q p.toPlatform).map PlatformAt.toPlatform = (l.filterMap fun v => v.seg.platform).filter q := by
    induction l with
    | nil => rfl
    | cons v l ih =>
      cases h : v.seg.platform with
      | none => simpa [h] using ih
      | some p => by_cases hq : q p = true <;> simpa [h, List.filter_cons, hq] using ih
  unfold State.extentsAt
  by_cases lost : s.odo.localisation = .unlocalised
  · unfold State.sideExtents
    rw [lost]
    simp
  · rw [State.sideExtents_known lost]
    unfold State.platforms
    cases he : s.lineEnd with
    | none => rw [views he]; rfl
    | some e =>
      dsimp only [Option.getD_some]
      rw [List.filter_filter]
      refine Eq.trans ?_ (placed s.views _)
      refine congrArg (List.map PlatformAt.toPlatform) (List.filter_congr fun p _ => ?_)
      have lo : clampPoint e (s.spanFrom e : Nat) =
          min ((s.odo.position : Int) - s.cfg.carLength - s.odo.uncertainty).toNat e := clampPoint_clampPoint ..
      have hi : clampPoint e (s.spanTo e : Nat) = min (s.odo.position + s.odo.uncertainty) e :=
        (clampPoint_clampPoint ..).trans (by unfold clampPoint; omega)
      simp only [lo, hi, lost, ne_eq, not_false_iff, true_and, Bool.decide_and]
      exact Bool.and_comm ..

/-! ## The cycle -/

section Cycle

variable (inputs : Eight LeafInput) (s : State)

/-- A leaf after stage 1. -/
def State.takenLeaf (i : Fin 8) : LeafRecord :=
  (s.ent.leaves.get i).taken s.clock.now s.cfg.closedTol (inputs.get i)

/-- A leaf after stage 2. -/
def State.handedLeaf (i : Fin 8) : LeafRecord :=
  if s.ent.takeover (leafSide i) = .pending then (s.takenLeaf inputs i).handed s.clock.now else s.takenLeaf inputs i

/-- A leaf after stage 3. -/
def State.steppedLeaf (i : Fin 8) : LeafRecord := (s.handedLeaf inputs i).step s.clock.now s.cfg

/-- A leaf after stage 5. -/
def State.markedLeaf (i : Fin 8) : LeafRecord :=
  if s.formRelease (leafSide i) = .granted then { s.steppedLeaf inputs i with returnMark := false }
  else s.steppedLeaf inputs i

/-- The reports of stages 1 to 5. -/
def State.cycleReports : List ReportBody :=
  (allLeaves.flatMap fun i => readReports s.clock.now s.cfg.closedTol (inputs.get i) i (s.ent.leaves.get i)) ++
  ([Side.left, .right].flatMap fun d => grantReports s.clock.now (s.ent.takeover d) (s.takenLeaf inputs) d) ++
  (allLeaves.flatMap fun i => leafReports i (s.handedLeaf inputs i) (s.steppedLeaf inputs i)) ++
  ([Side.left, .right].flatMap fun d => releaseReports d (s.ent.release d) (s.formRelease d))

end Cycle

theorem State.EntTo.formRelease {s u : State} {b : List ReportBody} (h : s.EntTo u b) (d : Side) :
    u.formRelease d = s.formRelease d := by
  rw [h.frame]
  rfl

/-- Stages 1 to 3. -/
def State.cycleLeaves (inputs : Eight LeafInput) (s : State) : State :=
  allLeaves.foldl State.stepLeaf
    (((allLeaves.foldl (fun (s : State) i => s.readLeaf (inputs.get i) i)
      { s with ent := { s.ent with cycleTime := some s.clock.now, closedTol := s.cfg.closedTol } }).grantTakeover
        .left).grantTakeover .right)

theorem State.cycleLeaves_spec (inputs : Eight LeafInput) (s : State) :
    s.EntTo (s.cycleLeaves inputs)
        ((allLeaves.flatMap fun i => readReports s.clock.now s.cfg.closedTol (inputs.get i) i (s.ent.leaves.get i)) ++
          ([Side.left, .right].flatMap fun d => grantReports s.clock.now (s.ent.takeover d) (s.takenLeaf inputs) d) ++
          (allLeaves.flatMap fun i => leafReports i (s.handedLeaf inputs i) (s.steppedLeaf inputs i))) ∧
      ∃ x, (s.cycleLeaves inputs).ent =
          { s.ent with
            cycleTime := some s.clock.now
            closedTol := s.cfg.closedTol
            takeoverLeft := if s.ent.takeoverLeft = .pending then .granted else s.ent.takeoverLeft
            takeoverRight := if s.ent.takeoverRight = .pending then .granted else s.ent.takeoverRight
            leaves := x } ∧
        ∀ i, x.get i = s.steppedLeaf inputs i := by
  unfold State.cycleLeaves
  have start := State.EntTo.withEnt s { s.ent with cycleTime := some s.clock.now, closedTol := s.cfg.closedTol }
  have one := State.readLeaves_leavesTo
    { s with ent := { s.ent with cycleTime := some s.clock.now, closedTol := s.cfg.closedTol } } inputs
  generalize allLeaves.foldl (fun (s : State) i => s.readLeaf (inputs.get i) i)
    { s with ent := { s.ent with cycleTime := some s.clock.now, closedTol := s.cfg.closedTol } } = s1 at one ⊢
  have frame1 := start.trans one.entTo
  obtain ⟨two, x, ent2, leaves2⟩ := s1.grantTakeovers_entTo
  generalize (s1.grantTakeover .left).grantTakeover .right = s2 at two ent2 ⊢
  have frame2 := frame1.trans two
  have three := s2.stepLeaves_leavesTo
  generalize allLeaves.foldl State.stepLeaf s2 = s3 at three ⊢
  have frame3 := frame2.trans three.entTo
  have clock1 : s1.clock = s.clock := (congrArg State.clock frame1.frame :)
  have clock2 : s2.clock = s.clock := (congrArg State.clock frame2.frame :)
  have cfg2 : s2.cfg = s.cfg := (congrArg State.cfg frame2.frame :)
  have ent1 := one.ent
  have takeover1 (d : Side) : s1.ent.takeover d = s.ent.takeover d := by
    rw [ent1]
    cases d <;> rfl
  have taken : s1.ent.leaves.get = s.takenLeaf inputs := funext one.leaves
  have handed : s2.ent.leaves.get = s.handedLeaf inputs := by
    refine funext fun i => ?_
    have h := leaves2 i
    rw [clock1, takeover1, taken] at h
    rw [ent2]
    exact h
  have stepped (i : Fin 8) : s3.ent.leaves.get i = s.steppedLeaf inputs i := by
    rw [three.leaves i, handed, clock2, cfg2]
    rfl
  refine ⟨?_, s3.ent.leaves, ?_, stepped⟩
  · simp only [takeover1, taken, handed, clock1, clock2, cfg2] at frame3
    exact frame3
  · have ent3 := three.ent
    rw [ent2, ent1] at ent3
    exact ent3

/-- Stage 5 as a whole, LEFT first. -/
theorem State.releaseSides_entTo (s : State) :
    s.EntTo ((s.releaseSide .left).releaseSide .right)
        ([Side.left, .right].flatMap fun d => releaseReports d (s.ent.release d) (s.formRelease d)) ∧
      ∃ x, ((s.releaseSide .left).releaseSide .right).ent =
          { s.ent with releaseLeft := s.formRelease .left, releaseRight := s.formRelease .right, leaves := x } ∧
        ∀ i, x.get i = if s.formRelease (leafSide i) = .granted then { s.ent.leaves.get i with returnMark := false }
          else s.ent.leaves.get i := by
  obtain ⟨left, x, ent, leaves⟩ := s.releaseSide_entTo .left
  obtain ⟨right, y, ent', leaves'⟩ := (s.releaseSide .left).releaseSide_entTo .right
  have form := left.formRelease .right
  generalize s.releaseSide .left = u at left ent right ent' leaves' form ⊢
  have other : u.ent.release .right = s.ent.release .right := by
    rw [ent]
    rfl
  have get : u.ent.leaves = x := by rw [ent]
  rw [form, other] at right
  rw [form] at ent' leaves'
  rw [get] at leaves'
  refine ⟨?_, y, ?_, fun i => ?_⟩
  · rw [List.flatMap_cons, List.flatMap_cons, List.flatMap_nil, List.append_nil]
    exact left.trans right
  · rw [ent', ent]
    rfl
  · rw [leaves' i, leaves i]
    cases leafSide i <;> simp

/-- Stage 4. -/
def State.summed (s : State) : State := { s with ent := { s.ent with allLocked := s.formAllLocked } }

theorem State.entranceCycle_eq (inputs : Eight LeafInput) (s : State) :
    s.entranceCycle inputs =
      (((s.cycleLeaves inputs).summed.releaseSide .left).releaseSide .right).publishEntrances := by
  unfold State.entranceCycle State.cycleLeaves
  dsimp only
  generalize allLeaves.foldl State.stepLeaf _ = s3
  rfl

/-- The state before stage 6. -/
theorem State.entranceCycle_spec (inputs : Eight LeafInput) (s : State) :
    ∃ m, s.entranceCycle inputs = m.publishEntrances ∧ s.EntTo m (s.cycleReports inputs) ∧
      (∀ i, m.ent.leaves.get i = s.markedLeaf inputs i) ∧
      m.ent.releaseLeft = s.formRelease .left ∧ m.ent.releaseRight = s.formRelease .right ∧
      (∀ d, m.ent.takeover d = if s.ent.takeover d = .pending then .granted else s.ent.takeover d) ∧
      (m.ent.allLocked = true ↔ ∀ i, (s.steppedLeaf inputs i).counts s.cfg.closedTol = true) ∧
      m.ent.cycleTime = some s.clock.now ∧ m.ent.closedTol = s.cfg.closedTol := by
  obtain ⟨first, x, ent, leaves⟩ := s.cycleLeaves_spec inputs
  rw [State.entranceCycle_eq]
  generalize s.cycleLeaves inputs = s3 at first ent ⊢
  have summary : s3.EntTo s3.summed [] := State.EntTo.withEnt s3 _
  have locked : s3.formAllLocked = true ↔ ∀ i, (s.steppedLeaf inputs i).counts s.cfg.closedTol = true := by
    have cfg : s3.cfg = s.cfg := (congrArg State.cfg first.frame :)
    unfold State.formAllLocked
    rw [List.all_eq_true, cfg, ent]
    simp only [Eight.mem_toList]
    exact ⟨fun h i => h _ ⟨i, leaves i⟩, fun h r ⟨i, hi⟩ => hi ▸ (leaves i).symm ▸ h i⟩
  have ent_summed : s3.summed.ent = { s3.ent with allLocked := s3.formAllLocked } := rfl
  obtain ⟨form, y, ent', leaves'⟩ := s3.summed.releaseSides_entTo
  have frame := first.trans summary
  have formed := frame.formRelease
  have released (d : Side) : s3.ent.release d = s.ent.release d := by
    rw [ent]
    cases d <;> rfl
  generalize s3.formAllLocked = verdict at ent_summed locked
  generalize s3.summed = s4 at *
  generalize (s4.releaseSide .left).releaseSide .right = m at *
  simp only [formed] at form ent' leaves'
  refine ⟨m, rfl, ?_, fun i => ?_, ?_, ?_, fun d => ?_, ?_, ?_, ?_⟩
  · have all := frame.trans form
    have before (d : Side) : s4.ent.release d = s.ent.release d := by
      rw [ent_summed, ← released]
      cases d <;> rfl
    simp only [before, List.append_nil] at all
    exact all
  · rw [ent']
    refine (leaves' i).trans ?_
    have get : s4.ent.leaves.get i = s.steppedLeaf inputs i := by
      rw [ent_summed, ent]
      exact leaves i
    rw [get]
    rfl
  · rw [ent']
  · rw [ent']
  · rw [ent', ent_summed, ent]
    cases d <;> rfl
  · rw [ent', ent_summed]
    exact locked
  · rw [ent', ent_summed, ent]
  · rw [ent', ent_summed, ent]

end Sys2Proof.Machine
end

section
/-! The obligation of the entrance cycle (08 §8.1 to §8.12): settles O45. -/

namespace Sys2Proof.Machine

/-! ## The alerts of stage 6 -/

/-- The reports of a condition that is set: none, or its ALERT report. -/
theorem Notice.setActive_news (n : Notice) (t : Time) (k : AlertKind) (b : Bool) (h : n.queue.length < 24) :
    ∃ news : List ReportBody, (news = [] ∨ ∃ cls forced latched, news = [.alert k cls forced latched]) ∧
      (n.setActive t k b).bodies = n.bodies ++ news := by
  rcases n.setActive_cases t k b with ⟨_, e⟩ | ⟨_, _, e⟩ | ⟨_, _, _, e⟩ <;> rw [e]
  · exact ⟨[], .inl rfl, (List.append_nil _).symm⟩
  · exact ⟨[], .inl rfl, (List.append_nil _).symm⟩
  · have queue := Notice.latch_queue (n := n.setEntry k { n.entry k with active := true }) t k h
    unfold Notice.bodies
    rw [queue]
    split_ifs
    · exact ⟨[], .inl rfl, (List.append_nil _).symm⟩
    · exact ⟨[_], .inr ⟨_, _, _, rfl⟩, List.map_append⟩

theorem State.publishEntrances_eq (m : State) :
    m.publishEntrances =
      { m with
        notice := (m.notice.setActive m.clock.now .entranceObstructed m.anyObstructed).setActive m.clock.now
          .entranceFault m.anyFault } := rfl

theorem State.anyObstructed_iff (m : State) :
    m.anyObstructed = true ↔ ∃ i, (m.ent.leaves.get i).state = .obstructed := by
  have same (x : LeafState) : (x == .obstructed) = true ↔ x = .obstructed := by cases x <;> decide
  unfold State.anyObstructed
  rw [List.any_eq_true]
  simp only [Eight.mem_toList, same]
  exact ⟨fun ⟨_, ⟨i, hi⟩, h⟩ => ⟨i, hi ▸ h⟩, fun ⟨i, h⟩ => ⟨_, ⟨i, rfl⟩, h⟩⟩

theorem State.anyFault_iff (m : State) :
    m.anyFault = true ↔ ∃ i, (m.ent.leaves.get i).state = .fault ∨ (m.ent.leaves.get i).returnMark = true ∨
      ((m.ent.leaves.get i).state = .isolated ∧ (m.ent.leaves.get i).above m.cfg.closedTol = true) := by
  have same (x y : LeafState) : (x == y) = true ↔ x = y := by cases x <;> cases y <;> decide
  unfold State.anyFault
  rw [List.any_eq_true]
  simp only [Eight.mem_toList, same, Bool.or_eq_true, Bool.and_eq_true, or_assoc]
  exact ⟨fun ⟨_, ⟨i, hi⟩, h⟩ => ⟨i, hi ▸ h⟩, fun ⟨i, h⟩ => ⟨_, ⟨i, rfl⟩, h⟩⟩

/-! ## The read of a leaf case by case (R143, R144, R167) -/

namespace LeafRecord

variable {r : LeafRecord} {now : Time} {tol : Nat} {x : LeafInput}

theorem faultsOnReads_iff (st : LeafState) :
    st.faultsOnReads = true ↔ ¬(st = .isolated ∨ st = .manual ∨ st = .fault) := by
  cases st <;> simp [LeafState.faultsOnReads]

theorem read_bad (h : x.good = false) :
    r.read x = { r with failed := min (r.failed + 1) 3, lockProven := x.lockProven } := by
  unfold read
  rw [h]
  rfl

theorem read_good (h : x.good = true) :
    r.read x = { r with position := some x.counts, failed := 0, lockProven := x.lockProven } := by
  unfold read
  rw [h]
  rfl

theorem taken_bad (h : x.good = false) :
    r.taken now tol x =
      if 2 ≤ r.failed ∧ r.state.faultsOnReads = true then (r.read x).enterFault now .sensor else r.read x := by
  have third : (r.read x).failed = 3 ↔ 2 ≤ r.failed := by
    rw [read_bad h]
    dsimp only
    omega
  unfold taken
  rw [if_pos h, read_state]
  exact if_congr (and_congr third Iff.rfl) rfl rfl

theorem taken_late (h : x.good = true) (late : r.pending = false ∨ r.state.faultsOnReads = false) :
    r.taken now tol x = { r.read x with pending := false } := by
  unfold taken
  rw [if_neg (Bool.eq_false_iff.1 · h), read_state, read_pending]
  by_cases pending : r.pending = false
  · rw [if_pos pending, read_good h]
    rw [← pending]
  · rw [if_neg pending, if_neg (Bool.eq_false_iff.1 (late.resolve_left pending))]

theorem taken_first (h : x.good = true) (pending : r.pending = true) (first : r.state.faultsOnReads = true) :
    r.taken now tol x =
      LeafRecord.enter now (if (r.read x).locked tol then .closed else .opened) none { r.read x with pending := false } := by
  unfold taken
  rw [if_neg (Bool.eq_false_iff.1 · h), read_state, read_pending, if_neg (Bool.eq_false_iff.1 · pending), if_pos first]

end LeafRecord

/-! ## Settling O45 -/

theorem State.formRelease_eq (s : State) (d : Side) :
    s.formRelease d =
      if s.sup.mode = .init ∨ s.sup.mode = .tripped then Release.withheld .mode
      else if s.odo.standstill = false then .withheld .moving
      else if s.brakeHolds = false then .withheld .brake
      else if s.sup.mode = .parked then .granted
      else if s.extentsAt d = [] then .withheld .platform
      else if ∃ p ∈ s.extentsAt d, p.station ∈ s.route.holds then .withheld .hold
      else .granted := by
  have none : (s.sideExtents d).isEmpty = true ↔ s.extentsAt d = [] := by
    rw [← State.sideExtents_eq, List.map_eq_nil_iff, List.isEmpty_iff]
  have held : ((s.sideExtents d).any fun p => s.route.holds.contains p.station) = true ↔
      ∃ p ∈ s.extentsAt d, p.station ∈ s.route.holds := by
    rw [← State.sideExtents_eq, List.any_eq_true]
    simp
  unfold State.formRelease
  simp only [none, held]
  cases s.sup.mode <;> simp

theorem State.brakeHolds_eq (s : State) :
    s.brakeHolds = match s.pinionSegment with
      | some v => if v.seg.kind = .adhesion then decide (s.sup.holdLevel ≤ s.sup.demands.service)
          else s.brake.band.run == 64
      | none => s.brake.band.run == 64 := by
  unfold State.brakeHolds
  rcases s.pinionSegment with _ | v
  · rfl
  · dsimp only
    cases v.seg.kind <;> rfl

/-- Settles O45: the stages of the cycle, each leaf by the rule of its state, and the alerts of stage 6. -/
theorem entranceCycleFormsTheReleases : Obligations.EntranceCycleFormsTheReleases := by
  refine ⟨fun x => ⟨LeafInput.good_iff x, LeafInput.counts_eq x⟩, ?_⟩
  intro t inputs s empty l holds lineEnd rear front extents release passive enter fails shut open_ since closing marked
  have entered (st : LeafState) (ph : Option Phase) (r : LeafRecord) : enter st ph r = r.enter t st ph := by
    cases st <;> rfl
  have failed (c : LeafCause) (r : LeafRecord) : fails c r = r.enterFault t c := by
    show ({ enter .fault none r with cause := some c, attempts := 0 } : LeafRecord) = _
    rw [entered]
    rfl
  have closes (r : LeafRecord) : closing r = r.enterClosing t := by
    show ({ enter .closing (some .driving) r with stall := some (r.position.getD 0, t) } : LeafRecord) = _
    rw [entered]
    rfl
  have faults (st : LeafState) : st.faultsOnReads = true ↔ ¬passive st := LeafRecord.faultsOnReads_iff st
  have released (d : Side) : (s.advance t).formRelease d = release d := by
    refine (State.formRelease_eq s d).trans ?_
    have brake : s.brakeHolds = holds := by
      cases h : s.pinionSegment with
      | none => simp only [State.brakeHolds_eq, holds, h]
      | some v => simp only [State.brakeHolds_eq, holds, h]
    have extent : s.extentsAt d = extents d := by
      refine List.filter_congr fun p _ => congrArg (_ && ·) ?_
      cases p.side <;> cases d <;> rfl
    rw [brake, extent]
  obtain ⟨m, cycle, frame, leaves, left, right, takeover, locked, time, tol⟩ := (s.advance t).entranceCycle_spec inputs
  have published := m.publishEntrances_eq
  have link : m.link = s.link := (congrArg State.link frame.frame :)
  have clock : m.clock.now = t := (congrArg (fun u : State => u.clock.now) frame.frame :)
  have cfg : m.cfg = s.cfg := (congrArg State.cfg frame.frame :)
  have length : m.notice.alerts.length = 21 := (congrArg List.length frame.alerts).trans l
  have ent : m.publishEntrances.grantTransmitter.ent = m.ent := by
    rw [State.grantTransmitter_ent]
    rfl
  refine ⟨m.publishEntrances.grantTransmitter, (s.advance t).takenLeaf inputs, (s.advance t).handedLeaf inputs,
    (s.advance t).steppedLeaf inputs, ?_, ?_, ?_⟩
  · refine congrArg Host.Outcome.next ((congrArg State.finish cycle).trans (State.finish_empty ?_))
    exact (congrArg Link.buffer link).trans empty
  · rw [ent]
    refine (State.granted_eq (s := s) (u := m.publishEntrances) link).trans ?_
    exact congrArg (fun w : State => { w with
      ent := m.ent
      notice := m.publishEntrances.grantTransmitter.notice
      link := { s.link with
        tx := m.publishEntrances.grantTransmitter.link.tx
        waiting := m.publishEntrances.grantTransmitter.link.waiting } }) frame.frame
  rw [ent]
  have mark (i : Fin 8) : m.ent.leaves.get i = marked i ((s.advance t).steppedLeaf inputs i) := by
    rw [leaves i, State.markedLeaf, released]
    by_cases granted : release (leafSide i) = .granted
    · rw [if_pos granted]
      simp only [marked, granted, ne_eq, not_true_eq_false, decide_false, Bool.and_false]
    · rw [if_neg granted]
      simp only [marked, granted, ne_eq, not_false_eq_true, decide_true, Bool.and_true]
  refine ⟨time, tol, takeover, ?_, left.trans (released .left), right.trans (released .right), fun i => ?_, fun i => ?_,
    fun i => ?_, ?_, ?_, ?_⟩
  · refine locked.trans (forall_congr' fun i => (LeafRecord.counts_iff _).trans ?_)
    rw [mark i]
    exact Iff.rfl
  · intro x old bad good
    have bad_eq (h : x.good = false) : old.read x = bad := LeafRecord.read_bad h
    have good_eq (h : x.good = true) : ({ old.read x with pending := false } : LeafRecord) = good :=
      congrArg (fun r : LeafRecord => { r with pending := false }) (LeafRecord.read_good h)
    refine ⟨fun h few => ?_, fun h third active => ?_, fun h late => ?_, fun h pending active => ?_⟩
    · refine (LeafRecord.taken_bad h).trans ((if_neg fun ⟨many, active⟩ => ?_).trans (bad_eq h))
      exact few.elim (Nat.not_lt.2 many) ((faults _).1 active)
    · refine (LeafRecord.taken_bad h).trans ((if_pos ⟨third, (faults _).2 active⟩).trans ?_)
      rw [failed]
      exact congrArg _ (bad_eq h)
    · refine (LeafRecord.taken_late h (late.imp id fun p => ?_)).trans (good_eq h)
      exact Bool.eq_false_iff.2 fun a => (faults _).1 a p
    · have first := LeafRecord.taken_first (now := t) (tol := s.cfg.closedTol) h pending ((faults _).2 active)
      rw [good_eq h] at first
      have shut : (old.read x).locked s.cfg.closedTol = true ↔ x.counts ≤ s.cfg.closedTol ∧ x.lockProven = true := by
        rw [LeafRecord.locked_iff, LeafRecord.read_good h]
        simp
      refine ⟨fun within proven => ?_, fun other => ?_⟩
      · rw [if_pos (shut.2 ⟨within, proven⟩)] at first
        exact first.trans (entered ..).symm
      · rw [if_neg fun h => ?_] at first
        · exact first.trans (entered ..).symm
        · obtain ⟨within, proven⟩ := shut.1 h
          exact other.elim (Nat.not_lt.2 within) fun unproven => Bool.noConfusion (proven.symm.trans unproven)
  · intro r
    refine ⟨fun pending free => ?_, fun h => ?_⟩
    · refine (if_pos pending).trans ((if_neg free).trans ?_)
      exact congrArg (fun x : LeafRecord => { x with attempts := 0, returnMark := false }) (entered ..).symm
    · by_cases pending : s.ent.takeover (leafSide i) = .pending
      · exact (if_pos pending).trans (if_pos (h.resolve_left (not_not.2 pending)))
      · exact if_neg pending
  · intro r y
    have step : y = r.step t s.cfg := rfl
    have elapsed (n : Nat) : r.elapsed t n = true ↔ n ≤ since r := decide_eq_true_iff
    refine ⟨mark i, fun state free => ?_, fun state proven due => ?_, fun state proven early => ?_, fun state => ⟨?_, ?_⟩,
      fun state due => ?_, fun state early => ?_, fun state phase => ?_, fun state phase => ?_, fun state phase => ?_,
      fun state phase => ⟨?_, ?_⟩, fun state phase => ?_, fun state h => ?_, fun state proven within => ?_, fun h => ?_⟩
    · rw [step, LeafRecord.step_unlocking state, free, entered]
      rfl
    · rw [step, LeafRecord.step_unlocking state, if_pos proven, failed]
      exact if_pos ⟨state, proven, (elapsed 500000).2 due⟩
    · rw [step, LeafRecord.step_unlocking state, if_pos proven]
      exact if_neg fun h => Nat.not_le.2 early ((elapsed 500000).1 h.2.2)
    · rintro ⟨p, read, position, reached⟩
      rw [step, LeafRecord.step_opening state, if_pos ((LeafRecord.atOpen_iff _).2 ⟨read, p, position, reached⟩), entered]
    · intro short
      rw [step, LeafRecord.step_opening state, if_neg fun h => ?_]
      obtain ⟨read, p, position, reached⟩ := (LeafRecord.atOpen_iff _).1 h
      exact Nat.not_lt.2 reached (short p read position)
    · rw [step, LeafRecord.step_warning state, closes]
      exact if_pos ⟨state, (elapsed _).2 due⟩
    · rw [step, LeafRecord.step_warning state]
      exact if_neg fun h => Nat.not_le.2 early ((elapsed _).1 h.2)
    · have locked_iff : r.locked s.cfg.closedTol = true ↔ shut r ∧ r.lockProven = true := LeafRecord.locked_iff _
      refine ⟨fun closed proven => ?_, fun other => ?_⟩
      · rw [step, LeafRecord.step_locking state phase, if_pos (locked_iff.2 ⟨closed, proven⟩), entered]
      · have unlocked : ¬r.locked s.cfg.closedTol = true := fun h => by
          obtain ⟨closed, proven⟩ := locked_iff.1 h
          exact other.elim (· closed) fun unproven => Bool.noConfusion (proven.symm.trans unproven)
        rw [step, LeafRecord.step_locking state phase, if_neg unlocked, failed]
        exact ⟨fun due => if_pos ⟨state, phase, Bool.eq_false_iff.2 unlocked, (elapsed 500000).2 due⟩,
          fun early => if_neg fun h => Nat.not_le.2 early ((elapsed 500000).1 h.2.2.2)⟩
    · have driving := LeafRecord.step_driving (now := t) (c := s.cfg) state phase
      have shut_iff : r.sensedClosed s.cfg.closedTol = true ↔ shut r := LeafRecord.sensedClosed_iff _
      have unshut (h : ¬shut r) : y = r.stallEnd t s.cfg := driving.trans (if_neg (mt shut_iff.1 h))
      refine ⟨fun closed => ?_, fun unread => ?_, fun p start at_ read position above stall => ?_⟩
      · rw [entered]
        exact driving.trans (if_pos (shut_iff.2 closed))
      · rw [unshut fun h => unread h.1]
        exact LeafRecord.stallEnd_stays fun _ _ _ _ => .inr (.inr (.inl unread))
      · have apart := LeafRecord.sensedClosed_above position above
        rw [unshut fun h => Bool.noConfusion (apart.symm.trans (shut_iff.2 h))]
        have judged (due : 200000 ≤ Time.since t at_) :=
          LeafRecord.stallEnd_due (c := s.cfg) state phase stall position read apart due
        refine ⟨fun early => ?_, fun due far => ?_, fun due short few => ?_, fun due short many => ?_⟩
        · refine LeafRecord.stallEnd_stays fun a b ha hb => .inr (.inr (.inr (.inr ?_)))
          cases stall.symm.trans ha
          exact Nat.not_le.2 early
        · exact (judged due).trans (if_neg (Int.not_lt.2 far))
        · refine (judged due).trans ((if_pos short).trans ((LeafRecord.obstacle_few few position).trans ?_))
          rw [entered]
        · refine (judged due).trans ((if_pos short).trans ((LeafRecord.obstacle_third many).trans ?_))
          rw [entered]
    · rw [step, LeafRecord.step_turning state phase, entered]
    · intro p q read position target reached
      rw [step, LeafRecord.step_reopening state phase, entered]
      exact LeafRecord.stepReopening_reached position target read reached
    · intro short
      rw [step, LeafRecord.step_reopening state phase]
      exact LeafRecord.stepReopening_stays short
    · rw [step, LeafRecord.step_pause state phase, closes]
      exact ⟨fun due => if_pos ⟨state, phase, (elapsed 1000000).2 due⟩,
        fun early => if_neg fun h => Nat.not_le.2 early ((elapsed 1000000).1 h.2.2)⟩
    · rw [step, LeafRecord.step_closed state, failed, if_pos]
      rw [Bool.or_eq_true, Bool.not_eq_true', LeafRecord.above_iff]
      exact h
    · rw [step, LeafRecord.step_closed state, if_neg]
      rw [Bool.or_eq_true, Bool.not_eq_true', LeafRecord.above_iff, proven]
      exact fun h => h.elim (fun e => nomatch e) within
    · exact LeafRecord.step_resting h
  · rw [State.grantTransmitter_entry, published]
    dsimp only
    rw [Notice.setActive_entry_other _ _ _ (by decide), Notice.setActive_entry_self _ _ _ _ length,
      AlertEntry.follow_active]
    exact m.anyObstructed_iff
  · rw [State.grantTransmitter_entry, published]
    dsimp only
    rw [Notice.setActive_entry_self _ _ _ _ ((Notice.setActive_length ..).trans length), AlertEntry.follow_active,
      m.anyFault_iff, cfg]
    simp only [LeafRecord.above_iff]
    exact Iff.rfl
  · intro all shown reads grants steps releases reports busy room
    have report (i : Fin 8) (old new : LeafRecord) :
        leafReports i old new = if new.state ≠ old.state then [shown i new] else [] := (ite_not ..).symm
    have first (i : Fin 8) : (s.ent.leaves.get i).firstRead (inputs.get i) = true ↔
        (s.ent.leaves.get i).pending = true ∧ (inputs.get i).good = true ∧ ¬passive (s.ent.leaves.get i).state := by
      rw [LeafRecord.firstRead, Bool.and_eq_true, Bool.and_eq_true, faults, and_assoc]
    have same : (s.advance t).cycleReports inputs = reports := by
      refine congrArg₂ _ (congrArg₂ _ (congrArg₂ _ ?_ ?_) ?_) ?_
      · exact List.flatMap_congr fun i _ => if_congr (or_congr Iff.rfl (first i)) rfl rfl
      · refine List.flatMap_congr fun d _ => ?_
        by_cases pending : s.ent.takeover d = .pending
        · refine (if_pos pending).trans (Eq.trans ?_ (if_pos pending).symm)
          rw [Side.leaves_eq_filter]
          refine congrArg (· ++ [ReportBody.takeover d .granted]) (List.flatMap_congr fun i hi => ?_)
          have handed : ((s.advance t).takenLeaf inputs i).handed t = (s.advance t).handedLeaf inputs i := by
            have side := (Side.mem_leaves d i).1 hi
            exact (if_pos (side ▸ pending : s.ent.takeover (leafSide i) = .pending)).symm
          rw [← handed]
          exact report i ((s.advance t).takenLeaf inputs i) _
        · exact (if_neg pending).trans (if_neg pending).symm
      · exact List.flatMap_congr fun i _ => report ..
      · refine List.flatMap_congr fun d _ => ?_
        have verdict : (s.ent.release d).isGranted = ((s.advance t).formRelease d).isGranted ↔
            (s.ent.release d = .granted ↔ release d = .granted) := by
          rw [released, Bool.eq_iff_iff, Release.isGranted_iff, Release.isGranted_iff]
        refine (if_congr verdict rfl rfl).trans ?_
        rw [released]
    have posted := frame.queue
    rw [same] at posted
    have bodies : m.notice.bodies = s.notice.bodies ++ reports := posted (Nat.le_trans room (by decide))
    have queue : m.notice.queue.length = s.notice.queue.length + reports.length := by
      rw [← Notice.bodies_length, bodies, List.length_append, Notice.bodies_length]
    obtain ⟨obstructed, one, first_bodies⟩ :=
      m.notice.setActive_news m.clock.now .entranceObstructed m.anyObstructed (by omega)
    have short : obstructed.length ≤ 1 := by rcases one with rfl | ⟨_, _, _, rfl⟩ <;> simp
    obtain ⟨fault, two, second_bodies⟩ :=
      (m.notice.setActive m.clock.now .entranceObstructed m.anyObstructed).setActive_news m.clock.now .entranceFault
        m.anyFault (by
          rw [← Notice.bodies_length, first_bodies, List.length_append, Notice.bodies_length]
          omega)
    refine ⟨obstructed ++ fault, ?_, ?_⟩
    · rcases one with rfl | ⟨_, _, _, rfl⟩ <;> rcases two with rfl | ⟨_, _, _, rfl⟩
      · exact List.nil_sublist _
      · exact List.sublist_cons_self _ _
      · exact List.cons_sublist_cons.2 (List.nil_sublist _)
      · exact List.Sublist.refl _
    · have busy' : m.publishEntrances.link.tx ≠ none := by
        rw [published]
        show m.link.tx ≠ none
        rw [link]
        exact busy
      rw [State.grantTransmitter_notice_busy busy', published]
      refine second_bodies.trans ?_
      rw [first_bodies, bodies, List.append_assoc]
      rfl

end Sys2Proof.Machine
end

section
/-! A counted increment (01 §1.1 to §1.3): the record step by step, and what every increment leaves alone: settles O21. -/

namespace Sys2Proof.Machine

/-! ## The record step by step (R6, R8, R10, R11, R18) -/

namespace Odometry

variable (o : Odometry)

/-- A clamp, whether or not the record was already UNLOCALISED. -/
theorem clampTo_eq (limit : Nat) :
    o.clampTo limit =
      { o with
        position := limit, remainder := 0, localisation := .unlocalised
        uncertainty := if o.localisation = .unlocalised then o.uncertainty else 65535
        lossFlag := if o.localisation = .unlocalised then o.lossFlag else true } := by
  rcases Odometry.clampTo_cases limit o with ⟨h, e⟩ | ⟨h, e⟩
  · rw [e, if_pos h, if_pos h, ← h]
  · rw [e, if_neg h, if_neg h]

/-- A place outside the line is clamped to the end it passes. -/
theorem placeAt_outside {e : Nat} {um : Int} (h : ¬(0 ≤ um ∧ um ≤ (e : Int) * 1000)) :
    o.placeAt e um = o.clampTo (if um < 0 then 0 else e) := by
  by_cases below : um < 0
  · rw [if_pos below, Odometry.placeAt_below o below]
  · rw [if_neg below, Odometry.placeAt_above o (by omega)]

theorem growUncertainty_eq (g : Nat) :
    o.growUncertainty g =
      { o with
        uncertainty := if g ≤ o.credit then o.uncertainty
          else min (o.uncertainty + (g - o.credit + 999) / 1000) 65535
        credit := if g ≤ o.credit then o.credit - g else (g - o.credit + 999) / 1000 * 1000 - (g - o.credit) } := by
  unfold Odometry.growUncertainty
  split_ifs <;> rfl

/-- The growth of u with the test of R11 that follows a change of it. -/
def grown (uMax g : Nat) : Odometry :=
  { o.growUncertainty g with
    localisation :=
      if (o.growUncertainty g).uncertainty ≠ o.uncertainty ∧ o.localisation = .localised ∧
          (uMax ≤ (o.growUncertainty g).uncertainty ∨ 2 ≤ o.missed) then .degraded else o.localisation }

/-- The difference in mm that the span shows (R18). -/
def spanDiff : Nat := ceilDiv (o.span.pin - o.span.whl).natAbs 1000

/-- The comparison of a completed span, with the test of R11 (R18). -/
def compared (uMax tol : Nat) : Odometry :=
  { o with
    disagree := if 10000000 ≤ o.span.travel then decide (tol < o.spanDiff) else o.disagree
    uncertainty := if 10000000 ≤ o.span.travel ∧ tol < o.spanDiff then min (o.uncertainty + o.spanDiff) 65535
      else o.uncertainty
    span := if 10000000 ≤ o.span.travel then ⟨0, 0, 0⟩ else o.span
    localisation :=
      if (10000000 ≤ o.span.travel ∧ tol < o.spanDiff) ∧ o.localisation = .localised ∧
          (uMax ≤ min (o.uncertainty + o.spanDiff) 65535 ∨ 2 ≤ o.missed) then .degraded else o.localisation }

/-- What an increment of the reference leaves of the record: counters, rings, errors, the pass's verdicts, the log and
the last accepted marker. -/
abbrev standing :=
  (o.pinCount, o.whlCount, o.pinErrors, o.whlErrors, o.pinRing, o.whlRing, o.speed, o.standstill, o.direction, o.log,
    o.lastAccepted)

theorem placeAt_standing (e : Nat) (um : Int) : (o.placeAt e um).standing = o.standing := by
  by_cases h : 0 ≤ um ∧ um ≤ (e : Int) * 1000
  · rw [Odometry.placeAt_inside o h.1 h.2]
  · rw [Odometry.placeAt_outside o h, Odometry.clampTo_eq]

theorem placeAt_capture (e : Nat) (um : Int) : (o.placeAt e um).capture = o.capture := by
  by_cases h : 0 ≤ um ∧ um ≤ (e : Int) * 1000
  · rw [Odometry.placeAt_inside o h.1 h.2]
  · rw [Odometry.placeAt_outside o h, Odometry.clampTo_eq]

theorem grown_standing (uMax g : Nat) : (o.grown uMax g).standing = o.standing := by
  unfold grown
  rw [growUncertainty_eq]

end Odometry

theorem State.growReference_odo (len rate : Nat) (s : State) :
    (s.growReference len rate).odo = s.odo.grown s.cfg.uMax ((len * rate + 999) / 1000) := by
  have growth : ceilDiv (len * rate) 1000 = (len * rate + 999) / 1000 := rfl
  unfold State.growReference Odometry.grown
  rw [growth]
  dsimp only
  by_cases same : (s.odo.growUncertainty ((len * rate + 999) / 1000)).uncertainty = s.odo.uncertainty
  · rw [if_pos same, if_neg fun h => h.1 same, Odometry.growUncertainty_eq]
  · rw [if_neg same]
    show Odometry.degrade _ _ = _
    rw [Odometry.growUncertainty_eq] at same
    rw [Odometry.degrade_eq, Odometry.growUncertainty_eq]
    simp only [same, ne_eq, not_false_iff, true_and]

theorem State.compareComplete_odo (s : State) :
    (if s.spanComplete then s.compareSpan else s).odo = s.odo.compared s.cfg.uMax s.cfg.agreeTol := by
  have complete : s.spanComplete = true ↔ 10000000 ≤ s.odo.span.travel := decide_eq_true_iff
  unfold Odometry.compared
  by_cases full : 10000000 ≤ s.odo.span.travel
  · rw [if_pos (complete.2 full)]
    by_cases h : s.cfg.agreeTol < s.spanDiff
    · rw [State.compareSpan_odo_apart h, Odometry.degrade_eq]
      have h' : s.cfg.agreeTol < s.odo.spanDiff := h
      simp only [full, h', true_and, if_true, decide_true]
      rfl
    · rw [State.compareSpan_odo_close h]
      have h' : ¬s.cfg.agreeTol < s.odo.spanDiff := h
      simp only [full, h', true_and, if_true, if_false, false_and, decide_false]
      rfl
  · rw [if_neg (mt complete.1 full)]
    simp only [full, false_and, if_false]

/-! ## The stages of the move -/

section Move

variable (c : Counter) (d : Dir) (s : State)

/-- The record at the start of a move of the reference. -/
def State.moveStart : State :=
  { s with
    odo := { s.odo.growDistance (incrementOf s.cfg c) with
      movementUm := movementAdd s.odo.movementUm (d.signed (incrementOf s.cfg c))
      lastPassed := if s.odo.isReversal d then none else s.odo.lastPassed
      lastRefDir := some d } }

/-- The state once position, u and span have moved. -/
def State.carried : State :=
  let s2 := ((s.moveStart c d).moveReference d (incrementOf s.cfg c)).publishOdometry.growReference (incrementOf s.cfg c)
    (rateOf s.cfg c)
  if s2.spanComplete then s2.compareSpan else s2

/-- The state once the engagement check has followed. -/
def State.settledMove (b : Option SegView) : State := ((s.carried c d).afterMove d b).publishOdometry

theorem State.moveBy_eq (b : Option SegView) :
    s.moveBy c d b =
      match (s.settledMove c d b).odo.capture with
      | some k =>
        { s.settledMove c d b with
          odo := { (s.settledMove c d b).odo with
            capture := some (k.await d ((s.moveStart c d).expectedToward d)) } }
      | none => (s.settledMove c d b).missedTest d ((s.moveStart c d).expectedToward d) := rfl

theorem State.carried_standing : (s.carried c d).odo.standing = s.odo.standing := by
  have placed : ((s.moveStart c d).moveReference d (incrementOf s.cfg c)).odo.standing = s.odo.standing := by
    unfold State.moveReference
    split
    · rfl
    · exact Odometry.placeAt_standing ..
  unfold State.carried
  dsimp only
  rw [State.compareComplete_odo]
  refine Eq.trans ?_ placed
  show (State.growReference ..).odo.standing = _
  rw [State.growReference_odo]
  exact Odometry.grown_standing ..

theorem State.carried_capture : (s.carried c d).odo.capture = s.odo.capture := by
  have placed : ((s.moveStart c d).moveReference d (incrementOf s.cfg c)).odo.capture = s.odo.capture := by
    unfold State.moveReference
    split
    · rfl
    · exact Odometry.placeAt_capture ..
  unfold State.carried
  dsimp only
  rw [State.compareComplete_odo]
  refine Eq.trans ?_ placed
  show (State.growReference ..).odo.capture = _
  rw [State.growReference_odo, Odometry.grown, Odometry.growUncertainty_eq]
  rfl

theorem State.settledMove_capture (b : Option SegView) : (s.settledMove c d b).odo.capture = s.odo.capture := by
  refine Eq.trans ?_ (s.carried_capture c d)
  unfold State.settledMove
  rw [State.publishOdometry_odo, State.afterMove_odo]

theorem State.settledMove_standing (b : Option SegView) : (s.settledMove c d b).odo.standing = s.odo.standing := by
  refine Eq.trans ?_ (s.carried_standing c d)
  unfold State.settledMove
  rw [State.publishOdometry_odo, State.afterMove_odo]

/-- A capture that pends takes the missed test of the move; nothing else of it changes. -/
theorem State.moveBy_capture (b : Option SegView) :
    (s.moveBy c d b).odo.capture = s.odo.capture.map (Capture.await d ((s.moveStart c d).expectedToward d)) := by
  rw [State.moveBy_eq, s.settledMove_capture]
  have kept := s.settledMove_capture c d b
  cases h : s.odo.capture with
  | some k => rfl
  | none =>
    rw [h] at kept
    cases (s.moveStart c d).expectedToward d with
    | none => exact kept
    | some m =>
      dsimp only
      rw [State.missedTest_odo]
      split_ifs
      · unfold Odometry.degradeMissed
        split_ifs <;> exact kept
      · exact kept

theorem State.moveBy_standing (b : Option SegView) : (s.moveBy c d b).odo.standing = s.odo.standing := by
  refine Eq.trans ?_ (s.settledMove_standing c d b)
  rw [State.moveBy_eq]
  cases (s.settledMove c d b).odo.capture with
  | some k => rfl
  | none =>
    cases (s.moveStart c d).expectedToward d with
    | none => rfl
    | some m =>
      dsimp only
      rw [State.missedTest_odo]
      split_ifs
      · unfold Odometry.degradeMissed
        split_ifs <;> rfl
      · rfl

end Move

/-! ## Counting (R1, R3) -/

/-- A state that differs from another in its odometry, its notices and the engagement hand-over. -/
def State.OdoOnly (s u : State) : Prop :=
  ∃ o n f, u = { s with odo := o, notice := n, sup := { s.sup with engagementFailure := f } }

theorem State.odoOnly_closed (s : State) : OdometryClosed (s.OdoOnly) where
  odo := by
    rintro _ _ ⟨_, _, _, rfl⟩
    exact ⟨_, _, _, rfl⟩
  post := by
    rintro _ _ ⟨_, _, _, rfl⟩
    exact ⟨_, _, _, rfl⟩
  raise := by
    rintro _ _ ⟨_, _, _, rfl⟩
    exact ⟨_, _, _, rfl⟩
  setCondition := by
    rintro _ _ _ ⟨_, _, _, rfl⟩
    exact ⟨_, _, _, rfl⟩
  failure := by
    rintro _ ⟨_, _, _, rfl⟩
    exact ⟨_, _, _, rfl⟩

theorem edgeDir_counted {e : Edge} (h : e ≠ .bothPhases) (code : Nat) :
    edgeDir e (signNegative code) = some (if decide (e = .forward) = decide (code ≠ 255) then Dir.up else .down) := by
  have sign : signNegative code = !decide (code ≠ 255) := by
    rw [signNegative, decide_not, Bool.not_not]
    rfl
  rw [sign]
  cases e
  case bothPhases => exact absurd rfl h
  all_goals by_cases hc : code = 255 <;> simp [edgeDir, hc]

theorem Dir.signed_eq (d : Dir) (n : Nat) : d.signed n = if d = .up then (n : Int) else -(n : Int) := by
  cases d <;> rfl

theorem Odometry.count_pinion (d : Dir) (t : Time) (o : Odometry) :
    o.count .pinion d t =
      { o with
        pinCount := o.pinCount + (if d = .up then 1#32 else -1#32), pinRing := ringPush o.pinRing ⟨t, d, false⟩ } := by
  cases d <;> rfl

theorem Odometry.count_wheel (d : Dir) (t : Time) (o : Odometry) :
    o.count .wheel d t =
      { o with
        whlCount := o.whlCount + (if d = .up then 1#32 else -1#32), whlRing := ringPush o.whlRing ⟨t, d, false⟩ } := by
  cases d <;> rfl

/-- The record of a counted increment before the move of the reference. -/
def State.counted (c : Counter) (d : Dir) (s : State) : Odometry :=
  let o := s.odo.count c d s.clock.now
  let len := incrementOf s.cfg c
  let reset : Engagement :=
    if s.reference = c ∧ s.odo.isReversal d = true then s.odo.engagement.zero else s.odo.engagement
  { o with
    span := if s.spanRuns then s.odo.span.add c (d.signed len) len else s.odo.span
    engagement := reset.add c (d.signed len) }

theorem State.countIncrement_eq (c : Counter) (d : Dir) (s : State) :
    s.countIncrement c d =
      if s.reference = c then State.moveBy c d s.pinionSegment { s with odo := s.counted c d }
      else { s with odo := s.counted c d } := by
  have frame : (s.odo.count c d s.clock.now).span = s.odo.span ∧
      (s.odo.count c d s.clock.now).engagement = s.odo.engagement := by
    cases c <;> exact ⟨rfl, rfl⟩
  unfold State.countIncrement State.counted
  dsimp only
  by_cases ref : s.reference = c <;> by_cases back : s.odo.isReversal d = true <;> by_cases runs : s.spanRuns = true <;>
    simp only [ref, back, runs, frame, decide_true, decide_false, Bool.and_true, Bool.and_false, and_true, and_false,
      if_true, if_false, Bool.false_eq_true]

/-- What every counted increment leaves. -/
theorem State.countIncrement_standing (c : Counter) (d : Dir) (s : State) :
    (s.countIncrement c d).odo.standing = (s.odo.count c d s.clock.now).standing := by
  rw [State.countIncrement_eq]
  split_ifs
  · exact State.moveBy_standing ..
  · rfl

theorem State.counted_capture (c : Counter) (d : Dir) (s : State) : (s.counted c d).capture = s.odo.capture := by
  cases c <;> rfl

theorem Capture.await_joins (d : Dir) (m : Option Marker) (k : Capture) :
    ∃ more, k.await d m = { k with waiting := k.waiting ++ more } := by
  unfold Capture.await
  split
  · exact ⟨[], by rw [List.append_nil]⟩
  · split_ifs
    · exact ⟨[], by rw [List.append_nil]⟩
    · exact ⟨_, rfl⟩

theorem State.countIncrement_capture (c : Counter) (d : Dir) (s : State) :
    (s.odo.capture = none → (s.countIncrement c d).odo.capture = none) ∧
      ∀ k, s.odo.capture = some k →
        ∃ more, (s.countIncrement c d).odo.capture = some { k with waiting := k.waiting ++ more } := by
  rw [State.countIncrement_eq]
  split_ifs
  · rw [State.moveBy_capture]
    dsimp only
    rw [State.counted_capture]
    refine ⟨fun h => by rw [h]; rfl, fun k h => ?_⟩
    rw [h]
    obtain ⟨more, joins⟩ := k.await_joins d ((State.moveStart c d { s with odo := s.counted c d }).expectedToward d)
    exact ⟨more, congrArg some joins⟩
  · refine ⟨fun h => (s.counted_capture c d).trans h, fun k h => ⟨[], ?_⟩⟩
    rw [List.append_nil]
    exact (s.counted_capture c d).trans h

theorem State.increment_counted {e : Edge} (h : e ≠ .bothPhases) (c : Counter) (s : State) :
    s.increment c e =
      s.countIncrement c (if decide (e = .forward) = decide (signOf s.cfg c ≠ 255) then .up else .down) := by
  unfold State.increment
  rw [edgeDir_counted h]

/-- The record of a counted increment off the reference. -/
theorem State.counted_off {c : Counter} {s : State} (h : s.reference ≠ c) (d : Dir) :
    s.counted c d =
      { s.odo.count c d s.clock.now with
        span := if s.reference = .pinion then s.odo.span.add c (d.signed (incrementOf s.cfg c)) (incrementOf s.cfg c)
          else s.odo.span
        engagement := s.odo.engagement.add c (d.signed (incrementOf s.cfg c)) } := by
  unfold State.counted
  rw [if_neg fun k => h k.1]
  simp only [State.spanRuns_eq_reference]

/-- A counted increment off the reference moves no position. -/
theorem State.countIncrement_off {c : Counter} {s : State} (h : s.reference ≠ c) (d : Dir) :
    s.countIncrement c d = { s with odo := s.counted c d } := by
  rw [State.countIncrement_eq, if_neg h]

/-! ## Settling O21 -/

/-- Settles O21: an edge without a direction, a counted one in general, and one off the reference. -/
theorem incrementsAreCounted : Obligations.IncrementsAreCounted := by
  intro t c e s positive d one step ring
  have sign : signOf (s.advance t).cfg c = (match c with | .pinion => s.cfg.pinSign | .wheel => s.cfg.whlSign) := by
    cases c <;> rfl
  have counted (h : e ≠ .bothPhases) : (s.advance t).increment c e = (s.advance t).countIncrement c d :=
    (State.increment_counted h c _).trans (congrArg (fun code : Nat =>
      (s.advance t).countIncrement c (if decide (e = .forward) = decide (code ≠ 255) then .up else .down)) sign)
  have signed (len : Nat) : d.signed len = step len := Dir.signed_eq d len
  refine ⟨fun both => ?_, fun h empty pin whl => ?_, fun h pinion ref small => ?_, fun h wheel ref small => ?_⟩
  · subst both
    refine congrArg (fun o => Host.Outcome.next (State.finish { s.advance t with odo := o })) ?_
    cases c <;> rfl
  · obtain ⟨o, n, f, framed⟩ := (s.advance t).odoOnly_closed.increment ⟨_, _, _, rfl⟩ c e
    have standing := (s.advance t).countIncrement_standing c d
    obtain ⟨free, pends⟩ := (s.advance t).countIncrement_capture c d
    have run := counted h
    generalize (s.advance t).countIncrement c d = v at standing free pends run
    have frame : v = { s.advance t with odo := o, notice := n, sup := { s.sup with engagementFailure := f } } :=
      run.symm.trans framed
    have buffer : v.link.buffer = [] := by
      rw [frame]
      exact empty
    refine ⟨v.grantTransmitter, ?_, ?_, ?_⟩
    · refine congrArg Host.Outcome.next ((congrArg State.finish run).trans (State.finish_empty buffer))
    · refine (State.granted_eq (s := s) (by rw [frame]; rfl)).trans ?_
      rw [State.grantTransmitter_odo, State.grantTransmitter_sup]
      generalize v.grantTransmitter = w
      rw [frame]
    · rw [State.grantTransmitter_odo]
      simp only [Odometry.standing, Prod.mk.injEq] at standing
      obtain ⟨pinCount, whlCount, pinErrors, whlErrors, pinRing, whlRing, speed, still, dir, log, accepted⟩ := standing
      refine ⟨fun hc => ?_, fun hc => ?_, ?_, ?_, speed.trans ?_, still.trans ?_, dir.trans ?_, log.trans ?_,
        accepted.trans ?_, free, pends⟩
      · subst hc
        rw [pinCount, whlCount, pinRing, whlRing, Odometry.count_pinion]
        exact ⟨rfl, rfl, ringPush_eq _ pin, rfl⟩
      · subst hc
        rw [pinCount, whlCount, pinRing, whlRing, Odometry.count_wheel]
        exact ⟨rfl, rfl, ringPush_eq _ whl, rfl⟩
      · rw [pinErrors]
        cases c <;> rfl
      · rw [whlErrors]
        cases c <;> rfl
      all_goals cases c <;> rfl
  · subst pinion
    have off : (s.advance t).reference ≠ .pinion := fun e => Counter.noConfusion (ref.symm.trans e)
    have run := (counted h).trans (State.countIncrement_off off d)
    refine congrArg Host.Outcome.next (congrArg State.finish (run.trans ?_))
    refine congrArg (fun o => { s.advance t with odo := o }) ?_
    rw [State.counted_off off, Odometry.count_pinion, if_neg off]
    have pushed : ringPush s.odo.pinRing ⟨t, d, false⟩ = ring s.odo.pinRing := ringPush_eq _ small
    have add : s.odo.engagement.add .pinion (d.signed s.cfg.lPin) =
        (match s.odo.engagement with
          | .armed i pin whl kept => .armed i (pin + step s.cfg.lPin) whl kept
          | x => x) := by
      rw [signed]
      cases s.odo.engagement <;> rfl
    exact congrArg₂ (fun r x => ({ s.odo with
      pinCount := s.odo.pinCount + one, pinRing := r, engagement := x } : Odometry)) pushed add
  · subst wheel
    have off : (s.advance t).reference ≠ .wheel := fun e => Counter.noConfusion (ref.symm.trans e)
    have run := (counted h).trans (State.countIncrement_off off d)
    refine congrArg Host.Outcome.next (congrArg State.finish (run.trans ?_))
    refine congrArg (fun o => { s.advance t with odo := o }) ?_
    rw [State.counted_off off, Odometry.count_wheel, if_pos (show (s.advance t).reference = .pinion from ref)]
    have pushed : ringPush s.odo.whlRing ⟨t, d, false⟩ = ring s.odo.whlRing := ringPush_eq _ small
    have add : s.odo.engagement.add .wheel (d.signed s.cfg.lWhl) =
        (match s.odo.engagement with
          | .armed i pin whl kept => .armed i pin (whl + d.signed s.cfg.lWhl) kept
          | x => x) := by
      cases s.odo.engagement <;> rfl
    rw [← signed]
    exact congrArg₂ (fun r x => ({ s.odo with
      whlCount := s.odo.whlCount + one, whlRing := r, engagement := x
      span := { s.odo.span with whl := s.odo.span.whl + d.signed s.cfg.lWhl } } : Odometry)) pushed add

end Sys2Proof.Machine
end

section
/-! A counted increment of the reference counter (01 §1.3 to §1.9): the record that it leaves. -/

namespace Sys2Proof.Machine

namespace Odometry

variable (o : Odometry) (e uMax tol g : Nat) (um : Int)

/-! ## The record carried along the line (R8, R10, R11, R18) -/

/-- The record placed, its u grown and its span compared. -/
def carry : Odometry := ((o.placeAt e um).grown uMax g).compared uMax tol

/-- u after the growth by `g` (R10). -/
def grownTo : Nat :=
  if g ≤ o.credit then o.uncertainty else min (o.uncertainty + (g - o.credit + 999) / 1000) 65535

/-- The credit after it (R10). -/
def creditAfter : Nat :=
  if g ≤ o.credit then o.credit - g else (g - o.credit + 999) / 1000 * 1000 - (g - o.credit)

/-- Does a comparison of a complete span raise u (R18)? -/
abbrev apart : Prop := 10000000 ≤ o.span.travel ∧ tol < o.spanDiff

/-- Is a test of R11 made along the way that a LOCALISED record fails? -/
abbrev failsTest : Prop :=
  (o.grownTo g ≠ o.uncertainty ∧ (uMax ≤ o.grownTo g ∨ 2 ≤ o.missed)) ∨
    (o.apart tol ∧ (uMax ≤ min (o.grownTo g + o.spanDiff) 65535 ∨ 2 ≤ o.missed))

theorem grown_eq :
    o.grown uMax g =
      { o with
        uncertainty := o.grownTo g, credit := o.creditAfter g
        localisation :=
          if o.grownTo g ≠ o.uncertainty ∧ o.localisation = .localised ∧ (uMax ≤ o.grownTo g ∨ 2 ≤ o.missed) then .degraded
          else o.localisation } := by
  unfold grown
  rw [growUncertainty_eq]
  rfl

variable {o e uMax tol g um}

/-- On the line the record moves by exactly the length. -/
theorem carry_inside (h : 0 ≤ um ∧ um ≤ (e : Int) * 1000) :
    o.carry e uMax tol g um =
      { o with
        position := um.toNat / 1000, remainder := um.toNat % 1000, credit := o.creditAfter g
        uncertainty := if o.apart tol then min (o.grownTo g + o.spanDiff) 65535 else o.grownTo g
        disagree := if 10000000 ≤ o.span.travel then decide (tol < o.spanDiff) else o.disagree
        span := if 10000000 ≤ o.span.travel then ⟨0, 0, 0⟩ else o.span
        localisation := (o.carry e uMax tol g um).localisation } := by
  have placed := Odometry.placeAt_inside o h.1 h.2
  unfold carry compared
  rw [grown_eq, placed]
  rfl

theorem carry_inside_localisation (h : 0 ≤ um ∧ um ≤ (e : Int) * 1000) :
    ((o.carry e uMax tol g um).localisation = .unlocalised ↔ o.localisation = .unlocalised) ∧
      (o.localisation = .degraded → (o.carry e uMax tol g um).localisation = .degraded) ∧
      (o.localisation = .localised →
        (o.carry e uMax tol g um).localisation = if o.failsTest uMax tol g then .degraded else .localised) := by
  have placed := Odometry.placeAt_inside o h.1 h.2
  have moved : (o.carry e uMax tol g um).localisation =
      if o.apart tol ∧ (if o.grownTo g ≠ o.uncertainty ∧ o.localisation = .localised ∧
          (uMax ≤ o.grownTo g ∨ 2 ≤ o.missed) then Localisation.degraded else o.localisation) = .localised ∧
          (uMax ≤ min (o.grownTo g + o.spanDiff) 65535 ∨ 2 ≤ o.missed) then .degraded
      else if o.grownTo g ≠ o.uncertainty ∧ o.localisation = .localised ∧ (uMax ≤ o.grownTo g ∨ 2 ≤ o.missed) then
        .degraded
      else o.localisation := by
    unfold carry compared
    rw [grown_eq, placed]
    rfl
  rw [moved]
  cases loc : o.localisation
  case unlocalised => simp
  case degraded => simp
  case localised =>
    refine ⟨?_, nofun, fun _ => ?_⟩
    · split_ifs <;> simp
    · by_cases first : o.grownTo g ≠ o.uncertainty ∧ (uMax ≤ o.grownTo g ∨ 2 ≤ o.missed)
      · have fails : o.failsTest uMax tol g := .inl first
        simp [first, fails]
      · by_cases second : o.apart tol ∧ (uMax ≤ min (o.grownTo g + o.spanDiff) 65535 ∨ 2 ≤ o.missed)
        · have fails : o.failsTest uMax tol g := .inr second
          simp only [first, fails, true_and, if_true, if_false]
          rw [if_pos second]
        · have passes : ¬o.failsTest uMax tol g := fun h => h.elim first second
          simp only [first, passes, true_and, if_false]
          rw [if_neg second]

/-- Off the line it is clamped to the end it passes and lost. -/
theorem carry_outside (h : ¬(0 ≤ um ∧ um ≤ (e : Int) * 1000)) :
    o.carry e uMax tol g um =
      { o with
        position := if um < 0 then 0 else e, remainder := 0, localisation := .unlocalised
        lossFlag := if o.localisation = .unlocalised then o.lossFlag else true
        uncertainty := (o.carry e uMax tol g um).uncertainty
        credit := (o.carry e uMax tol g um).credit
        disagree := if 10000000 ≤ o.span.travel then decide (tol < o.spanDiff) else o.disagree
        span := if 10000000 ≤ o.span.travel then ⟨0, 0, 0⟩ else o.span } := by
  have placed := Odometry.placeAt_outside o h
  rw [clampTo_eq] at placed
  unfold carry compared
  rw [grown_eq, placed]
  simp only [reduceCtorEq, false_and, and_false, if_false]
  rfl

theorem carry_outside_uncertainty (h : ¬(0 ≤ um ∧ um ≤ (e : Int) * 1000)) (known : o.localisation ≠ .unlocalised) :
    (o.carry e uMax tol g um).uncertainty = 65535 := by
  have placed := Odometry.placeAt_outside o h
  rw [clampTo_eq, if_neg known] at placed
  have full : (o.placeAt e um).grownTo g = 65535 := by
    unfold grownTo
    rw [placed]
    dsimp only
    split_ifs <;> omega
  unfold carry compared
  rw [grown_eq]
  dsimp only
  rw [full]
  split_ifs <;> omega

end Odometry

/-! ## The stages of the move -/

section Move

variable {c : Counter} {d : Dir} {s : State}

theorem State.carried_odo {e : Nat} (h : s.lineEnd = some e) :
    (s.carried c d).odo = (s.moveStart c d).odo.carry e s.cfg.uMax s.cfg.agreeTol
      ((incrementOf s.cfg c * rateOf s.cfg c + 999) / 1000)
      ((s.moveStart c d).odo.placeUm + d.signed (incrementOf s.cfg c)) := by
  have h' : (s.moveStart c d).lineEnd = some e := h
  have placed : (s.moveStart c d).moveReference d (incrementOf s.cfg c) =
      { s.moveStart c d with
        odo := (s.moveStart c d).odo.placeAt e ((s.moveStart c d).odo.placeUm + d.signed (incrementOf s.cfg c)) } := by
    unfold State.moveReference
    rw [h']
  unfold State.carried
  dsimp only
  rw [State.compareComplete_odo, placed]
  unfold Odometry.carry
  generalize (s.moveStart c d).odo.placeAt e ((s.moveStart c d).odo.placeUm + d.signed (incrementOf s.cfg c)) = o
  have grown := State.growReference_odo (incrementOf s.cfg c) (rateOf s.cfg c)
    (State.publishOdometry { s.moveStart c d with odo := o })
  have cfg : (State.growReference (incrementOf s.cfg c) (rateOf s.cfg c)
      (State.publishOdometry { s.moveStart c d with odo := o })).cfg = s.cfg := by
    unfold State.growReference
    dsimp only
    split_ifs <;> rfl
  rw [grown, cfg]
  rfl

theorem State.carried_only : s.OdoOnly (s.carried c d) :=
  have C := s.odoOnly_closed
  C.compareComplete (C.growReference (C.publishOdometry (C.moveReference (C.odo _ _ ⟨_, _, _, rfl⟩) ..)) ..)

end Move

/-! ## The pinion point's move (R2, R18, R19, R20) -/

theorem State.pinionSegment_congr {s u : State} (line : u.line = s.line) (cfg : u.cfg = s.cfg)
    (position : u.odo.position = s.odo.position)
    (lost : u.odo.localisation = .unlocalised ↔ s.odo.localisation = .unlocalised) :
    u.pinionSegment = s.pinionSegment := by
  have point : u.pinionPoint = s.pinionPoint := by
    unfold State.pinionPoint
    rw [position, cfg]
  have bank : u.activeBank = s.activeBank := by
    unfold State.activeBank
    rw [line]
  have segment : u.segmentAt u.pinionPoint = s.segmentAt s.pinionPoint := by
    unfold State.segmentAt State.lineEnd State.views
    rw [bank, point]
  unfold State.pinionSegment
  cases hs : s.odo.localisation <;> cases hu : u.odo.localisation <;> simp_all

theorem index_injective {l : List SegView} (order : l.Pairwise fun v w => v.index < w.index) {x y : SegView} (hx : x ∈ l)
    (hy : y ∈ l) (h : x.index = y.index) : x = y := by
  induction l with
  | nil => exact nomatch hx
  | cons z l ih =>
    obtain ⟨first, order⟩ := List.pairwise_cons.1 order
    rcases List.mem_cons.1 hx with rfl | inX <;> rcases List.mem_cons.1 hy with rfl | inY
    · rfl
    · exact absurd (first y inY) (by omega)
    · exact absurd (first x inX) (by omega)
    · exact ih order inX inY

/-- The run over one boundary. -/
theorem segments_adjacent {l : List SegView} (order : l.Pairwise fun v w => v.index < w.index) {w v : SegView}
    (hw : w ∈ l) (hv : v ∈ l) (next : v.index = w.index + 1) :
    (l.filter fun x => decide (w.index ≤ x.index) && decide (x.index ≤ v.index)) = [w, v] := by
  have pair : [w, v].Pairwise fun v w => v.index < w.index := by simp [next]
  have nodup {l : List SegView} (h : l.Pairwise fun v w => v.index < w.index) : l.Nodup :=
    h.imp fun h e => absurd h (by rw [e]; exact lt_irrefl _)
  have sorted := order.filter fun x => decide (w.index ≤ x.index) && decide (x.index ≤ v.index)
  refine List.Perm.eq_of_pairwise (fun a b _ _ h k => absurd h (by omega)) sorted pair
    ((List.perm_ext_iff_of_nodup (nodup sorted) (nodup pair)).2 fun x => ?_)
  rw [List.mem_filter, Bool.and_eq_true, decide_eq_true_iff, decide_eq_true_iff, List.mem_pair]
  constructor
  · rintro ⟨hx, low, high⟩
    rcases Nat.eq_or_lt_of_le low with h | h
    · exact .inl (index_injective order hx hw h.symm)
    · exact .inr (index_injective order hx hv (by omega))
  · rintro (rfl | rfl)
    · exact ⟨hw, le_refl _, by omega⟩
    · exact ⟨hv, by omega, le_refl _⟩

theorem State.crossUp_rackEntry {w v : SegView} {s : State} (h : v.seg.kind = .rackEntry) :
    s.crossUp w v = s.armEngagement v := by
  unfold State.crossUp
  rw [h]
  cases s.odo.engagement <;> rfl

theorem State.crossUp_unarmed {w v : SegView} {s : State} (h : v.seg.kind ≠ .rackEntry)
    (unarmed : ∀ i p q k, s.odo.engagement ≠ .armed i p q k) : s.crossUp w v = s := by
  unfold State.crossUp
  split
  · rename_i i p q k e
    exact absurd e (unarmed i p q k)
  · split
    · exact absurd ‹_› h
    · rfl

theorem State.crossUp_adhesion {w v : SegView} {s : State} {i : Nat} {p q : Int} {k : Option Nat}
    (armed : s.odo.engagement = .armed i p q k) (h : v.seg.kind = .adhesion) :
    s.crossUp w v = { s with odo := { s.odo with engagement := s.odo.engagement.before } } := by
  unfold State.crossUp
  rw [armed, h]

theorem State.crossUp_rack {w v : SegView} {s : State} {i : Nat} {p q : Int} {k : Option Nat}
    (armed : s.odo.engagement = .armed i p q k) (h : v.seg.kind = .rack) :
    s.crossUp w v = if i = w.index then s.decideEngagement w p q else s := by
  unfold State.crossUp
  rw [armed, h]

theorem State.crossDown_armed {w : SegView} {s : State} {i : Nat} {p q : Int} {k : Option Nat}
    (armed : s.odo.engagement = .armed i p q k) :
    s.crossDown w =
      if i = w.index then { s with odo := { s.odo with engagement := s.odo.engagement.before } } else s := by
  unfold State.crossDown
  rw [armed]

theorem State.crossDown_unarmed {w : SegView} {s : State} (unarmed : ∀ i p q k, s.odo.engagement ≠ .armed i p q k) :
    s.crossDown w = s := by
  unfold State.crossDown
  split
  · rename_i i p q k e
    exact absurd e (unarmed i p q k)
  · rfl

/-- The decision at the end of the armed segment (R20). -/
theorem State.decideEngagement_spec (v : SegView) (p q : Int) (s : State) :
    let size : Int := ((v.stop - v.start : Nat) : Int) * 1000
    (2 * q < size → s.decideEngagement v p q = { s with odo := { s.odo with engagement := .unproven v.index } }) ∧
      (size ≤ 2 * q → (p - q).natAbs ≤ s.cfg.engageTol * 1000 → q ≤ 2 * p →
        s.decideEngagement v p q = { s with odo := { s.odo with engagement := .idle } }) ∧
      (size ≤ 2 * q → s.cfg.engageTol * 1000 < (p - q).natAbs ∨ 2 * p < q →
        s.decideEngagement v p q =
          { s with
            odo := { s.odo with engagement := s.odo.engagement.before }
            sup := { s.sup with engagementFailure := true } }) := by
  intro size
  have outcome : engagementOutcome (v.stop - v.start) s.cfg.engageTol p q =
      if 2 * q < size then .unproven
      else if (p - q).natAbs ≤ s.cfg.engageTol * 1000 ∧ q ≤ 2 * p then .proven
      else .failed := rfl
  unfold State.decideEngagement
  rw [outcome]
  refine ⟨fun short => ?_, fun long close even => ?_, fun long apart => ?_⟩
  · rw [if_pos short]
  · rw [if_neg (Int.not_lt.2 long), if_pos ⟨close, even⟩]
  · rw [if_neg (Int.not_lt.2 long), if_neg (by omega)]

/-- The move within one segment. -/
theorem State.afterMove_same {d : Dir} {w v : SegView} {s : State} (at_ : s.pinionSegment = some v)
    (same : w.index = v.index) : s.afterMove d (some w) = s := by
  unfold State.afterMove
  rw [at_]
  exact if_pos same

theorem SegKind.beq_rack (k : SegKind) : (k == .rack) = decide (k = .rack) := by cases k <;> rfl

/-- The move uphill over one boundary. -/
theorem State.afterMove_up {w v : SegView} {s : State} (at_ : s.pinionSegment = some v) (hw : w ∈ s.views)
    (hv : v ∈ s.views) (next : v.index = w.index + 1) :
    s.afterMove .up (some w) =
      if w.seg.kind = .rack ∧ v.seg.kind = .rack then (s.crossUp w v).publishOdometry
      else (s.crossUp w v).publishOdometry.dropSpan := by
  have run : segmentsBetween .up w.index v.index s.views = [w, v] := segments_adjacent s.views_ordered hw hv next
  unfold State.afterMove
  rw [at_]
  dsimp only
  rw [if_neg (by omega), run]
  refine if_congr ?_ rfl rfl
  simp [SegKind.beq_rack]

/-- The move downhill over one boundary. -/
theorem State.afterMove_down {w v : SegView} {s : State} (at_ : s.pinionSegment = some v) (hw : w ∈ s.views)
    (hv : v ∈ s.views) (next : w.index = v.index + 1) :
    s.afterMove .down (some w) =
      if w.seg.kind = .rack ∧ v.seg.kind = .rack then (s.crossDown w).publishOdometry
      else (s.crossDown w).publishOdometry.dropSpan := by
  have run : segmentsBetween .down w.index v.index s.views = [w, v] :=
    congrArg List.reverse (segments_adjacent s.views_ordered hv hw next)
  unfold State.afterMove
  rw [at_]
  dsimp only
  rw [if_neg (by omega), run]
  refine if_congr ?_ rfl rfl
  simp [SegKind.beq_rack]

end Sys2Proof.Machine
end

section
/-! A counted increment of the reference counter, its checks, its missed test and its alerts: settles O22. -/

namespace Sys2Proof.Machine

/-! ## What the move adds at its end -/

theorem Odometry.degradeMissed_eq (o : Odometry) :
    o.degradeMissed =
      { o with
        localisation := if o.localisation = .localised ∧ 2 ≤ o.missed then .degraded else o.localisation } := by
  unfold Odometry.degradeMissed
  split_ifs <;> rfl

section Move

variable {c : Counter} {d : Dir} {s : State} {b : Option SegView}

/-- The missed test ends the move: none is made, or the expected marker is missed (R14). -/
theorem State.moveBy_cases :
    ((∃ k, s.moveBy c d b =
          { s.settledMove c d b with odo := { (s.settledMove c d b).odo with capture := k } }) ∧
      ((s.settledMove c d b).odo.capture ≠ none ∨ (s.moveStart c d).expectedToward d = none ∨
        ∃ m, (s.moveStart c d).expectedToward d = some m ∧
          markerBeyond d (s.settledMove c d b).readerPoint (s.settledMove c d b).odo.uncertainty m = false)) ∨
    (∃ m, (s.settledMove c d b).odo.capture = none ∧ (s.moveStart c d).expectedToward d = some m ∧
      markerBeyond d (s.settledMove c d b).readerPoint (s.settledMove c d b).odo.uncertainty m = true ∧
      s.moveBy c d b = (s.settledMove c d b).missMarker m) := by
  rw [State.moveBy_eq]
  cases pends : (s.settledMove c d b).odo.capture with
  | some k => exact .inl ⟨⟨_, rfl⟩, .inl nofun⟩
  | none =>
    have unchanged : s.settledMove c d b =
        { s.settledMove c d b with odo := { (s.settledMove c d b).odo with capture := none } } := by rw [← pends]
    cases expected : (s.moveStart c d).expectedToward d with
    | none => exact .inl ⟨⟨none, unchanged⟩, .inr (.inl rfl)⟩
    | some m =>
      cases beyond : markerBeyond d (s.settledMove c d b).readerPoint (s.settledMove c d b).odo.uncertainty m with
      | false => exact .inl ⟨⟨none, (if_neg (Bool.eq_false_iff.1 beyond)).trans unchanged⟩, .inr (.inr ⟨m, rfl, beyond⟩)⟩
      | true => exact .inr ⟨m, rfl, rfl, beyond, if_pos beyond⟩

theorem State.missMarker_odo (m : Marker) (s : State) :
    (s.missMarker m).odo =
      { s.odo with
        missed := min (s.odo.missed + 1) 255, lastPassed := some m.id
        localisation := if s.odo.localisation = .localised ∧ 2 ≤ min (s.odo.missed + 1) 255 then .degraded
          else s.odo.localisation } :=
  Odometry.degradeMissed_eq { s.odo with missed := min (s.odo.missed + 1) 255, lastPassed := some m.id }

/-- What the end of the move leaves of the record. -/
theorem State.moveBy_odo :
    (s.moveBy c d b).odo =
        { (s.settledMove c d b).odo with
          capture := (s.moveBy c d b).odo.capture, missed := (s.moveBy c d b).odo.missed
          lastPassed := (s.moveBy c d b).odo.lastPassed, localisation := (s.moveBy c d b).odo.localisation } ∧
      (s.moveBy c d b).sup = (s.settledMove c d b).sup := by
  rcases State.moveBy_cases (c := c) (d := d) (s := s) (b := b) with ⟨⟨k, h⟩, -⟩ | ⟨m, -, -, -, h⟩ <;> rw [h]
  · exact ⟨rfl, rfl⟩
  · rw [State.missMarker_odo]
    exact ⟨rfl, rfl⟩

theorem State.afterMove_length (l : s.notice.alerts.length = 21) :
    ((s.carried c d).afterMove d b).notice.alerts.length = 21 :=
  have closed : OdometryClosed fun u => u.notice.alerts.length = 21 :=
    { odo := fun _ _ h => h
      post := fun _ _ h => (congrArg List.length (Notice.post_alerts ..)).trans h
      raise := fun _ _ h => (Notice.latch_length ..).trans h
      setCondition := fun _ _ _ h => (Notice.setActive_length ..).trans h
      failure := fun _ h => h }
  closed.afterMove (closed.compareComplete (closed.growReference (closed.publishOdometry
    (closed.moveReference (closed.odo _ _ l) ..)) ..)) d b

/-- The notices of the move are last set by the Odometry Unit's conditions, as its record stands. -/
theorem State.moveBy_entry (l : s.notice.alerts.length = 21) (k : AlertKind) (x : Bool)
    (h : (s.moveBy c d b).odo.shows k = some x) : ((s.moveBy c d b).notice.entry k).active = x := by
  have length (u : State) (ho : u.notice.alerts.length = 21) (o : Odometry) (hs : o.shows k = u.odo.shows k)
      (hk : o.shows k = some x) : (u.publishOdometry.notice.entry k).active = x := by
    rw [State.publishOdometry_entry u ho, ← hs, hk, AlertEntry.follow_active]
  have settled := State.afterMove_length (c := c) (d := d) (b := b) l
  rcases State.moveBy_cases (c := c) (d := d) (s := s) (b := b) with ⟨⟨p, e⟩, -⟩ | ⟨m, -, -, -, e⟩
  · rw [e] at h ⊢
    exact length _ settled _ rfl h
  · rw [e] at h ⊢
    exact length _ ((Notice.latch_length ..).trans ((State.publishOdometry_length _).trans settled)) _ rfl h

/-- A marker that the reader point has left behind raises MARKER_MISSED. -/
theorem State.missMarker_latched (m : Marker) {s : State} (l : s.notice.alerts.length = 21) :
    ((s.missMarker m).notice.entry .markerMissed).latched = true := by
  have raised := Notice.latch_entry_self s.notice s.clock.now .markerMissed l
  have published := State.publishOdometry_entry
    { State.raise .markerMissed { s with
        odo := { s.odo with missed := min (s.odo.missed + 1) 255, lastPassed := some m.id } } with
      odo := (s.missMarker m).odo } ((Notice.latch_length ..).trans l) .markerMissed
  rw [Odometry.shows_eq, AlertEntry.follow_none] at published
  exact (congrArg AlertEntry.latched published).trans (congrArg AlertEntry.latched raised)

/-- The span brought to its comparison leaves the Supervisor alone. -/
theorem State.carried_sup (c : Counter) (d : Dir) (s : State) : (s.carried c d).sup = s.sup := by
  have moved : ((s.moveStart c d).moveReference d (incrementOf s.cfg c)).sup = s.sup := by
    unfold State.moveReference
    split <;> rfl
  have compared (u : State) : (if u.spanComplete then u.compareSpan else u).sup = u.sup := by
    split_ifs
    · unfold State.compareSpan
      dsimp only
      split_ifs <;> rfl
    · rfl
  have grown (u : State) (len rate : Nat) : (u.growReference len rate).sup = u.sup := by
    unfold State.growReference
    dsimp only
    split_ifs <;> rfl
  unfold State.carried
  dsimp only
  rw [compared, grown, State.publishOdometry_sup, moved]

/-- The move within one segment leaves the check and the span. -/
theorem State.settledMove_same {w v : SegView} (at_ : (s.carried c d).pinionSegment = some v) (same : w.index = v.index) :
    (s.settledMove c d (some w)).odo.span = (s.carried c d).odo.span ∧
      (s.settledMove c d (some w)).odo.engagement = (s.carried c d).odo.engagement ∧
      (s.settledMove c d (some w)).sup = (s.carried c d).sup := by
  unfold State.settledMove
  rw [State.afterMove_same at_ same]
  generalize s.carried c d = x
  exact ⟨rfl, rfl, rfl⟩

theorem State.settledMove_up {w v : SegView} (hd : d = .up) (at_ : (s.carried c d).pinionSegment = some v) (hw : w ∈ s.views)
    (hv : v ∈ s.views) (next : v.index = w.index + 1) :
    (s.settledMove c d (some w)).odo.span =
        (if w.seg.kind = .rack ∧ v.seg.kind = .rack then (s.carried c d).odo.span else ⟨0, 0, 0⟩) ∧
      (s.settledMove c d (some w)).odo.engagement = ((s.carried c d).crossUp w v).odo.engagement ∧
      (s.settledMove c d (some w)).sup = ((s.carried c d).crossUp w v).sup := by
  subst hd
  have views : (s.carried c .up).views = s.views := by
    obtain ⟨o, n, f, h⟩ := State.carried_only (c := c) (d := .up) (s := s)
    rw [h]
    rfl
  unfold State.settledMove
  rw [State.afterMove_up at_ (views.symm ▸ hw) (views.symm ▸ hv) next]
  generalize s.carried c .up = x
  split_ifs
  · simp only [State.publishOdometry_odo, State.publishOdometry_sup, and_true]
    rw [State.crossUp_odo]
  · simp only [State.publishOdometry_odo, State.publishOdometry_sup, State.dropSpan_odo, State.dropSpan_sup, and_true]
    rfl

theorem State.settledMove_down {w v : SegView} (hd : d = .down) (at_ : (s.carried c d).pinionSegment = some v) (hw : w ∈ s.views)
    (hv : v ∈ s.views) (next : w.index = v.index + 1) :
    (s.settledMove c d (some w)).odo.span =
        (if w.seg.kind = .rack ∧ v.seg.kind = .rack then (s.carried c d).odo.span else ⟨0, 0, 0⟩) ∧
      (s.settledMove c d (some w)).odo.engagement = ((s.carried c d).crossDown w).odo.engagement ∧
      (s.settledMove c d (some w)).sup = ((s.carried c d).crossDown w).sup := by
  subst hd
  have views : (s.carried c .down).views = s.views := by
    obtain ⟨o, n, f, h⟩ := State.carried_only (c := c) (d := .down) (s := s)
    rw [h]
    rfl
  unfold State.settledMove
  rw [State.afterMove_down at_ (views.symm ▸ hw) (views.symm ▸ hv) next]
  generalize s.carried c .down = x
  split_ifs
  · simp only [State.publishOdometry_odo, State.publishOdometry_sup, and_true]
    rw [State.crossDown_odo]
  · simp only [State.publishOdometry_odo, State.publishOdometry_sup, State.dropSpan_odo, State.dropSpan_sup, and_true]
    rfl

end Move

end Sys2Proof.Machine
end

section
/-! The obligation of the reference increment (01 §1.3 to §1.9): settles O22. -/

namespace Sys2Proof.Machine

/-! ## The growth of u as a law (R10) -/

theorem Odometry.growUncertainty_law (g : Nat) {o : Odometry} (small : o.credit < 1000) :
    (o.growUncertainty g).credit < 1000 ∧
      ((o.growUncertainty g).uncertainty < 65535 →
        ((o.growUncertainty g).uncertainty : Int) * 1000 - (o.growUncertainty g).credit =
          (o.uncertainty : Int) * 1000 - o.credit + g) := by
  rw [Odometry.growUncertainty_eq]
  dsimp only
  by_cases h : g ≤ o.credit
  · rw [if_pos h, if_pos h]
    omega
  · rw [if_neg h, if_neg h]
    omega

/-- What the carried record keeps, on the line and off it. -/
theorem Odometry.carry_frame (o : Odometry) (e uMax tol g : Nat) (um : Int) :
    o.carry e uMax tol g um =
      { o with
        position := (o.carry e uMax tol g um).position, remainder := (o.carry e uMax tol g um).remainder
        uncertainty := (o.carry e uMax tol g um).uncertainty, credit := (o.carry e uMax tol g um).credit
        localisation := (o.carry e uMax tol g um).localisation, lossFlag := (o.carry e uMax tol g um).lossFlag
        disagree := if 10000000 ≤ o.span.travel then decide (tol < o.spanDiff) else o.disagree
        span := if 10000000 ≤ o.span.travel then ⟨0, 0, 0⟩ else o.span } := by
  by_cases h : 0 ≤ um ∧ um ≤ (e : Int) * 1000
  · rw [Odometry.carry_inside h]
  · rw [Odometry.carry_outside h]

/-! ## The record at the start of the move -/

/-- What the counting and the start of the move leave of the record, and the span with the increment in it (R1, R6, R18). -/
theorem State.moveStart_counted {c : Counter} {s : State} (ref : s.reference = c) (d : Dir) :
    (State.moveStart c d { s with odo := s.counted c d }).odo =
      { s.odo with
        pinCount := (s.counted c d).pinCount, whlCount := (s.counted c d).whlCount
        pinRing := (s.counted c d).pinRing, whlRing := (s.counted c d).whlRing
        distance := min (s.odo.distance + (s.odo.distanceRem + incrementOf s.cfg c) / 1000) 16777215
        distanceRem := (s.odo.distanceRem + incrementOf s.cfg c) % 1000
        movementUm := movementAdd s.odo.movementUm (d.signed (incrementOf s.cfg c))
        lastPassed := if s.odo.isReversal d then none else s.odo.lastPassed
        lastRefDir := some d
        span := ⟨if c = .pinion then s.odo.span.pin + d.signed (incrementOf s.cfg c) else s.odo.span.pin, s.odo.span.whl,
          if c = .pinion then s.odo.span.travel + incrementOf s.cfg c else s.odo.span.travel⟩
        engagement := (s.counted c d).engagement } := by
  have span : (s.counted c d).span =
      ⟨if c = .pinion then s.odo.span.pin + d.signed (incrementOf s.cfg c) else s.odo.span.pin, s.odo.span.whl,
        if c = .pinion then s.odo.span.travel + incrementOf s.cfg c else s.odo.span.travel⟩ := by
    have form : (s.counted c d).span =
        if s.spanRuns then s.odo.span.add c (d.signed (incrementOf s.cfg c)) (incrementOf s.cfg c) else s.odo.span := rfl
    rw [form]
    cases c
    · rw [if_pos ((State.spanRuns_eq_reference s).2 ref)]
      rfl
    · rw [if_neg fun h => Counter.noConfusion (((State.spanRuns_eq_reference s).1 h).symm.trans ref)]
      rfl
  rw [← span]
  cases c <;> rfl

/-- The engagement check with a counted increment of the reference in it (R19). -/
theorem State.counted_engagement {c : Counter} {s : State} (ref : s.reference = c) (d : Dir) :
    (∀ i p q k, s.odo.engagement = .armed i p q k →
      (s.counted c d).engagement =
        .armed i
          ((if s.odo.isReversal d = true then 0 else p) + (if c = .pinion then d.signed (incrementOf s.cfg c) else 0))
          ((if s.odo.isReversal d = true then 0 else q) + (if c = .wheel then d.signed (incrementOf s.cfg c) else 0)) k) ∧
    ((∀ i p q k, s.odo.engagement ≠ .armed i p q k) → (s.counted c d).engagement = s.odo.engagement) := by
  have form : (s.counted c d).engagement =
      (if s.reference = c ∧ s.odo.isReversal d = true then s.odo.engagement.zero else s.odo.engagement).add c
        (d.signed (incrementOf s.cfg c)) := rfl
  refine ⟨fun i p q k armed => ?_, fun unarmed => ?_⟩
  · rw [form, armed]
    cases c <;> by_cases back : s.odo.isReversal d = true <;> simp [ref, back, Engagement.zero, Engagement.add]
  · rw [form]
    cases h : s.odo.engagement with
    | armed i p q k => exact absurd h (unarmed i p q k)
    | idle => split_ifs <;> rfl
    | unproven k => split_ifs <;> rfl

theorem State.expectedToward_congr {s u : State} (line : u.line = s.line) (cfg : u.cfg = s.cfg)
    (position : u.odo.position = s.odo.position) (uncertainty : u.odo.uncertainty = s.odo.uncertainty)
    (passed : u.odo.lastPassed = s.odo.lastPassed) (d : Dir) : u.expectedToward d = s.expectedToward d := by
  have markers : u.markers d = s.markers d := by
    unfold State.markers State.views State.activeBank
    rw [line]
  have point : u.readerPoint = s.readerPoint := by
    unfold State.readerPoint
    rw [position, cfg]
  unfold State.expectedToward
  rw [markers, point, uncertainty, passed]

theorem Odometry.isReversal_iff (o : Odometry) (d : Dir) :
    o.isReversal d = true ↔ o.lastRefDir = some (if d = .up then .down else .up) := by
  unfold Odometry.isReversal
  cases d <;> cases h : o.lastRefDir with
  | none => simp
  | some x => cases x <;> simp [Dir.opposite]

/-- What the engagement check leaves of the record. -/
theorem State.settledMove_odo (c : Counter) (d : Dir) (b : Option SegView) (s : State) :
    (s.settledMove c d b).odo =
      { (s.carried c d).odo with
        engagement := (s.settledMove c d b).odo.engagement, span := (s.settledMove c d b).odo.span } := by
  unfold State.settledMove
  rw [State.publishOdometry_odo]
  exact State.afterMove_odo ..

/-- What a reference increment leaves of the record beside the checks and the missed test. -/
theorem State.moveBy_keep {α : Type} (c : Counter) (d : Dir) (b : Option SegView) (s : State) (f : Odometry → α)
    (hf : ∀ (x : Odometry) cap mis las loc eng spa,
      f { x with
        capture := cap, missed := mis, lastPassed := las, localisation := loc, engagement := eng, span := spa } = f x) :
    f (s.moveBy c d b).odo = f (s.carried c d).odo := by
  rw [State.moveBy_odo.1, State.settledMove_odo]
  exact hf (s.carried c d).odo _ _ _ _ _ _

/-- Missed or not: what the missed test of the move leaves (R14, R11). -/
theorem State.moveBy_ends (c : Counter) (d : Dir) (b : Option SegView) (s : State) :
    let x := (s.carried c d).odo
    let y := (s.moveBy c d b).odo
    (y.missed = x.missed ∧ y.localisation = x.localisation) ∨
      (y.missed = min (x.missed + 1) 255 ∧
        y.localisation = if x.localisation = .localised ∧ 2 ≤ min (x.missed + 1) 255 then .degraded
          else x.localisation) := by
  intro x y
  have settled := State.settledMove_odo c d b s
  rcases State.moveBy_cases (c := c) (d := d) (s := s) (b := b) with ⟨⟨k, h⟩, -⟩ | ⟨m, -, -, -, h⟩
  · exact .inl ⟨(congrArg (fun u : State => u.odo.missed) h).trans (congrArg Odometry.missed settled :),
      (congrArg (fun u : State => u.odo.localisation) h).trans (congrArg Odometry.localisation settled :)⟩
  · refine .inr ?_
    have ends : y = _ := (congrArg State.odo h).trans (State.missMarker_odo m _)
    rw [ends, settled]
    exact ⟨rfl, rfl⟩

theorem Capture.await_eq (d : Dir) (m : Option Marker) (k : Capture) :
    k.await d m = m.elim k fun m => if ⟨d, m⟩ ∈ k.waiting then k else { k with waiting := k.waiting ++ [⟨d, m⟩] } := by
  cases m with
  | none => rfl
  | some m => exact if_congr List.contains_iff_mem rfl rfl

theorem markerBeyond_iff (d : Dir) (reader : Int) (u : Nat) (m : Marker) :
    markerBeyond d reader u m = true ↔
      if d = .up then (m.position : Int) + m.window + u < reader else reader < (m.position : Int) - m.window - u := by
  cases d <;> exact decide_eq_true_iff

/-- The expected marker of a move with no capture pending: missed when the reader point leaves it behind (R14). -/
theorem State.moveBy_missed {c : Counter} {d : Dir} {b : Option SegView} {s : State} {m : Marker}
    (free : s.odo.capture = none) (expected : (s.moveStart c d).expectedToward d = some m) :
    let u := s.moveBy c d b
    (markerBeyond d u.readerPoint u.odo.uncertainty m = true →
      u.odo.missed = min ((s.carried c d).odo.missed + 1) 255 ∧ u.odo.lastPassed = some m.id ∧
      (s.notice.alerts.length = 21 → (u.notice.entry .markerMissed).latched = true)) ∧
    (markerBeyond d u.readerPoint u.odo.uncertainty m = false →
      u.odo.missed = (s.carried c d).odo.missed ∧ u.odo.lastPassed = (s.carried c d).odo.lastPassed) := by
  intro u
  have settled := State.settledMove_odo c d b s
  have length (l : s.notice.alerts.length = 21) : (s.settledMove c d b).notice.alerts.length = 21 :=
    (State.publishOdometry_length _).trans (State.afterMove_length l)
  rcases State.moveBy_cases (c := c) (d := d) (s := s) (b := b) with ⟨⟨k, h⟩, why⟩ | ⟨n, -, which, beyond, h⟩
  · have reads : markerBeyond d u.readerPoint u.odo.uncertainty m = false := by
      rw [show u = _ from h]
      rcases why with pends | none | ⟨n, which, not⟩
      · exact absurd ((s.settledMove_capture c d b).trans free) pends
      · exact nomatch expected.symm.trans none
      · obtain rfl : n = m := Option.some.inj (which.symm.trans expected)
        exact not
    refine ⟨fun yes => (nomatch reads.symm.trans yes), fun _ => ?_⟩
    rw [show u = _ from h, settled]
    exact ⟨rfl, rfl⟩
  · obtain rfl : n = m := Option.some.inj (which.symm.trans expected)
    have ends : u.odo = _ := (congrArg State.odo h).trans (State.missMarker_odo n _)
    have reads : markerBeyond d u.readerPoint u.odo.uncertainty n = true := by
      unfold State.readerPoint
      rw [ends, show u.cfg = _ from congrArg State.cfg h]
      exact beyond
    refine ⟨fun _ => ?_, fun no => nomatch no.symm.trans reads⟩
    rw [ends, settled]
    exact ⟨rfl, rfl, fun l => (congrArg (fun u : State => (u.notice.entry .markerMissed).latched) h).trans
      (State.missMarker_latched n (length l))⟩

/-- A move that meets a pending capture, or that expects no marker, misses none (R14). -/
theorem State.moveBy_unmissed {c : Counter} {d : Dir} {b : Option SegView} {s : State}
    (quiet : s.odo.capture ≠ none ∨ (s.moveStart c d).expectedToward d = none) :
    (s.moveBy c d b).odo.missed = (s.carried c d).odo.missed ∧
      (s.moveBy c d b).odo.lastPassed = (s.carried c d).odo.lastPassed := by
  have settled := State.settledMove_odo c d b s
  rcases State.moveBy_cases (c := c) (d := d) (s := s) (b := b) with ⟨⟨k, h⟩, -⟩ | ⟨m, free, which, -, -⟩
  · exact ⟨(congrArg (fun u : State => u.odo.missed) h).trans (congrArg Odometry.missed settled :),
      (congrArg (fun u : State => u.odo.lastPassed) h).trans (congrArg Odometry.lastPassed settled :)⟩
  · exact quiet.elim (fun pends => absurd ((s.settledMove_capture c d b).symm.trans free) pends)
      fun none => nomatch which.symm.trans none

/-- Settles O22: the record carried along, the check at a boundary, the missed test, and the conditions at the end. -/
theorem referenceIncrementMovesTheRecord : Obligations.ReferenceIncrementMovesTheRecord := by
  refine ⟨?_, fun g o small => ⟨Odometry.growUncertainty_frame g o, Odometry.growUncertainty_law g small⟩⟩
  intro t c e lineEnd s empty counted
  have sign : signOf (s.advance t).cfg c = (match c with | .pinion => s.cfg.pinSign | .wheel => s.cfg.whlSign) := by
    cases c <;> rfl
  intro ref line positive d len rate signed place g more grown pin travel diff apart inside
    reversal waiting
  have len_eq : incrementOf s.cfg c = len := by cases c <;> rfl
  have rate_eq : rateOf s.cfg c = rate := by cases c <;> rfl
  have signed_eq : d.signed len = signed := Dir.signed_eq d len
  have back : s.odo.isReversal d = true ↔ reversal := Odometry.isReversal_iff ..
  -- the run
  obtain ⟨base, hbase⟩ : ∃ base : State, base = { s.advance t with odo := (s.advance t).counted c d } := ⟨_, rfl⟩
  have counted_run : (s.advance t).increment c e = (s.advance t).countIncrement c d :=
    (State.increment_counted counted c _).trans (congrArg (fun code : Nat =>
      (s.advance t).countIncrement c (if decide (e = .forward) = decide (code ≠ 255) then .up else .down)) sign)
  have run : (s.advance t).increment c e = base.moveBy c d s.pinionSegment := by
    refine counted_run.trans ((State.countIncrement_eq c d (s.advance t)).trans ((if_pos ref).trans ?_))
    rw [hbase]
    rfl
  -- the record at the start
  obtain ⟨o, ho⟩ : ∃ o, o = (base.moveStart c d).odo := ⟨_, rfl⟩
  have start := State.moveStart_counted (s := s.advance t) ref d
  rw [← hbase, ← ho, show incrementOf (s.advance t).cfg c = len from len_eq, signed_eq] at start
  have base_line : base.lineEnd = some lineEnd := by
    rw [hbase]
    exact line
  have base_cfg : base.cfg = s.cfg := by rw [hbase]; rfl
  have place_eq : o.placeUm + signed = place := by
    rw [start]
    rfl
  have apart_iff : o.apart s.cfg.agreeTol ↔ apart := by
    rw [start]
    exact Iff.rfl
  have grown_eq : o.grownTo g = grown := by
    rw [start]
    rfl
  have credit_eq : o.creditAfter g = if g ≤ s.odo.credit then s.odo.credit - g else more * 1000 - (g - s.odo.credit) := by
    rw [start]
    rfl
  have carried := State.carried_odo (c := c) (d := d) base_line
  rw [base_cfg, ← ho, rate_eq, len_eq, signed_eq, place_eq] at carried
  -- the state that the command leaves
  have keep {α : Type} (f : Odometry → α) := State.moveBy_keep c d s.pinionSegment base f
  obtain ⟨O, N, F, framed⟩ := base.odoOnly_closed.moveBy ⟨_, _, _, rfl⟩ c d s.pinionSegment
  have settledSup := (State.moveBy_odo (c := c) (d := d) (s := base) (b := s.pinionSegment)).2
  have buffer : (base.moveBy c d s.pinionSegment).link.buffer = [] := by
    rw [framed, hbase]
    exact empty
  refine ⟨(base.moveBy c d s.pinionSegment).grantTransmitter, congrArg Host.Outcome.next
    ((congrArg State.finish run).trans (State.finish_empty buffer)), ?_⟩
  rw [State.grantTransmitter_odo, State.grantTransmitter_sup]
  have loc_eq : o.localisation = s.odo.localisation := by rw [start]; rfl
  have loss_eq : o.lossFlag = s.odo.lossFlag := by rw [start]; rfl
  have missed_eq : o.missed = s.odo.missed := by rw [start]; rfl
  have u_eq : o.uncertainty = s.odo.uncertainty := by rw [start]; rfl
  have passed : o.lastPassed = waiting.odo.lastPassed := by
    rw [start]
    exact if_congr back rfl rfl
  have awaited : (base.moveStart c d).expectedToward d = waiting.expectedToward d := by
    refine State.expectedToward_congr (s := waiting) (u := base.moveStart c d)
      ((congrArg State.line hbase :).trans rfl) base_cfg ?_ ?_ ?_ d
    · rw [← ho, start]
      rfl
    · exact (congrArg Odometry.uncertainty ho.symm).trans u_eq
    · exact (congrArg Odometry.lastPassed ho.symm).trans passed
  have framedOdo := Odometry.carry_frame o lineEnd s.cfg.uMax s.cfg.agreeTol g place
  rw [← carried] at framedOdo
  have diff_eq : o.spanDiff = diff := by rw [start]; rfl
  have carried_missed : (base.carried c d).odo.missed = s.odo.missed := by
    exact (congrArg Odometry.missed framedOdo).trans missed_eq
  have carried_passed : (base.carried c d).odo.lastPassed = waiting.odo.lastPassed :=
    (congrArg Odometry.lastPassed framedOdo).trans passed
  have free_eq : base.odo.capture = s.odo.capture := by
    rw [hbase]
    exact (s.advance t).counted_capture c d
  have locs (h : inside) := Odometry.carry_inside_localisation (o := o) (uMax := s.cfg.uMax) (tol := s.cfg.agreeTol)
    (g := g) h
  rw [← carried, loc_eq] at locs
  have ends := State.moveBy_ends c d s.pinionSegment base
  dsimp only at ends
  rw [carried_missed] at ends
  have lostIff : (base.moveBy c d s.pinionSegment).odo.localisation = .unlocalised ↔
      (base.carried c d).odo.localisation = .unlocalised := by
    rcases ends with ⟨-, e⟩ | ⟨-, e⟩ <;> rw [e]
    split_ifs with degraded
    · rw [degraded.1]
      exact ⟨nofun, nofun⟩
    · rfl
  refine ⟨fun h => ?_, fun h => ?_, ?_, ?_, ?_, ?_, ?_, fun w v hw hv => ?_, fun free m expected => ?_, fun quiet => ?_, ?_,
    fun h lost => ?_, fun h loc => ?_, fun l => ?_⟩
  · have inBounds := Odometry.carry_inside (o := o) (uMax := s.cfg.uMax) (tol := s.cfg.agreeTol) (g := g) h
    rw [← carried] at inBounds
    refine ⟨(keep Odometry.position fun _ _ _ _ _ _ _ => rfl).trans (congrArg Odometry.position inBounds),
      (keep Odometry.remainder fun _ _ _ _ _ _ _ => rfl).trans (congrArg Odometry.remainder inBounds),
      (keep Odometry.lossFlag fun _ _ _ _ _ _ _ => rfl).trans ((congrArg Odometry.lossFlag inBounds).trans loss_eq), ?_,
      (keep Odometry.uncertainty fun _ _ _ _ _ _ _ => rfl).trans ((congrArg Odometry.uncertainty inBounds).trans ?_),
      (keep Odometry.credit fun _ _ _ _ _ _ _ => rfl).trans ((congrArg Odometry.credit inBounds).trans credit_eq)⟩
    · exact lostIff.trans (locs h).1
    · rw [grown_eq]
      exact if_congr apart_iff (by rw [diff_eq]) rfl
  · have out := Odometry.carry_outside (o := o) (uMax := s.cfg.uMax) (tol := s.cfg.agreeTol) (g := g) h
    have top (known : s.odo.localisation ≠ .unlocalised) :=
      Odometry.carry_outside_uncertainty (o := o) (uMax := s.cfg.uMax) (tol := s.cfg.agreeTol) (g := g) h
        (by rw [loc_eq]; exact known)
    rw [← carried] at out top
    refine ⟨(keep Odometry.position fun _ _ _ _ _ _ _ => rfl).trans (congrArg Odometry.position out),
      (keep Odometry.remainder fun _ _ _ _ _ _ _ => rfl).trans (congrArg Odometry.remainder out), ?_,
      fun known => ⟨(keep Odometry.lossFlag fun _ _ _ _ _ _ _ => rfl).trans ((congrArg Odometry.lossFlag out).trans
        (if_neg (by rw [loc_eq]; exact known))),
        (keep Odometry.uncertainty fun _ _ _ _ _ _ _ => rfl).trans (top known)⟩⟩
    have lost : (base.carried c d).odo.localisation = .unlocalised := congrArg Odometry.localisation out
    rw [lost] at ends
    exact ends.elim And.right fun e => e.2.trans (if_neg fun h => nomatch h.1)
  · refine (keep Odometry.movementUm fun _ _ _ _ _ _ _ => rfl).trans ((congrArg Odometry.movementUm framedOdo).trans ?_)
    rw [start]
    rfl
  · refine (keep Odometry.distance fun _ _ _ _ _ _ _ => rfl).trans ((congrArg Odometry.distance framedOdo).trans ?_)
    rw [start]
    rfl
  · refine (keep Odometry.distanceRem fun _ _ _ _ _ _ _ => rfl).trans ((congrArg Odometry.distanceRem framedOdo).trans ?_)
    rw [start]
    rfl
  · refine (keep Odometry.lastRefDir fun _ _ _ _ _ _ _ => rfl).trans ((congrArg Odometry.lastRefDir framedOdo).trans ?_)
    rw [start]
  · refine (keep Odometry.disagree fun _ _ _ _ _ _ _ => rfl).trans ((congrArg Odometry.disagree framedOdo).trans ?_)
    rw [diff_eq, start]
    rfl
  · have lines : (base.carried c d).line = s.line ∧ (base.carried c d).cfg = s.cfg ∧ base.views = s.views := by
      obtain ⟨o, n, f, h⟩ := State.carried_only (c := c) (d := d) (s := base)
      rw [h, hbase]
      exact ⟨rfl, rfl, rfl⟩
    have at_ : (base.carried c d).pinionSegment = some v := by
      refine (State.pinionSegment_congr (s := base.carried c d) (u := (base.moveBy c d s.pinionSegment).grantTransmitter)
        ?_ ?_ ?_ ?_).symm.trans hv
      · rw [State.grantTransmitter_line, framed, lines.1, hbase]
        rfl
      · rw [State.grantTransmitter_cfg, framed, lines.2.1, hbase]
        rfl
      · rw [State.grantTransmitter_odo]
        exact keep Odometry.position fun _ _ _ _ _ _ _ => rfl
      · rw [State.grantTransmitter_odo]
        exact lostIff
    have inViews {u : State} {x : SegView} (h : u.pinionSegment = some x) : x ∈ u.views :=
      ((u.segmentAt_eq_some_iff _ x).1 ((u.pinionSegment_eq_some_iff x).1 h).2).1
    have w_in : w ∈ base.views := lines.2.2 ▸ inViews hw
    have v_in : v ∈ base.views := by
      have h := inViews at_
      have same : (base.carried c d).views = base.views := by
        obtain ⟨o, n, f, h⟩ := State.carried_only (c := c) (d := d) (s := base)
        rw [h]
        rfl
      exact same ▸ h
    obtain ⟨endOdo, endSup⟩ := State.moveBy_odo (c := c) (d := d) (s := base) (b := s.pinionSegment)
    have endSpan := congrArg Odometry.span endOdo
    have endCheck := congrArg Odometry.engagement endOdo
    rw [hw] at endSpan endCheck endSup ⊢
    intro kept start' armed p' q' ends' counted' crossed
    have signed_len : d.signed (incrementOf (s.advance t).cfg c) = signed := by
      rw [show incrementOf (s.advance t).cfg c = len from len_eq]
      exact signed_eq
    have kept_eq : kept = s.odo.engagement.kept := by
      cases hE : s.odo.engagement <;> simp [kept, hE, Engagement.kept]
    have check : (base.carried c d).odo.engagement = ((s.advance t).counted c d).engagement :=
      (congrArg Odometry.engagement framedOdo).trans (by rw [start])
    have spanIs : (base.carried c d).odo.span = counted' :=
      (congrArg Odometry.span framedOdo).trans (by rw [start]; rfl)
    obtain ⟨countedArmed, countedOther⟩ := State.counted_engagement (s := s.advance t) ref d
    have armedE {i p q} (h : armed i p q) : (base.carried c d).odo.engagement = .armed i (p' p) (q' q) kept := by
      refine check.trans ((countedArmed i p q kept h).trans ?_)
      rw [signed_len]
      exact congrArg₂ (fun a b => Engagement.armed i a b kept) (congrArg₂ (· + ·) (if_congr back rfl rfl) rfl)
        (congrArg₂ (· + ·) (if_congr back rfl rfl) rfl)
    have otherE (h : ∀ i p q, ¬armed i p q) : (base.carried c d).odo.engagement = s.odo.engagement ∧
        ∀ i p q k, (base.carried c d).odo.engagement ≠ .armed i p q k := by
      have un (i p q k) : s.odo.engagement ≠ .armed i p q k := fun e => h i p q (e.trans (by rw [kept_eq, e]; rfl))
      have same := check.trans (countedOther un)
      exact ⟨same, same.symm ▸ un⟩
    have keptE : (base.carried c d).odo.engagement.kept = kept := by
      by_cases h : ∃ i p q, armed i p q
      · obtain ⟨i, p, q, h⟩ := h
        rw [armedE h]
        rfl
      · rw [(otherE fun i p q k => h ⟨i, p, q, k⟩).1, kept_eq]
    have beforeE (i p q) : (Engagement.armed i p q kept).before = start' := by
      cases hk : kept <;> simp [start', hk, Engagement.before]
    have supE : (base.carried c d).sup = s.sup := by
      rw [State.carried_sup, hbase]
      rfl
    clear_value start' kept
    refine ⟨fun same => ?_, fun hd next => ?_, fun hd next => ?_⟩
    · obtain ⟨span, stays, sup⟩ := State.settledMove_same at_ same.symm
      have done : (base.moveBy c d (some w)).sup.engagementFailure = (s.sup.engagementFailure || false) := by
        rw [endSup, sup, supE, Bool.or_false]
      exact ⟨endSpan.trans (span.trans spanIs), fun i p q h => ⟨endCheck.trans (stays.trans (armedE h)), done⟩,
        fun h => ⟨endCheck.trans (stays.trans (otherE h).1), done⟩⟩
    · obtain ⟨span, crosses, sup⟩ := State.settledMove_up hd at_ w_in v_in next
      rw [crosses] at endCheck
      rw [sup] at endSup
      have kept_sup : (base.carried c d).sup.engagementFailure = (s.sup.engagementFailure || false) := by
        rw [supE, Bool.or_false]
      have stays (h : (base.carried c d).crossUp w v = base.carried c d) : ends' (base.carried c d).odo.engagement false :=
        ⟨endCheck.trans (congrArg (fun u : State => u.odo.engagement) h),
          (congrArg Supervisor.engagementFailure endSup).trans
            ((congrArg (fun u : State => u.sup.engagementFailure) h).trans kept_sup)⟩
      have becomes (y : Engagement) (h : (base.carried c d).crossUp w v = { base.carried c d with
          odo := { (base.carried c d).odo with engagement := y } }) : ends' y false :=
        ⟨endCheck.trans (congrArg (fun u : State => u.odo.engagement) h),
          (congrArg Supervisor.engagementFailure endSup).trans
            ((congrArg (fun u : State => u.sup.engagementFailure) h).trans kept_sup)⟩
      refine ⟨endSpan.trans (span.trans (by rw [spanIs])), fun h => ?_, fun h un => ?_,
        fun i p q h => ⟨fun k => ?_, fun k other => ?_, fun k self => ?_⟩⟩
      · rw [← keptE]
        exact becomes _ (State.crossUp_rackEntry h)
      · rw [← (otherE un).1]
        exact stays (State.crossUp_unarmed h (otherE un).2)
      · rw [← beforeE i (p' p) (q' q), ← armedE h]
        exact becomes _ (State.crossUp_adhesion (armedE h) k)
      · rw [← armedE h]
        exact stays ((State.crossUp_rack (armedE h) k).trans (if_neg other))
      · have decides := (State.crossUp_rack (w := w) (armedE h) k).trans (if_pos self)
        obtain ⟨short, proven, failed⟩ := State.decideEngagement_spec w (p' p) (q' q) (base.carried c d)
        refine ⟨fun few => becomes _ (decides.trans (short few)),
          fun long close even => becomes _ (decides.trans (proven long (by rw [lines.2.1]; exact close) even)), fun long apart => ?_⟩
        have fails := decides.trans (failed long (by rw [lines.2.1]; exact apart))
        rw [← beforeE i (p' p) (q' q), ← armedE h]
        exact ⟨endCheck.trans (congrArg (fun u : State => u.odo.engagement) fails),
          (congrArg Supervisor.engagementFailure endSup).trans
            ((congrArg (fun u : State => u.sup.engagementFailure) fails).trans (Bool.or_true _).symm)⟩
    · obtain ⟨span, crosses, sup⟩ := State.settledMove_down hd at_ w_in v_in next
      rw [crosses] at endCheck
      rw [sup] at endSup
      have kept_sup : (base.carried c d).sup.engagementFailure = (s.sup.engagementFailure || false) := by
        rw [supE, Bool.or_false]
      have stays (h : (base.carried c d).crossDown w = base.carried c d) : ends' (base.carried c d).odo.engagement false :=
        ⟨endCheck.trans (congrArg (fun u : State => u.odo.engagement) h),
          (congrArg Supervisor.engagementFailure endSup).trans
            ((congrArg (fun u : State => u.sup.engagementFailure) h).trans kept_sup)⟩
      have becomes (y : Engagement) (h : (base.carried c d).crossDown w = { base.carried c d with
          odo := { (base.carried c d).odo with engagement := y } }) : ends' y false :=
        ⟨endCheck.trans (congrArg (fun u : State => u.odo.engagement) h),
          (congrArg Supervisor.engagementFailure endSup).trans
            ((congrArg (fun u : State => u.sup.engagementFailure) h).trans kept_sup)⟩
      refine ⟨endSpan.trans (span.trans (by rw [spanIs])), fun p q h => ?_, fun i p q h other => ?_, fun un => ?_⟩
      · rw [← beforeE w.index (p' p) (q' q), ← armedE h]
        exact becomes _ ((State.crossDown_armed (armedE h)).trans (if_pos rfl))
      · rw [← armedE h]
        exact stays ((State.crossDown_armed (armedE h)).trans (if_neg other))
      · rw [← (otherE un).1]
        exact stays (State.crossDown_unarmed (otherE un).2)
  · have judged := State.moveBy_missed (b := s.pinionSegment) (free_eq.trans free) (awaited.trans expected)
    dsimp only at judged
    rw [carried_missed, carried_passed] at judged
    have point : (base.moveBy c d s.pinionSegment).readerPoint =
        ((base.moveBy c d s.pinionSegment).odo.position : Int) - s.cfg.readerOffset := by
      unfold State.readerPoint
      rw [congrArg State.cfg framed, base_cfg]
    rw [point, show base.notice = s.notice from (congrArg State.notice hbase :)] at judged
    rw [State.grantTransmitter_entry]
    generalize base.moveBy c d s.pinionSegment = u at judged
    rw [markerBeyond_iff, Bool.eq_false_iff, ne_eq, markerBeyond_iff] at judged
    clear_value d
    cases d <;> exact judged
  · have unmissed := State.moveBy_unmissed (b := s.pinionSegment) (c := c) (d := d) (s := base)
      (by rw [free_eq, awaited]; exact quiet)
    rw [carried_missed, carried_passed] at unmissed
    exact unmissed
  · refine (congrArg (fun u : State => u.odo.capture) rfl).trans ((State.moveBy_capture c d base s.pinionSegment).trans ?_)
    rw [awaited, hbase]
    refine (congrArg (Option.map (Capture.await d (waiting.expectedToward d))) ((s.advance t).counted_capture c d)).trans ?_
    refine congrArg (fun f => s.odo.capture.map f) (funext fun k => ?_)
    rw [Capture.await_eq]
    cases waiting.expectedToward d <;> rfl
  · have degraded : (base.carried c d).odo.localisation = .degraded := (locs h).2.1 lost
    rw [degraded] at ends
    exact ends.elim And.right fun e => e.2.trans (if_neg fun h => nomatch h.1)
  · have fails : o.failsTest s.cfg.uMax s.cfg.agreeTol g ↔
        (grown ≠ s.odo.uncertainty ∧ (s.cfg.uMax ≤ grown ∨ 2 ≤ s.odo.missed)) ∨
          (apart ∧ (s.cfg.uMax ≤ (base.moveBy c d s.pinionSegment).odo.uncertainty ∨ 2 ≤ s.odo.missed)) := by
      have u_end : apart → (base.moveBy c d s.pinionSegment).odo.uncertainty = min (o.grownTo g + o.spanDiff) 65535 := by
        intro is_apart
        have inBounds := Odometry.carry_inside (o := o) (uMax := s.cfg.uMax) (tol := s.cfg.agreeTol) (g := g) h
        rw [← carried] at inBounds
        exact (keep Odometry.uncertainty fun _ _ _ _ _ _ _ => rfl).trans ((congrArg Odometry.uncertainty inBounds).trans
          (if_pos (apart_iff.2 is_apart)))
      unfold Odometry.failsTest
      rw [apart_iff, grown_eq, u_eq, missed_eq]
      refine or_congr Iff.rfl (and_congr_right fun is_apart => ?_)
      rw [u_end is_apart, grown_eq]
    intro tested
    have here := (locs h).2.2 loc
    refine ⟨fun yes => ?_, fun new two => ?_, fun no few => ?_⟩
    · rw [if_pos (fails.2 yes)] at here
      rw [here] at ends
      exact ends.elim And.right fun e => e.2.trans (if_neg fun h => nomatch h.1)
    · rcases ends with ⟨same, -⟩ | ⟨missed, e⟩
      · exact absurd same new
      · rw [e, ← missed]
        by_cases failed : o.failsTest s.cfg.uMax s.cfg.agreeTol g
        · rw [if_pos failed] at here
          rw [here, if_neg fun h => nomatch h.1]
        · rw [if_neg failed] at here
          rw [here, if_pos ⟨rfl, two⟩]
    · rw [if_neg (mt fails.1 no)] at here
      rw [here] at ends
      rcases ends with ⟨-, e⟩ | ⟨missed, e⟩
      · exact e
      · exact e.trans (if_neg fun h => by omega)
  · rw [State.grantTransmitter_entry, State.grantTransmitter_entry, State.grantTransmitter_entry]
    have length : base.notice.alerts.length = 21 := by
      rw [hbase]
      exact l
    have shown (k : AlertKind) (x : Bool) := State.moveBy_entry (c := c) (d := d) (b := s.pinionSegment) length k x
    refine ⟨shown _ _ rfl, shown _ _ rfl, shown _ _ ?_⟩
    cases h : (base.moveBy c d s.pinionSegment).odo.engagement <;> simp only [Odometry.shows, h] <;> rfl

end Sys2Proof.Machine
end

section
/-! The missed tests that wait for a capture (01 §1.7): what they leave of the record and of the alert entries. -/

namespace Sys2Proof.Machine

/-! ## Reports that are ALERT reports only -/

/-- Some ALERT reports have joined the queue. -/
def Notice.Alerted (n m : Notice) : Prop :=
  ∃ after : List ReportBody,
    (∀ y ∈ after, ∃ kind cls forced latched, y = .alert kind cls forced latched) ∧ m.bodies = n.bodies ++ after

theorem Notice.Alerted.trans {n m p : Notice} (h : n.Alerted m) (g : m.Alerted p) : n.Alerted p := by
  obtain ⟨a, alertsA, joinsA⟩ := h
  obtain ⟨b, alertsB, joinsB⟩ := g
  exact ⟨a ++ b, fun y hy => (List.mem_append.1 hy).elim (alertsA y) (alertsB y),
    by rw [joinsB, joinsA, List.append_assoc]⟩

theorem Notice.Alerted.latch (n : Notice) (t : Time) (k : AlertKind) : n.Alerted (n.latch t k) := by
  obtain ⟨after, alerts, joins⟩ := n.latch_bodies t k
  exact ⟨after, fun y hy => ⟨k, alerts y hy⟩, joins⟩

theorem Notice.Alerted.setActive (n : Notice) (t : Time) (k : AlertKind) (b : Bool) : n.Alerted (n.setActive t k b) := by
  obtain ⟨after, alerts, joins⟩ := n.setActive_bodies t k b
  exact ⟨after, fun y hy => ⟨k, alerts y hy⟩, joins⟩

theorem State.publishOdometry_alerted (s : State) : s.notice.Alerted s.publishOdometry.notice := by
  rw [State.publishOdometry_notice]
  exact ((Notice.Alerted.setActive ..).trans (Notice.Alerted.setActive ..)).trans (Notice.Alerted.setActive ..)

/-- With room for them all, the three conditions join at most three reports. -/
theorem State.publishOdometry_news (s : State) (room : s.notice.queue.length ≤ 20) :
    ∃ before : List ReportBody,
      (∀ y ∈ before, ∃ kind cls forced latched, y = .alert kind cls forced latched) ∧ before.length ≤ 3 ∧
      s.publishOdometry.notice.bodies = s.notice.bodies ++ before := by
  have one (n : Notice) (q : n.queue.length ≤ 22) (k : AlertKind) (b : Bool) :
      ∃ news : List ReportBody, (∀ y ∈ news, ∃ kind cls forced latched, y = .alert kind cls forced latched) ∧
        news.length ≤ 1 ∧ (n.setActive s.clock.now k b).bodies = n.bodies ++ news := by
    obtain ⟨news, rfl | ⟨cls, forced, latched, rfl⟩, joins⟩ := n.setActive_news s.clock.now k b (by omega)
    · exact ⟨[], List.forall_mem_nil _, Nat.zero_le _, joins⟩
    · exact ⟨_, fun y hy => ⟨_, _, _, _, List.mem_singleton.1 hy⟩, le_refl _, joins⟩
  have length {n m : Notice} {news : List ReportBody} (joins : m.bodies = n.bodies ++ news) :
      m.queue.length = n.queue.length + news.length := by
    rw [← Notice.bodies_length, joins, List.length_append, Notice.bodies_length]
  rw [State.publishOdometry_notice]
  obtain ⟨x, alertsX, shortX, joinsX⟩ := one s.notice (by omega) .positionDegraded s.odo.isDegraded
  have roomX := length joinsX
  obtain ⟨y, alertsY, shortY, joinsY⟩ := one (s.notice.setActive s.clock.now .positionDegraded s.odo.isDegraded) (by omega)
    .odometryDisagree s.odo.disagree
  have roomY := length joinsY
  obtain ⟨z, alertsZ, shortZ, joinsZ⟩ := one ((s.notice.setActive s.clock.now .positionDegraded s.odo.isDegraded).setActive
    s.clock.now .odometryDisagree s.odo.disagree) (by omega) .engagementUnproven s.odo.engagement.isUnproven
  refine ⟨x ++ y ++ z, fun r hr => ?_, by simp only [List.length_append]; omega, ?_⟩
  · rcases List.mem_append.1 hr with h | h
    · exact (List.mem_append.1 h).elim (alertsX r) (alertsY r)
    · exact alertsZ r h
  · rw [joinsZ, joinsY, joinsX, List.append_assoc, List.append_assoc, List.append_assoc]

/-! ## One missed marker (R14) -/

/-- An entry raised `n` times. -/
def AlertEntry.raisedBy (e : AlertEntry) (n : Nat) : AlertEntry :=
  if n = 0 then e else { e with latched := true, count := min (e.count + n) 255 }

theorem AlertEntry.raisedBy_succ (e : AlertEntry) (n : Nat) : (e.raisedBy 1).raisedBy n = e.raisedBy (n + 1) := by
  unfold AlertEntry.raisedBy
  by_cases h : n = 0
  · rw [if_pos h, h]
  · rw [if_neg h, if_neg Nat.one_ne_zero, if_neg (Nat.succ_ne_zero n)]
    have count : min (min (e.count + 1) 255 + n) 255 = min (e.count + (n + 1)) 255 := by omega
    rw [count]

theorem State.missMarker_framed (m : Marker) (s : State) :
    s.missMarker m = { s with odo := (s.missMarker m).odo, notice := (s.missMarker m).notice } := rfl

theorem State.missMarker_length {m : Marker} {s : State} (l : s.notice.alerts.length = 21) :
    (s.missMarker m).notice.alerts.length = 21 :=
  (State.publishOdometry_length _).trans ((Notice.latch_length ..).trans l)

theorem State.missMarker_entry {m : Marker} {s : State} (l : s.notice.alerts.length = 21) (k : AlertKind) :
    (s.missMarker m).notice.entry k =
      ((s.notice.entry k).raisedBy (if k = .markerMissed then 1 else 0)).follow ((s.missMarker m).odo.shows k) := by
  have published := State.publishOdometry_entry
    { State.raise .markerMissed { s with
        odo := { s.odo with missed := min (s.odo.missed + 1) 255, lastPassed := some m.id } } with
      odo := (s.missMarker m).odo } ((Notice.latch_length ..).trans l) k
  refine published.trans (congrArg (fun e : AlertEntry => e.follow ((s.missMarker m).odo.shows k)) ?_)
  by_cases h : k = .markerMissed
  · rw [if_pos h, h]
    exact Notice.latch_entry_self _ _ _ l
  · rw [if_neg h]
    exact Notice.latch_entry_other _ _ h

theorem State.missMarker_alerted (m : Marker) (s : State) : s.notice.Alerted (s.missMarker m).notice :=
  (Notice.Alerted.latch s.notice s.clock.now .markerMissed).trans (State.publishOdometry_alerted
    { State.raise .markerMissed { s with
        odo := { s.odo with missed := min (s.odo.missed + 1) 255, lastPassed := some m.id } } with
      odo := (s.missMarker m).odo })

/-! ## The tests that waited (R14, R11) -/

/-- The markers of a list missed, the first first. -/
def State.missAll (l : List WaitingTest) (s : State) : State := l.foldl (fun s w => s.missMarker w.marker) s

/-- The last of the missed markers, or the one passed before. -/
def lastMissed (last : Option Nat) (l : List WaitingTest) : Option Nat := (l.getLast?.map fun w => w.marker.id).or last

theorem lastMissed_cons (last : Option Nat) (w : WaitingTest) (l : List WaitingTest) :
    lastMissed (some w.marker.id) l = lastMissed last (w :: l) := by
  unfold lastMissed
  cases l with
  | nil => rfl
  | cons v l =>
    rw [List.getLast?_cons_cons, List.getLast?_cons]
    rfl

/-- The record after `n` missed markers, `last` the last of them. -/
def Odometry.missedBy (n : Nat) (last : Option Nat) (o : Odometry) : Odometry :=
  { o with
    missed := if n = 0 then o.missed else min (o.missed + n) 255
    lastPassed := last
    localisation := if o.localisation = .localised ∧ n ≠ 0 ∧ 2 ≤ o.missed + n then .degraded else o.localisation }

theorem State.missAll_odo (l : List WaitingTest) (s : State) :
    (s.missAll l).odo = s.odo.missedBy l.length (lastMissed s.odo.lastPassed l) := by
  induction l generalizing s with
  | nil => simp [State.missAll, Odometry.missedBy, lastMissed]
  | cons w l ih =>
    refine (ih (s.missMarker w.marker)).trans ?_
    rw [State.missMarker_odo, Odometry.missedBy, Odometry.missedBy, lastMissed_cons s.odo.lastPassed]
    have count : (if l.length = 0 then min (s.odo.missed + 1) 255 else min (min (s.odo.missed + 1) 255 + l.length) 255) =
        min (s.odo.missed + (l.length + 1)) 255 := by
      split_ifs <;> omega
    have verdict (x : Localisation) :
        (let y := if x = .localised ∧ 2 ≤ min (s.odo.missed + 1) 255 then Localisation.degraded else x
        if y = .localised ∧ l.length ≠ 0 ∧ 2 ≤ min (s.odo.missed + 1) 255 + l.length then Localisation.degraded else y) =
        if x = .localised ∧ l.length + 1 ≠ 0 ∧ 2 ≤ s.odo.missed + (l.length + 1) then Localisation.degraded else x := by
      dsimp only
      cases x
      case localised =>
        by_cases two : 2 ≤ min (s.odo.missed + 1) 255
        · have all : 2 ≤ s.odo.missed + (l.length + 1) := by omega
          simp [two, all]
        · simp only [two, and_false, if_false, true_and]
          exact if_congr (by omega) rfl rfl
      all_goals simp
    rw [List.length_cons, if_neg (Nat.succ_ne_zero l.length)]
    dsimp only at verdict ⊢
    rw [count, verdict]

theorem State.missAll_framed (l : List WaitingTest) (s : State) :
    s.missAll l = { s with odo := (s.missAll l).odo, notice := (s.missAll l).notice } := by
  induction l generalizing s with
  | nil => rfl
  | cons w l ih => exact ih (s.missMarker w.marker)

theorem State.missAll_alerted (l : List WaitingTest) (s : State) : s.notice.Alerted (s.missAll l).notice := by
  induction l generalizing s with
  | nil => exact ⟨[], List.forall_mem_nil _, (List.append_nil _).symm⟩
  | cons w l ih => exact (s.missMarker_alerted w.marker).trans (ih _)

/-- POSITION_DEGRADED's state after one more missed marker. -/
def Odometry.nextDegraded (o : Odometry) : Bool :=
  decide (o.localisation = .degraded ∨ o.lossFlag = true ∨ (o.localisation = .localised ∧ 1 ≤ o.missed))

theorem Odometry.isDegraded_eq (o : Odometry) :
    o.isDegraded = decide (o.localisation = .degraded ∨ o.lossFlag = true) := by
  unfold Odometry.isDegraded
  cases o.localisation <;> cases o.lossFlag <;> rfl

theorem State.missMarker_isDegraded (m : Marker) (s : State) : (s.missMarker m).odo.isDegraded = s.odo.nextDegraded := by
  rw [Odometry.isDegraded_eq, State.missMarker_odo, Odometry.nextDegraded]
  have two : 2 ≤ min (s.odo.missed + 1) 255 ↔ 1 ≤ s.odo.missed := by omega
  simp only [two]
  cases s.odo.localisation <;> cases s.odo.lossFlag <;> by_cases one : 1 ≤ s.odo.missed <;> simp [one]

/-- The second missed marker gives POSITION_DEGRADED its last state. -/
theorem Odometry.missedBy_isDegraded {o : Odometry} (one : 1 ≤ o.missed) {n : Nat} (more : n ≠ 0) (last : Option Nat) :
    (o.missedBy n last).isDegraded = o.nextDegraded := by
  rw [Odometry.isDegraded_eq, Odometry.missedBy, Odometry.nextDegraded]
  have two : 2 ≤ o.missed + n := by omega
  simp only [two, one, more, ne_eq, not_false_iff, and_true]
  cases o.localisation <;> cases o.lossFlag <;> simp

theorem AlertEntry.follow_twice (e : AlertEntry) (x : Option Bool) : (e.follow x).follow x = e.follow x := by
  cases x with
  | none => rw [AlertEntry.follow_none]
  | some b => exact e.follow_follow b

/-- Of the unit's conditions missed markers change POSITION_DEGRADED alone. -/
theorem Odometry.missedBy_shows (o : Odometry) (n : Nat) (last : Option Nat) {k : AlertKind} (h : k ≠ .positionDegraded) :
    (o.missedBy n last).shows k = o.shows k := by
  rw [Odometry.shows_eq, Odometry.shows_eq]
  cases k
  case positionDegraded => exact absurd rfl h
  all_goals rfl

section Entries

variable {s : State} (l : s.notice.alerts.length = 21) (tests : List WaitingTest)

include l

theorem State.missAll_entry_missed :
    (s.missAll tests).notice.entry .markerMissed = (s.notice.entry .markerMissed).raisedBy tests.length := by
  induction tests generalizing s with
  | nil => rfl
  | cons w rest ih =>
    have first := State.missMarker_entry (m := w.marker) l .markerMissed
    rw [Odometry.shows_eq, AlertEntry.follow_none, if_pos rfl] at first
    refine (ih (State.missMarker_length (m := w.marker) l)).trans ?_
    rw [first, AlertEntry.raisedBy_succ, List.length_cons]

theorem State.missAll_entry_other {k : AlertKind} (other : k ≠ .markerMissed) (stays : k ≠ .positionDegraded) :
    (s.missAll tests).notice.entry k =
      if tests = [] then s.notice.entry k else (s.notice.entry k).follow (s.odo.shows k) := by
  induction tests generalizing s with
  | nil => rfl
  | cons w rest ih =>
    have first := State.missMarker_entry (m := w.marker) l k
    have shows_ : (s.missMarker w.marker).odo.shows k = s.odo.shows k := by
      have odo := State.missAll_odo [w] s
      exact (congrArg (fun o : Odometry => o.shows k) odo).trans (s.odo.missedBy_shows _ _ stays)
    rw [shows_, if_neg other] at first
    refine (ih (State.missMarker_length (m := w.marker) l)).trans ?_
    rw [first, shows_, if_neg (List.cons_ne_nil w rest)]
    split_ifs
    · rfl
    · exact AlertEntry.follow_twice ..

theorem State.missAll_entry_degraded :
    (s.missAll tests).notice.entry .positionDegraded =
      if tests = [] then s.notice.entry .positionDegraded
      else ((s.notice.entry .positionDegraded).follow (some s.odo.nextDegraded)).follow
        (some (s.missAll tests).odo.isDegraded) := by
  induction tests generalizing s with
  | nil => rfl
  | cons w rest ih =>
    have first := State.missMarker_entry (m := w.marker) l .positionDegraded
    rw [Odometry.shows_eq, if_neg (by decide)] at first
    dsimp only at first
    rw [State.missMarker_isDegraded] at first
    refine (ih (State.missMarker_length (m := w.marker) l)).trans ?_
    rw [if_neg (List.cons_ne_nil w rest), first]
    by_cases last : rest = []
    · have ends : (s.missAll (w :: rest)).odo.isDegraded = s.odo.nextDegraded := by
        rw [last]
        exact s.missMarker_isDegraded w.marker
      rw [if_pos last, ends, AlertEntry.follow_follow]
      rfl
    · have one : 1 ≤ (s.missMarker w.marker).odo.missed := by
        rw [State.missMarker_odo]
        dsimp only
        omega
      have ends : (s.missAll (w :: rest)).odo.isDegraded = (s.missMarker w.marker).odo.nextDegraded := by
        refine (congrArg Odometry.isDegraded ((s.missMarker w.marker).missAll_odo rest)).trans ?_
        exact Odometry.missedBy_isDegraded one (fun h => last (List.length_eq_zero_iff.1 h)) _
      rw [if_neg last, ends]
      have tail : ((s.missMarker w.marker).missAll rest).odo.isDegraded = (s.missMarker w.marker).odo.nextDegraded := ends
      rw [tail, AlertEntry.follow_follow]
      rfl

end Entries

/-! ## Which of the waiting tests find their marker left behind (R14) -/

/-- The waiting tests whose marker the reader point has left behind, that of the last passed marker excluded. -/
def State.leftBehind (c : Capture) (s : State) : List WaitingTest :=
  c.waiting.filter fun w =>
    decide (s.odo.lastPassed ≠ some w.marker.id) && markerBeyond w.dir s.readerPoint s.odo.uncertainty w.marker

theorem State.foldl_missedTest (l : List WaitingTest) (s : State) :
    l.foldl (fun s w => s.missedTest w.dir (some w.marker)) s =
      s.missAll (l.filter fun w => markerBeyond w.dir s.readerPoint s.odo.uncertainty w.marker) := by
  induction l generalizing s with
  | nil => rfl
  | cons w l ih =>
    rw [List.foldl_cons, ih]
    cases h : markerBeyond w.dir s.readerPoint s.odo.uncertainty w.marker with
    | false =>
      have stays : s.missedTest w.dir (some w.marker) = s := if_neg (Bool.eq_false_iff.1 h)
      simp only [stays, List.filter_cons, h, Bool.false_eq_true, if_false]
    | true =>
      have misses : s.missedTest w.dir (some w.marker) = s.missMarker w.marker := if_pos h
      have place : (s.missMarker w.marker).readerPoint = s.readerPoint ∧
          (s.missMarker w.marker).odo.uncertainty = s.odo.uncertainty := by
        unfold State.readerPoint
        rw [State.missMarker_odo]
        exact ⟨rfl, rfl⟩
      simp only [misses, place, List.filter_cons, h, if_true]
      rfl

theorem State.waitingTests_eq (c : Capture) (s : State) : s.waitingTests c = s.missAll (s.leftBehind c) := by
  unfold State.waitingTests State.leftBehind
  rw [State.foldl_missedTest, List.filter_filter]
  refine congrArg (fun l => s.missAll l) (List.filter_congr fun w _ => ?_)
  rw [Bool.and_comm]
  refine congrArg (· && _) ?_
  rw [bne, decide_not, beq_eq_decide]

end Sys2Proof.Machine
end

section
/-! The match completion (01 §1.7): settles O25. -/

namespace Sys2Proof.Machine

/-! ## The accepted marker (R15) -/

/-- The record after an accepted marker, placed on the line or clamped to its end. -/
theorem Odometry.acceptMarker_eq {o : Odometry} (known : o.localisation ≠ .unlocalised) (e accuracy uMax : Nat) (δ : Int)
    (m : Marker) :
    let place := o.placeUm + δ
    let inside := 0 ≤ place ∧ place ≤ (e : Int) * 1000
    o.acceptMarker e accuracy uMax δ m =
      { o with
        position := if place < 0 then 0 else if (e : Int) * 1000 < place then e else place.toNat / 1000
        remainder := if inside then place.toNat % 1000 else 0
        uncertainty := if inside then accuracy else 65535
        credit := 0, missed := 0, lastAccepted := some m.id, lastPassed := some m.id, distance := 0, distanceRem := 0
        lossFlag := decide ¬inside
        localisation := if inside then (if accuracy < uMax then .localised else .degraded) else .unlocalised } := by
  intro place inside
  unfold Odometry.acceptMarker
  dsimp only
  by_cases h : inside
  · rw [Odometry.placeAt_inside o h.1 h.2]
    dsimp only
    have up : ¬place < 0 := by have := h.1; omega
    have down : ¬(e : Int) * 1000 < place := by have := h.2; omega
    rw [if_pos h, if_pos h, if_pos h, if_neg up, if_neg down, decide_eq_false (not_not.2 h)]
    cases loc : o.localisation
    case unlocalised => exact absurd loc known
    all_goals rfl
  · rw [Odometry.placeAt_outside o h, Odometry.clampTo_eq]
    dsimp only
    rw [if_neg h, if_neg h, if_neg h, if_neg known, if_neg known, decide_eq_true h]
    have ends : (if place < 0 then 0 else e) =
        if place < 0 then 0 else if (e : Int) * 1000 < place then e else place.toNat / 1000 := by
      by_cases below : place < 0
      · rw [if_pos below, if_pos below]
      · rw [if_neg below, if_neg below, if_pos (Int.not_le.1 fun le => h ⟨Int.not_lt.1 below, le⟩)]
    rw [← ends]

theorem Engagement.settle_drop (x : Option Nat) (e : Engagement) :
    (e.settle x).drop =
      match e with
      | .armed i p q _ => if x = some i then .armed i p q none else .idle
      | _ => .idle := by
  rcases e with _ | ⟨i, p, q, k⟩ | _
  · rfl
  · dsimp only [Engagement.settle]
    split_ifs
    · rfl
    · cases k <;> rfl
  · rfl

/-- The state once an accepted marker has corrected the record, settled the check and entered the log. -/
def State.corrected (e : Nat) (c : Capture) (m : Marker) (s : State) : State :=
  let a := s.odo.acceptMarker e s.cfg.markerAccuracy s.cfg.uMax (c.correction s.cfg.readerOffset m) m
  let b := { s with odo := a }
  { s with
    odo := { a with
      engagement := (a.engagement.settle (b.pinionSegment.map SegView.index)).drop
      span := if b.spanRuns then a.span else Span.zero
      log := logPush a.log ⟨c.edgeTime, m.id, s.odo.position, a.position, true⟩ } }

theorem State.corrected_odo {s : State} (known : s.odo.localisation ≠ .unlocalised) (few : s.odo.log.length ≤ 8) (e : Nat)
    (c : Capture) (m : Marker) :
    let place := s.odo.placeUm + c.correction s.cfg.readerOffset m
    let inside := 0 ≤ place ∧ place ≤ (e : Int) * 1000
    let position := if place < 0 then 0 else if (e : Int) * 1000 < place then e else place.toNat / 1000
    (s.corrected e c m).odo =
      { s.odo with
        position := position, remainder := if inside then place.toNat % 1000 else 0
        uncertainty := if inside then s.cfg.markerAccuracy else 65535
        credit := 0, missed := 0, lastAccepted := some m.id, lastPassed := some m.id, distance := 0, distanceRem := 0
        lossFlag := decide ¬inside
        localisation := if inside then (if s.cfg.markerAccuracy < s.cfg.uMax then .localised else .degraded)
          else .unlocalised
        engagement := (s.odo.engagement.settle ((s.corrected e c m).pinionSegment.map SegView.index)).drop
        span := if (s.corrected e c m).spanRuns then s.odo.span else Span.zero
        log := s.odo.log.drop (s.odo.log.length - 7) ++ [⟨c.edgeTime, m.id, s.odo.position, position, true⟩] } := by
  intro place inside position
  have accepted := Odometry.acceptMarker_eq known e s.cfg.markerAccuracy s.cfg.uMax (c.correction s.cfg.readerOffset m) m
  obtain ⟨a, ha⟩ : ∃ a, a = s.odo.acceptMarker e s.cfg.markerAccuracy s.cfg.uMax (c.correction s.cfg.readerOffset m) m :=
    ⟨_, rfl⟩
  rw [← ha] at accepted
  have form : (s.corrected e c m).odo =
      { a with
        engagement := (a.engagement.settle ((s.corrected e c m).pinionSegment.map SegView.index)).drop
        span := if (s.corrected e c m).spanRuns then a.span else Span.zero
        log := logPush a.log ⟨c.edgeTime, m.id, s.odo.position, a.position, true⟩ } := by
    rw [ha]
    rfl
  have pushed := logPush_eq ⟨c.edgeTime, m.id, s.odo.position, position, true⟩ few
  generalize (s.corrected e c m).pinionSegment = p at form ⊢
  generalize (s.corrected e c m).spanRuns = q at form ⊢
  rw [form, ← pushed, accepted]

/-- The state once its report is posted as well. -/
def State.reportedMarker (e : Nat) (c : Capture) (m : Marker) (s : State) : State :=
  (s.corrected e c m).publishOdometry.post (.marker m.id ((c.correction s.cfg.readerOffset m).tdiv 1000))

theorem State.acceptEdge_eq (e : Nat) (c : Capture) (m : Marker) (s : State) :
    s.acceptEdge e c m = (s.reportedMarker e c m).missAll ((s.reportedMarker e c m).leftBehind c) := by
  rw [← State.waitingTests_eq]
  unfold State.acceptEdge
  dsimp only
  rw [State.afterPlacement_eq]
  rfl

theorem State.reportedMarker_framed (e : Nat) (c : Capture) (m : Marker) (s : State) :
    s.reportedMarker e c m = { s with odo := (s.corrected e c m).odo, notice := (s.reportedMarker e c m).notice } := rfl

theorem State.rejectCapture_eq (c : Capture) (s : State) :
    s.rejectCapture c = (s.rejectEdge c.edgeTime).missAll ((s.rejectEdge c.edgeTime).leftBehind c) :=
  State.waitingTests_eq ..

theorem State.completeMatch_accepted {s : State} {k : Capture} {e : Nat} {m : Marker} (hc : s.odo.capture = some k)
    (known : s.odo.localisation ≠ .unlocalised) (line : s.lineEnd = some e) (expected : k.expected = some m)
    (matches_ : k.matchesMarker s.cfg.readerOffset m = true) :
    s.completeMatch = State.acceptEdge e k m { s with odo := { s.odo with capture := none } } := by
  unfold State.completeMatch
  rw [hc, line]
  dsimp only
  rw [expected]
  cases loc : s.odo.localisation
  case unlocalised => exact absurd loc known
  all_goals exact if_pos matches_

theorem State.completeMatch_rejected {s : State} {k : Capture} {e : Nat} (hc : s.odo.capture = some k)
    (known : s.odo.localisation ≠ .unlocalised) (line : s.lineEnd = some e)
    (no : ∀ m, k.expected = some m → k.matchesMarker s.cfg.readerOffset m = false) :
    s.completeMatch = State.rejectCapture k { s with odo := { s.odo with capture := none } } := by
  unfold State.completeMatch
  rw [hc, line]
  dsimp only
  cases expected : k.expected with
  | none =>
    cases loc : s.odo.localisation
    case unlocalised => exact absurd loc known
    all_goals rfl
  | some m =>
    cases loc : s.odo.localisation
    case unlocalised => exact absurd loc known
    all_goals exact if_neg (Bool.eq_false_iff.1 (no m expected))

theorem State.completeMatch_dropped {s : State} {k : Capture} (hc : s.odo.capture = some k)
    (lost : s.odo.localisation = .unlocalised ∨ s.lineEnd = none) :
    s.completeMatch = { s with odo := { s.odo with capture := none } } := by
  unfold State.completeMatch
  rw [hc]
  rcases lost with h | h
  · rw [h]
  · rw [h]
    cases s.odo.localisation <;> rfl

theorem Capture.matchesMarker_iff (offset : Nat) (c : Capture) (m : Marker) :
    c.matchesMarker offset m = true ↔ (c.correction offset m).natAbs ≤ (m.window + c.uncertainty) * 1000 := by
  have mirror : (c.placeUm - (offset : Int) * 1000 - (m.position : Int) * 1000).natAbs = (c.correction offset m).natAbs := by
    unfold Capture.correction
    omega
  unfold Capture.matchesMarker
  rw [decide_eq_true_iff, mirror]

/-! ## Settling O25 -/

/-- Settles O25: no capture, a lost record, a matching marker, and a rejected edge. -/
theorem matchCompletionCorrectsTheRecord : Obligations.MatchCompletionCorrectsTheRecord := by
  intro t s few
  refine ⟨fun free => ?_, fun pends lost => ?_, ?_⟩
  · refine congrArg (fun u => Host.Outcome.next (State.finish u)) ?_
    have free' : (s.advance t).odo.capture = none := free
    unfold State.completeMatch
    rw [free']
  · obtain ⟨k, hk⟩ := Option.ne_none_iff_exists'.1 pends
    exact congrArg (fun u => Host.Outcome.next (State.finish u))
      (State.completeMatch_dropped (s := s.advance t) hk lost)
  · intro k lineEnd hc known line edge correction matching log missedAt latest raised alerts
    have correction_eq (m : Marker) : k.correction s.cfg.readerOffset m = correction m := by
      unfold Capture.correction Capture.placeUm
      rw [Dir.signed_eq]
    have matching_iff (m : Marker) : matching m ↔ k.expected = some m ∧ k.matchesMarker s.cfg.readerOffset m = true := by
      rw [k.matchesMarker_iff, correction_eq]
    have raised_eq (e : AlertEntry) (n : Nat) : e.raisedBy n = raised e n := rfl
    have latest_eq (last : Option Nat) (l : List WaitingTest) : lastMissed last l = latest last l := by
      show (l.getLast?.map fun w => w.marker.id).or last = _
      cases h : l.getLast? <;> simp only [latest, h] <;> rfl
    have tests_eq (u : State) (offset : u.cfg = s.cfg) :
        u.leftBehind k = missedAt u.odo.lastPassed u.odo.position u.odo.uncertainty := by
      refine List.filter_congr fun w _ => congrArg₂ (· && ·) rfl ?_
      unfold State.readerPoint
      rw [offset]
      cases w.dir <;> rfl
    obtain ⟨start, hstart⟩ : ∃ start : State, start = { s.advance t with odo := { s.odo with capture := none } } :=
      ⟨_, rfl⟩
    refine ⟨fun m hm => ?_, fun none_ => ?_⟩
    · intro place inside position u missed
      obtain ⟨expected, near⟩ := (matching_iff m).1 hm
      have run : (s.advance t).completeMatch = start.acceptEdge lineEnd k m :=
        (State.completeMatch_accepted (s := s.advance t) hc known line expected near).trans (by rw [hstart]; rfl)
      obtain ⟨r, hr⟩ : ∃ r, r = start.reportedMarker lineEnd k m := ⟨_, rfl⟩
      have framed : r = { s.advance t with odo := r.odo, notice := r.notice } := by rw [hr, hstart]; rfl
      have record : r.odo = { s.odo with
          position := position, remainder := if inside then place.toNat % 1000 else 0, uncertainty := u, credit := 0
          missed := 0, lastAccepted := some m.id, lastPassed := some m.id, distance := 0, distanceRem := 0, capture := none
          lossFlag := decide ¬inside
          localisation := if inside then (if s.cfg.markerAccuracy < s.cfg.uMax then .localised else .degraded)
            else .unlocalised
          engagement := (s.odo.engagement.settle (r.pinionSegment.map SegView.index)).drop
          span := if r.spanRuns then s.odo.span else Span.zero
          log := log ++ [⟨k.edgeTime, m.id, s.odo.position, position, true⟩] } := by
        have corrected := State.corrected_odo (s := start) (by rw [hstart]; exact known) (by rw [hstart]; exact few)
          lineEnd k m
        rw [show (start.corrected lineEnd k m).odo = r.odo by rw [hr]; rfl,
          show (start.corrected lineEnd k m).pinionSegment = r.pinionSegment by rw [hr]; rfl,
          show (start.corrected lineEnd k m).spanRuns = r.spanRuns by rw [hr]; rfl,
          show start.cfg = s.cfg by rw [hstart]; rfl, correction_eq, hstart] at corrected
        exact corrected
      have tests : r.leftBehind k = missed := by
        refine (tests_eq r (by rw [framed]; rfl)).trans ?_
        rw [record]
      have ends := r.missAll_odo missed
      have stays : (r.missAll missed).pinionSegment = r.pinionSegment := by
        have all := r.missAll_framed missed
        refine State.pinionSegment_congr (congrArg State.line all :) (congrArg State.cfg all :)
          (congrArg Odometry.position ends :) ?_
        rw [ends]
        dsimp only [Odometry.missedBy]
        split_ifs with h
        · rw [h.1]
          exact ⟨nofun, nofun⟩
        · rfl
      have shows_ (kind : AlertKind) (h : kind ≠ .positionDegraded) : (r.missAll missed).odo.shows kind = r.odo.shows kind := by
        rw [ends]
        exact r.odo.missedBy_shows _ _ h
      have degraded : r.odo.isDegraded = decide (¬inside ∨ s.cfg.uMax ≤ s.cfg.markerAccuracy) := by
        rw [Odometry.isDegraded_eq, record]
        refine decide_eq_decide.2 ?_
        dsimp only
        by_cases h : inside
        · rw [if_pos h]
          by_cases good : s.cfg.markerAccuracy < s.cfg.uMax
          · simp [h, good]
          · simp [h, good, Nat.not_lt.1 good]
        · simp [h]
      have settled : r.odo.nextDegraded = r.odo.isDegraded := by
        have zero : r.odo.missed = 0 := congrArg Odometry.missed record
        rw [Odometry.isDegraded_eq, Odometry.nextDegraded, zero]
        simp
      have proven : r.odo.engagement.isUnproven = false := by
        rw [record]
        cases s.odo.engagement.settle (r.pinionSegment.map SegView.index) <;> rfl
      have length (l : s.notice.alerts.length = 21) : r.notice.alerts.length = 21 := by
        rw [hr, hstart]
        exact (congrArg List.length (Notice.post_alerts ..)).trans ((State.publishOdometry_length _).trans l)
      have entry (l : s.notice.alerts.length = 21) (kind : AlertKind) :
          r.notice.entry kind = (s.notice.entry kind).follow (r.odo.shows kind) := by
        have published := State.publishOdometry_entry (start.corrected lineEnd k m) (by rw [hstart]; exact l) kind
        rw [show (start.corrected lineEnd k m).odo = r.odo by rw [hr]; rfl,
          show (start.corrected lineEnd k m).notice = s.notice by rw [hstart]; rfl] at published
        rw [hr] at published ⊢
        exact (Notice.post_entry ..).trans published
      refine ⟨r.missAll missed, congrArg (fun u => Host.Outcome.next (State.finish u)) (run.trans
        ((State.acceptEdge_eq ..).trans (by rw [← hr, tests]))), ?_, ?_, fun l => ?_, fun room => ?_⟩
      · refine (r.missAll_framed missed).trans ?_
        generalize r.missAll missed = x
        rw [framed]
      · rw [ends, record]
        unfold Odometry.missedBy
        dsimp only
        congr 1
        · by_cases h : inside
          · rw [if_pos h, if_neg (not_not.2 h)]
            by_cases good : s.cfg.markerAccuracy < s.cfg.uMax
            · rw [if_pos good]
              by_cases two : missed.length < 2
              · rw [if_neg (by omega), if_pos ⟨good, two⟩]
              · rw [if_pos ⟨rfl, by omega, by omega⟩, if_neg fun h => two h.2]
            · rw [if_neg good, if_neg fun h => nomatch h.1]
              exact (if_neg fun h => good h.1).symm
          · rw [if_neg h, if_pos h, if_neg fun h => nomatch h.1]
        · split_ifs <;> omega
        · exact latest_eq ..
        · refine if_congr ?_ rfl rfl
          rw [State.spanRuns_eq_reference]
          unfold State.reference
          rw [stays]
        · rw [stays]
          refine (Engagement.settle_drop ..).trans ?_
          rcases s.odo.engagement with _ | ⟨_, _, _, _⟩ | _ <;> rfl
      · have others (kind : AlertKind) (other : kind ≠ .markerMissed) (stay : kind ≠ .positionDegraded) :
            (r.missAll missed).notice.entry kind = (s.notice.entry kind).follow ((r.missAll missed).odo.shows kind) := by
          rw [State.missAll_entry_other (length l) missed other stay, shows_ kind stay, entry l kind, AlertEntry.follow_twice,
            ite_self]
        refine ⟨?_, fun kind => ?_⟩
        · rw [others .engagementUnproven (by decide) (by decide), shows_ .engagementUnproven (by decide), Odometry.shows_eq]
          dsimp only
          rw [AlertEntry.follow_active, proven]
        · cases kind
          case markerMissed =>
            have first := entry l .markerMissed
            rw [Odometry.shows_eq, AlertEntry.follow_none] at first
            rw [State.missAll_entry_missed (length l), first]
            exact raised_eq ..
          case positionDegraded =>
            have first := entry l .positionDegraded
            have ends_shown : (r.missAll missed).odo.shows .positionDegraded =
              some (r.missAll missed).odo.isDegraded := Odometry.shows_eq ..
            rw [Odometry.shows_eq] at first
            dsimp only at first ⊢
            rw [State.missAll_entry_degraded (length l), first, settled, degraded, ends_shown]
            by_cases none_ : missed = []
            · have same : r.missAll missed = r := by rw [none_]; rfl
              rw [if_pos none_, same, degraded, AlertEntry.follow_follow]
            · rw [if_neg none_, AlertEntry.follow_follow]
          all_goals exact others _ (by decide) (by decide)
      · obtain ⟨before, alertsBefore, short, joins⟩ := State.publishOdometry_news (start.corrected lineEnd k m)
          (by rw [hstart]; exact room)
        rw [show (start.corrected lineEnd k m).notice = s.notice by rw [hstart]; rfl] at joins
        have space : (start.corrected lineEnd k m).publishOdometry.notice.queue.length < 24 := by
          rw [← Notice.bodies_length, joins, List.length_append, Notice.bodies_length]
          omega
        have posted : r.notice.bodies =
            s.notice.bodies ++ before ++ [.marker m.id ((correction m).tdiv 1000)] := by
          rw [hr, ← joins, ← correction_eq]
          refine (Notice.post_bodies space _ _).trans ?_
          rw [hstart]
          rfl
        by_cases none_ : missed = []
        · refine ⟨before, [], ?_, alertsBefore, List.forall_mem_nil _, fun _ => rfl⟩
          have same : r.missAll missed = r := by rw [none_]; rfl
          rw [same, List.append_nil]
          exact posted
        · obtain ⟨after, alertsAfter, ends_⟩ := r.missAll_alerted missed
          exact ⟨before, after, ends_.trans (by rw [posted]; rfl), alertsBefore, alertsAfter, fun h => absurd h none_⟩
    · intro missed
      have run : (s.advance t).completeMatch = start.rejectCapture k :=
        (State.completeMatch_rejected (s := s.advance t) hc known line fun m expected =>
          Bool.eq_false_iff.2 fun h => none_ m ((matching_iff m).2 ⟨expected, h⟩)).trans (by rw [hstart]; rfl)
      obtain ⟨r, hr⟩ : ∃ r, r = start.rejectEdge k.edgeTime := ⟨_, rfl⟩
      have framed : r = { s.advance t with odo := r.odo, notice := r.notice } := by rw [hr, hstart]; rfl
      have record : r.odo = { s.odo with
          capture := none, log := log ++ [⟨k.edgeTime, 0, s.odo.position, s.odo.position, false⟩] } := by
        have pushed := logPush_eq ⟨k.edgeTime, 0, s.odo.position, s.odo.position, false⟩ few
        rw [hr, hstart]
        exact congrArg (fun l : List LogEntry => ({ s.odo with capture := none, log := l } : Odometry)) pushed
      have tests : r.leftBehind k = missed := by
        refine (tests_eq r (by rw [framed]; rfl)).trans ?_
        rw [record]
      have ends := r.missAll_odo missed
      refine ⟨r.missAll missed, congrArg (fun u => Host.Outcome.next (State.finish u)) (run.trans
        ((State.rejectCapture_eq ..).trans (by rw [← hr, tests]))), ?_, ?_, fun l kind => ?_⟩
      · refine (r.missAll_framed missed).trans ?_
        generalize r.missAll missed = x
        rw [framed]
      · rw [ends, record]
        unfold Odometry.missedBy
        dsimp only
        have empty : missed.length = 0 ↔ missed = [] := List.length_eq_zero_iff
        congr 1
        · exact if_congr (and_congr_right fun _ => and_congr_left fun _ => not_congr empty) rfl rfl
        · exact if_congr empty rfl rfl
        · exact latest_eq ..
      · have length : r.notice.alerts.length = 21 := by
          rw [hr, hstart]
          exact (Notice.latch_length ..).trans l
        have entry (kind : AlertKind) : r.notice.entry kind =
            if kind = .markerUnexpected then (s.notice.entry kind).raisedBy 1 else s.notice.entry kind := by
          rw [hr, hstart]
          by_cases h : kind = .markerUnexpected
          · rw [if_pos h, h]
            exact Notice.latch_entry_self _ _ _ l
          · rw [if_neg h]
            exact Notice.latch_entry_other _ _ h
        have others (kind : AlertKind) (other : kind ≠ .markerMissed) (stay : kind ≠ .positionDegraded) :
            (r.missAll missed).notice.entry kind =
              if missed = [] then r.notice.entry kind
              else (r.notice.entry kind).follow ((r.missAll missed).odo.shows kind) := by
          rw [State.missAll_entry_other length missed other stay, ends, r.odo.missedBy_shows _ _ stay]
        cases kind
        case markerMissed =>
          rw [State.missAll_entry_missed length, entry]
          exact raised_eq ..
        case markerUnexpected =>
          rw [others _ (by decide) (by decide), entry, Odometry.shows_eq, AlertEntry.follow_none, ite_self, if_pos rfl]
          exact raised_eq ..
        case positionDegraded =>
          have ends_shown : (r.missAll missed).odo.shows .positionDegraded =
            some (r.missAll missed).odo.isDegraded := Odometry.shows_eq ..
          have next : r.odo.nextDegraded =
              decide (s.odo.localisation = .degraded ∨ s.odo.lossFlag = true ∨ 1 ≤ s.odo.missed) := by
            rw [record, Odometry.nextDegraded]
            refine decide_eq_decide.2 ?_
            dsimp only
            cases loc : s.odo.localisation
            case unlocalised => exact absurd loc known
            all_goals simp
          rw [State.missAll_entry_degraded length, entry, next, ← ends_shown]
          rfl
        all_goals exact (others _ (by decide) (by decide)).trans (by rw [entry]; rfl)

end Sys2Proof.Machine
end

section
/-! The look-ahead list as a list (05 §5.4, §5.5): its order, its staircase, its merge, and the least permitted speed. -/

namespace Sys2Proof.Machine

/-! ## The least of the terms and of the permitted speeds (R86, R97) -/

theorem leastTerm_spec (l : List CeilingTerm) (best : CeilingTerm) :
    leastTerm best l ∈ best :: l ∧ ∀ x ∈ best :: l, (leastTerm best l).value ≤ x.value := by
  induction l generalizing best with
  | nil => exact ⟨List.mem_singleton.2 rfl, fun x hx => by rw [List.mem_singleton.1 hx]; exact le_refl _⟩
  | cons y l ih =>
    obtain ⟨mem, least⟩ := ih (if y.value < best.value then y else best)
    have head := least _ List.mem_cons_self
    refine ⟨?_, fun x hx => ?_⟩
    · rcases List.mem_cons.1 mem with h | h
      · rw [leastTerm, h]
        split_ifs <;> simp
      · exact List.mem_cons_of_mem _ (List.mem_cons_of_mem _ h)
    · show (leastTerm (if y.value < best.value then y else best) l).value ≤ _
      rcases List.mem_cons.1 hx with rfl | hx
      · split_ifs at head ⊢ <;> omega
      · rcases List.mem_cons.1 hx with rfl | hx
        · split_ifs at head ⊢ <;> omega
        · exact least x (List.mem_cons_of_mem _ hx)

theorem ceilingOf_spec {l : List CeilingTerm} (h : l ≠ []) :
    ceilingOf l ∈ l ∧ ∀ x ∈ l, (ceilingOf l).value ≤ x.value := by
  cases l with
  | nil => exact absurd rfl h
  | cons x l => exact leastTerm_spec l x

/-- The first of the least permitted speeds, counted from `n`, or the bound where none is below it. -/
theorem leastPermitted_spec (l : List Target) (n bound : Nat) (giver : Option Nat) :
    (leastPermitted n (bound, giver) l = (bound, giver) ∧ ∀ x ∈ l, bound ≤ x.vPerm) ∨
    ∃ i x, l[i]? = some x ∧ leastPermitted n (bound, giver) l = (x.vPerm, some (n + i)) ∧ x.vPerm < bound ∧
      (∀ y ∈ l, x.vPerm ≤ y.vPerm) ∧ ∀ j y, j < i → l[j]? = some y → x.vPerm < y.vPerm := by
  induction l generalizing n bound giver with
  | nil => exact .inl ⟨rfl, nofun⟩
  | cons z l ih =>
    rw [leastPermitted]
    by_cases below : z.vPerm < bound
    · rw [if_pos below]
      rcases ih (n + 1) z.vPerm (some n) with ⟨h, all⟩ | ⟨i, x, at_, h, less, all, first⟩
      · exact .inr ⟨0, z, rfl, h, below, List.forall_mem_cons.2 ⟨le_refl _, all⟩, fun j _ hj => absurd hj (Nat.not_lt_zero j)⟩
      · refine .inr ⟨i + 1, x, at_, by rw [h]; simp only [Nat.add_assoc, Nat.add_comm 1], by omega,
          List.forall_mem_cons.2 ⟨less.le, all⟩, fun j y hj hy => ?_⟩
        cases j with
        | zero => exact Option.some.inj hy ▸ less
        | succ j => exact first j y (by omega) hy
    · rw [if_neg below]
      rcases ih (n + 1) bound giver with ⟨h, all⟩ | ⟨i, x, at_, h, less, all, first⟩
      · exact .inl ⟨h, List.forall_mem_cons.2 ⟨Nat.not_lt.1 below, all⟩⟩
      · refine .inr ⟨i + 1, x, at_, by rw [h]; simp only [Nat.add_assoc, Nat.add_comm 1], less,
          List.forall_mem_cons.2 ⟨by omega, all⟩, fun j y hj hy => ?_⟩
        cases j with
        | zero =>
          have same := Option.some.inj hy
          rw [← same]
          omega
        | succ j => exact first j y (by omega) hy

/-! ## The order of the candidates (R93) -/

/-- The order of R93 as far as it matters: ascending distance, then lowest speed. -/
def Candidate.upTo (a b : Candidate) : Prop :=
  a.distance < b.distance ∨ (a.distance = b.distance ∧ a.speed ≤ b.speed)

theorem Candidate.upTo_trans {a b c : Candidate} (h : a.upTo b) (g : b.upTo c) : a.upTo c := by
  unfold Candidate.upTo at *
  omega

theorem Candidate.upTo_of_before {a b : Candidate} (h : a.before b = true) : a.upTo b := by
  unfold Candidate.before at h
  unfold Candidate.upTo
  split_ifs at h with d v
  · exact .inl (decide_eq_true_iff.1 h)
  · exact .inr ⟨not_not.1 d, (decide_eq_true_iff.1 h).le⟩
  all_goals exact .inr ⟨not_not.1 d, (not_not.1 v).le⟩

theorem Candidate.upTo_of_not_before {a b : Candidate} (h : a.before b ≠ true) : b.upTo a := by
  unfold Candidate.before at h
  unfold Candidate.upTo
  split_ifs at h with d v
  · have := mt decide_eq_true_iff.2 h
    omega
  · have := mt decide_eq_true_iff.2 h
    omega
  all_goals exact .inr ⟨(not_not.1 d).symm, (not_not.1 v).symm.le⟩

theorem insertCandidate_perm (c : Candidate) (l : List Candidate) : (insertCandidate c l).Perm (c :: l) := by
  induction l with
  | nil => exact .refl _
  | cons x l ih =>
    rw [insertCandidate]
    split_ifs
    · exact .refl _
    · exact (ih.cons x).trans (.swap c x l)

theorem insertCandidate_ordered (c : Candidate) {l : List Candidate} (h : l.Pairwise Candidate.upTo) :
    (insertCandidate c l).Pairwise Candidate.upTo := by
  induction l with
  | nil => exact List.pairwise_singleton ..
  | cons x l ih =>
    obtain ⟨head, tail⟩ := List.pairwise_cons.1 h
    rw [insertCandidate]
    split_ifs with first
    · have less := Candidate.upTo_of_before first
      exact List.pairwise_cons.2
        ⟨List.forall_mem_cons.2 ⟨less, fun y hy => Candidate.upTo_trans less (head y hy)⟩, h⟩
    · refine List.pairwise_cons.2 ⟨fun y hy => ?_, ih tail⟩
      rcases List.mem_cons.1 ((insertCandidate_perm c l).mem_iff.1 hy) with rfl | hy
      · exact Candidate.upTo_of_not_before first
      · exact head y hy

theorem orderCandidates_perm (l : List Candidate) : (orderCandidates l).Perm l := by
  induction l with
  | nil => exact .refl _
  | cons x l ih => exact (insertCandidate_perm x _).trans (ih.cons x)

theorem orderCandidates_ordered (l : List Candidate) : (orderCandidates l).Pairwise Candidate.upTo := by
  induction l with
  | nil => exact .nil
  | cons x l ih => exact insertCandidate_ordered x ih

/-! ## One candidate at each distance (R93 step 1) -/

theorem onePerPlace_sublist (last : Option Nat) (l : List Candidate) : (onePerPlace last l).Sublist l := by
  induction l generalizing last with
  | nil => exact .slnil
  | cons c l ih =>
    rw [onePerPlace]
    split_ifs
    · exact (ih last).cons c
    · exact (ih _).cons_cons c

/-- Of an ordered list the candidates taken lie ever farther, and at each distance the slowest is taken. -/
theorem onePerPlace_spec {l : List Candidate} (order : l.Pairwise Candidate.upTo) (last : Option Nat)
    (low : ∀ n, last = some n → ∀ c ∈ l, n ≤ c.distance) :
    (onePerPlace last l).Pairwise (fun a b => a.distance < b.distance) ∧
      (∀ n, last = some n → ∀ c ∈ onePerPlace last l, n < c.distance) ∧
      ∀ c ∈ l, last = some c.distance ∨ ∃ k ∈ onePerPlace last l, k.distance = c.distance ∧ k.speed ≤ c.speed := by
  induction l generalizing last with
  | nil => exact ⟨.nil, fun _ _ => nofun, nofun⟩
  | cons c l ih =>
    obtain ⟨head, tail⟩ := List.pairwise_cons.1 order
    have far (x) (hx : x ∈ l) : c.distance ≤ x.distance := by
      have := head x hx
      unfold Candidate.upTo at this
      omega
    rw [onePerPlace]
    by_cases same : last = some c.distance
    · rw [if_pos same]
      obtain ⟨up, beyond, taken⟩ := ih tail last fun n hn x hx => low n hn x (List.mem_cons_of_mem _ hx)
      exact ⟨up, beyond, List.forall_mem_cons.2 ⟨.inl same, taken⟩⟩
    · rw [if_neg same]
      obtain ⟨up, beyond, taken⟩ := ih tail (some c.distance) fun n hn x hx => Option.some.inj hn ▸ far x hx
      refine ⟨List.pairwise_cons.2 ⟨beyond _ rfl, up⟩, fun n hn => ?_, List.forall_mem_cons.2 ⟨.inr ?_, fun x hx => .inr ?_⟩⟩
      · have least := low n hn c List.mem_cons_self
        have other : n ≠ c.distance := fun e => same (by rw [hn, e])
        exact List.forall_mem_cons.2 ⟨by omega, fun x hx => by have := beyond _ rfl x hx; omega⟩
      · exact ⟨c, List.mem_cons_self, rfl, le_refl _⟩
      · rcases taken x hx with h | ⟨k, hk, e, slow⟩
        · have here := Option.some.inj h
          have := head x hx
          unfold Candidate.upTo at this
          exact ⟨c, List.mem_cons_self, here, by omega⟩
        · exact ⟨k, List.mem_cons_of_mem _ hk, e, slow⟩

/-! ## The staircase (R93 step 2) -/

theorem staircase_sublist (bound : Nat) (l : List Candidate) : (staircase bound l).Sublist l := by
  induction l generalizing bound with
  | nil => exact .slnil
  | cons c l ih =>
    rw [staircase]
    split_ifs
    · exact (ih _).cons_cons c
    · exact (ih _).cons c

theorem staircase_spec (bound : Nat) {l : List Candidate} (up : l.Pairwise fun a b => a.distance < b.distance) :
    (staircase bound l).Pairwise (fun a b => b.speed < a.speed) ∧ (∀ c ∈ staircase bound l, c.speed < bound) ∧
      ∀ c ∈ l, c.speed < bound → ∃ k ∈ staircase bound l, k.distance ≤ c.distance ∧ k.speed ≤ c.speed := by
  induction l generalizing bound with
  | nil => exact ⟨.nil, nofun, nofun⟩
  | cons c l ih =>
    obtain ⟨head, tail⟩ := List.pairwise_cons.1 up
    rw [staircase]
    by_cases less : c.speed < bound
    · rw [if_pos less]
      obtain ⟨down, below, taken⟩ := ih c.speed tail
      refine ⟨List.pairwise_cons.2 ⟨below, down⟩,
        List.forall_mem_cons.2 ⟨less, fun x hx => (below x hx).trans less⟩,
        List.forall_mem_cons.2 ⟨fun _ => ⟨c, List.mem_cons_self, le_refl _, le_refl _⟩, fun x hx _ => ?_⟩⟩
      by_cases slower : x.speed < c.speed
      · obtain ⟨k, hk, near, slow⟩ := taken x hx slower
        exact ⟨k, List.mem_cons_of_mem _ hk, near, slow⟩
      · exact ⟨c, List.mem_cons_self, (head x hx).le, Nat.not_lt.1 slower⟩
    · rw [if_neg less]
      obtain ⟨down, below, taken⟩ := ih bound tail
      exact ⟨down, below, List.forall_mem_cons.2 ⟨fun h => absurd h less, taken⟩⟩

/-! ## The merge (R94) -/

theorem slowest_spec (l : List Candidate) (best : Candidate) :
    slowest best l ∈ best :: l ∧ ∀ x ∈ best :: l, (slowest best l).speed ≤ x.speed := by
  induction l generalizing best with
  | nil => exact ⟨List.mem_singleton.2 rfl, fun x hx => by rw [List.mem_singleton.1 hx]; exact le_refl _⟩
  | cons y l ih =>
    obtain ⟨mem, least⟩ := ih (if y.speed < best.speed then y else best)
    have head := least _ List.mem_cons_self
    refine ⟨?_, fun x hx => ?_⟩
    · rcases List.mem_cons.1 mem with h | h
      · rw [slowest, h]
        split_ifs <;> simp
      · exact List.mem_cons_of_mem _ (List.mem_cons_of_mem _ h)
    · show (slowest (if y.speed < best.speed then y else best) l).speed ≤ _
      rcases List.mem_cons.1 hx with rfl | hx
      · split_ifs at head ⊢ <;> omega
      · rcases List.mem_cons.1 hx with rfl | hx
        · split_ifs at head ⊢ <;> omega
        · exact least x (List.mem_cons_of_mem _ hx)

/-- A list short enough is kept as it is; else its eighth entry takes the slowest candidate from its place on. -/
theorem mergeList_cases (ordered kept : List Candidate) :
    (mergeList ordered kept = (kept, false) ∧ kept.length ≤ 8) ∨
    ∃ eighth rest m, kept = kept.take 7 ++ eighth :: rest ∧ (kept.take 7).length = 7 ∧
      m ∈ eighth :: ordered.filter (fun c => decide (eighth.distance < c.distance)) ∧
      (∀ x ∈ eighth :: ordered.filter (fun c => decide (eighth.distance < c.distance)), m.speed ≤ x.speed) ∧
      mergeList ordered kept =
        (kept.take 7 ++ [{ eighth with kind := m.kind, speed := m.speed, source := m.source }], true) := by
  have whole := List.take_append_drop 7 kept
  unfold mergeList
  split
  · rename_i eighth ninth rest long
    obtain ⟨mem, least⟩ := slowest_spec (ordered.filter fun c => decide (eighth.distance < c.distance)) eighth
    refine .inr ⟨eighth, ninth :: rest, _, by rw [← long, whole], ?_, mem, least, rfl⟩
    have := congrArg List.length long
    simp only [List.length_drop, List.length_cons, List.length_take] at this ⊢
    omega
  · rename_i short
    refine .inl ⟨rfl, ?_⟩
    by_contra h
    rcases hd : kept.drop 7 with _ | ⟨a, _ | ⟨b, l⟩⟩
    · have := congrArg List.length hd
      simp only [List.length_drop, List.length_nil] at this
      omega
    · have := congrArg List.length hd
      simp only [List.length_drop, List.length_cons, List.length_nil] at this
      omega
    · exact short a b l hd

/-- The look-ahead list of an ordered list and its staircase. -/
theorem mergeList_spec {ordered kept : List Candidate} (sub : kept.Sublist ordered)
    (up : ordered.Pairwise fun a b => a.distance < b.distance) (down : kept.Pairwise fun a b => b.speed < a.speed) :
    let l := (mergeList ordered kept).1
    let flag := (mergeList ordered kept).2
    l.length ≤ 8 ∧ (flag = true → l.length = 8) ∧ (flag = false → l = kept) ∧
      l.Pairwise (fun a b => a.distance < b.distance ∧ b.speed < a.speed) ∧
      (∀ x ∈ l, ∃ k ∈ kept, k.position = x.position ∧ k.distance = x.distance ∧ x.speed ≤ k.speed) ∧
      (∀ x ∈ l, ∃ y ∈ ordered, y.kind = x.kind ∧ y.speed = x.speed ∧ y.source = x.source ∧ x.distance ≤ y.distance) ∧
      ∀ k ∈ kept, ∃ x ∈ l, x.distance ≤ k.distance ∧ x.speed ≤ k.speed := by
  intro l flag
  have both : kept.Pairwise fun a b => a.distance < b.distance ∧ b.speed < a.speed := (up.sublist sub).and down
  rcases mergeList_cases ordered kept with ⟨h, short⟩ | ⟨eighth, rest, m, split, seven, mem, least, h⟩
  · have same : l = kept := congrArg Prod.fst h
    refine ⟨same ▸ short, fun yes => (nomatch yes.symm.trans (congrArg Prod.snd h)), fun _ => same, ?_, ?_, ?_, ?_⟩ <;> rw [same]
    · exact both
    · exact fun x hx => ⟨x, hx, rfl, rfl, le_refl _⟩
    · exact fun x hx => ⟨x, sub.subset hx, rfl, rfl, rfl, le_refl _⟩
    · exact fun x hx => ⟨x, hx, le_refl _, le_refl _⟩
  · have form : l = kept.take 7 ++ [{ eighth with kind := m.kind, speed := m.speed, source := m.source }] :=
      congrArg Prod.fst h
    have length : l.length = 8 := by rw [form, List.length_append, seven, List.length_singleton]
    have eighth_in : eighth ∈ kept := by
      rw [split]
      exact List.mem_append_right _ List.mem_cons_self
    have slow : m.speed ≤ eighth.speed := least eighth List.mem_cons_self
    have taken {x : Candidate} (hx : x ∈ kept.take 7) : x ∈ kept := List.mem_of_mem_take hx
    rw [split] at both
    obtain ⟨first, last, cross⟩ := List.pairwise_append.1 both
    refine ⟨length.le, fun _ => length, fun no => (nomatch no.symm.trans (congrArg Prod.snd h)), ?_, ?_, ?_, ?_⟩ <;> rw [form]
    · refine List.pairwise_append.2 ⟨first, List.pairwise_singleton .., fun a ha b hb => ?_⟩
      obtain ⟨near, fast⟩ := cross a ha eighth List.mem_cons_self
      rw [List.mem_singleton.1 hb]
      exact ⟨near, slow.trans_lt fast⟩
    · intro x hx
      rcases List.mem_append.1 hx with hx | hx
      · exact ⟨x, taken hx, rfl, rfl, le_refl _⟩
      · rw [List.mem_singleton.1 hx]
        exact ⟨eighth, eighth_in, rfl, rfl, slow⟩
    · intro x hx
      rcases List.mem_append.1 hx with hx | hx
      · exact ⟨x, sub.subset (taken hx), rfl, rfl, rfl, le_refl _⟩
      · rw [List.mem_singleton.1 hx]
        rcases List.mem_cons.1 mem with rfl | hm
        · exact ⟨m, sub.subset eighth_in, rfl, rfl, rfl, le_refl _⟩
        · obtain ⟨hm, far⟩ := List.mem_filter.1 hm
          exact ⟨m, hm, rfl, rfl, rfl, (decide_eq_true_iff.1 far).le⟩
    · intro k hk
      rw [split] at hk
      rcases List.mem_append.1 hk with hk | hk
      · exact ⟨k, List.mem_append_left _ hk, le_refl _, le_refl _⟩
      · refine ⟨_, List.mem_append_right _ (List.mem_singleton.2 rfl), ?_⟩
        rcases List.mem_cons.1 hk with rfl | later
        · exact ⟨le_refl _, slow⟩
        · have far := ((List.pairwise_cons.1 last).1 k later).1
          have inOrdered : k ∈ ordered := sub.subset (split ▸ List.mem_append_right _ hk)
          exact ⟨far.le, least k (List.mem_cons_of_mem _ (List.mem_filter.2 ⟨inOrdered, decide_eq_true_iff.2 far⟩))⟩

end Sys2Proof.Machine
end

section
/-! The stretches that a pass reads and their worst pulls (02 §2.6, 05 §5.1, §5.2). -/

namespace Sys2Proof.Machine

/-! ## Worst pulls (R83, R92) -/

/-- A segment of a stretch that is the first with the greatest downhill pull. -/
def WorstAt (d : Dir) (before : List SegView) (v : SegView) (after : List SegView) : Prop :=
  (∀ w ∈ before, pullDown d w.seg < pullDown d v.seg) ∧ ∀ w ∈ after, pullDown d w.seg ≤ pullDown d v.seg

theorem worstOf_of_worstAt {d : Dir} {before : List SegView} {v : SegView} {after : List SegView}
    (h : WorstAt d before v after) : worstOf d (before ++ v :: after) = some v := by
  have split {vs : List SegView} {v : SegView} (hv : worstOf d vs = some v) : v ∈ vs := by
    induction vs generalizing v with
    | nil => exact nomatch hv
    | cons x vs ih =>
      rw [worstOf] at hv
      cases hw : worstOf d vs with
      | none =>
        rw [hw] at hv
        exact Option.some.inj hv ▸ List.mem_cons_self
      | some w =>
        rw [hw] at hv
        dsimp only at hv
        split_ifs at hv
        · exact Option.some.inj hv ▸ List.mem_cons_of_mem _ (ih hw)
        · exact Option.some.inj hv ▸ List.mem_cons_self
  obtain ⟨less, most⟩ := h
  induction before with
  | nil =>
    rw [List.nil_append, worstOf]
    cases hw : worstOf d after with
    | none => rfl
    | some w => exact if_neg (Int.not_lt.2 (most w (split hw)))
  | cons b before ih =>
    rw [List.cons_append, worstOf, ih fun w hw => less w (List.mem_cons_of_mem _ hw)]
    exact if_pos (less b List.mem_cons_self)

theorem exists_worstAt (d : Dir) {vs : List SegView} (h : vs ≠ []) :
    ∃ before v after, vs = before ++ v :: after ∧ WorstAt d before v after := by
  induction vs with
  | nil => exact absurd rfl h
  | cons x vs ih =>
    by_cases empty : vs = []
    · exact ⟨[], x, [], by rw [empty]; rfl, List.forall_mem_nil _, List.forall_mem_nil _⟩
    · obtain ⟨before, v, after, rfl, less, most⟩ := ih empty
      by_cases first : pullDown d x.seg < pullDown d v.seg
      · exact ⟨x :: before, v, after, rfl, List.forall_mem_cons.2 ⟨first, less⟩, most⟩
      · refine ⟨[], x, before ++ v :: after, rfl, List.forall_mem_nil _, fun w hw => ?_⟩
        rcases List.mem_append.1 hw with hw | hw
        · have := less w hw
          omega
        · rcases List.mem_cons.1 hw with rfl | hw
          · omega
          · have := most w hw
            omega

theorem worstOf_eq_some_iff (d : Dir) (vs : List SegView) (v : SegView) :
    worstOf d vs = some v ↔ ∃ before after, vs = before ++ v :: after ∧ WorstAt d before v after := by
  constructor
  · intro h
    have some_ : vs ≠ [] := fun e => by rw [e] at h; exact nomatch h
    obtain ⟨before, w, after, split, worst⟩ := exists_worstAt d some_
    have same : w = v := Option.some.inj ((worstOf_of_worstAt worst).symm.trans (split ▸ h))
    exact ⟨before, after, same ▸ split, same ▸ worst⟩
  · rintro ⟨before, after, rfl, worst⟩
    exact worstOf_of_worstAt worst

/-- What is said of a stretch's pull and its UNSURVEYED flag. -/
theorem worst_spec (d : Dir) (vs : List SegView) :
    (vs = [] → worstPull d vs = 0 ∧ worstUnsurveyed d vs = false) ∧
      ∀ before v after, vs = before ++ v :: after → WorstAt d before v after →
        worstPull d vs = pullDown d v.seg ∧ worstUnsurveyed d vs = v.seg.pull.isNone := by
  refine ⟨fun h => by rw [h]; exact ⟨rfl, rfl⟩, fun before v after h worst => ?_⟩
  have at_ := worstOf_of_worstAt worst
  rw [h, worstPull, worstUnsurveyed, at_]
  exact ⟨rfl, rfl⟩

theorem mem_unbrakeableAt (c : ConfigRecord) (d : Dir) (vs : List SegView) (i : Nat) :
    i ∈ unbrakeableAt c d vs ↔
      ∃ before v after, vs = before ++ v :: after ∧ WorstAt d before v after ∧ v.index = i ∧
        netService c (pullDown d v.seg) < c.aFloor := by
  have verdict (v : SegView) : i ∈ (if unbrakeable c (netService c (pullDown d v.seg)) then [v.index] else []) ↔
      v.index = i ∧ netService c (pullDown d v.seg) < c.aFloor := by
    unfold unbrakeable
    simp only [decide_eq_true_eq]
    split_ifs with h <;> simp [h, eq_comm]
  unfold unbrakeableAt
  cases hw : worstOf d vs with
  | none =>
    refine iff_of_false List.not_mem_nil ?_
    rintro ⟨before, v, after, h, worst, -⟩
    exact nomatch hw.symm.trans ((worstOf_eq_some_iff ..).2 ⟨before, after, h, worst⟩)
  | some v =>
    refine (verdict v).trans ⟨fun h => ?_, ?_⟩
    · obtain ⟨before, after, split, worst⟩ := (worstOf_eq_some_iff ..).1 hw
      exact ⟨before, v, after, split, worst, h⟩
    · rintro ⟨before, w, after, split, worst, h⟩
      have same : w = v := Option.some.inj (((worstOf_eq_some_iff ..).2 ⟨before, after, split, worst⟩).symm.trans hw)
      exact same ▸ h

/-! ## Stretches (R32, R33) -/

/-- The point lookup gives the segment of the greatest index among those that start at or below the point. -/
theorem State.pointLookup_eq_some_iff (s : State) (p : Nat) (v : SegView) :
    pointLookup p s.views = some v ↔ v ∈ s.views ∧ v.start ≤ p ∧ ∀ w ∈ s.views, w.start ≤ p → w.index ≤ v.index := by
  rw [pointLookup, List.getLast?_filter, find?_reverse_ordered s.views_ordered]
  simp only [decide_eq_true_eq]

theorem State.mem_stretch {s : State} {lineEnd : Nat} (line : s.lineEnd = some lineEnd) (d : Dir) (a b : Int) (v : SegView) :
    v ∈ s.stretch d a b ↔ v ∈ s.views ∧
      if clampPoint lineEnd a = clampPoint lineEnd b then
        v.start ≤ clampPoint lineEnd a ∧ ∀ w ∈ s.views, w.start ≤ clampPoint lineEnd a → w.index ≤ v.index
      else v.start ≤ clampPoint lineEnd b ∧ (clampPoint lineEnd a < v.stop ∨ v.last = true) := by
  have uphill : v ∈ s.stretch d a b ↔ v ∈ stretchLookup (clampPoint lineEnd a) (clampPoint lineEnd b) s.views := by
    unfold State.stretch
    rw [line]
    cases d
    · exact Iff.rfl
    · exact List.mem_reverse
  rw [uphill]
  unfold stretchLookup
  split_ifs
  · rw [Option.mem_toList, State.pointLookup_eq_some_iff]
  · rw [List.mem_filter]
    unfold SegView.overlaps
    simp only [Bool.and_eq_true, Bool.or_eq_true, decide_eq_true_eq]

theorem State.stretch_subset (s : State) (d : Dir) (a b : Int) : ∀ v ∈ s.stretch d a b, v ∈ s.views := by
  intro v hv
  cases line : s.lineEnd with
  | none =>
    unfold State.stretch at hv
    rw [line] at hv
    exact nomatch hv
  | some e => exact ((State.mem_stretch line d a b v).1 hv).1

theorem State.stretch_ordered (s : State) (d : Dir) (a b : Int) :
    (s.stretch d a b).Pairwise fun v w => match d with
      | .up => v.index < w.index
      | .down => w.index < v.index := by
  have uphill (a b : Nat) : (stretchLookup a b s.views).Pairwise fun v w => v.index < w.index := by
    unfold stretchLookup
    split_ifs
    · cases pointLookup a s.views with
      | none => exact .nil
      | some v => exact List.pairwise_singleton ..
    · exact s.views_ordered.filter _
  unfold State.stretch
  cases s.lineEnd with
  | none => exact .nil
  | some e =>
    cases d
    · exact uphill ..
    · exact List.pairwise_reverse.2 (uphill ..)

end Sys2Proof.Machine
end

section
/-! The ceiling, the scan, its candidates and the faults of a pass (05 §5.2 to §5.8). -/

namespace Sys2Proof.Machine

/-! ## Effective limits (R85) -/

theorem speedRoot_eq (q : Nat) : speedRoot q = min 15000 (Nat.sqrt q) := by
  by_cases h : 225000000 ≤ q
  · rw [speedRoot_of_ge h, Nat.min_eq_left (Nat.le_sqrt.2 h)]
  · have small : q < 225000000 := Nat.not_le.1 h
    have root : isqrt q = Nat.sqrt q := Nat.eq_sqrt.2 (isqrt_spec (by omega))
    rw [speedRoot_of_lt small, root, Nat.min_eq_right (Nat.le_of_lt (Nat.sqrt_lt.2 small))]

theorem ownLimit_eq (c : ConfigRecord) (d : Dir) (g : Segment) :
    ownLimit c d g =
      min (segmentLimit d g) (if netEmergency c (pullDown d g) < c.aFloor then 0
        else min 15000 (Nat.sqrt (2 * (netEmergency c (pullDown d g)).toNat * c.dG))) := by
  unfold ownLimit gradeSpeed unbrakeable
  simp only [decide_eq_true_eq, speedRoot_eq]

theorem effectiveLimit_le (c : ConfigRecord) (d : Dir) (cap : Option Nat) (g : Segment) :
    effectiveLimit c d cap g ≤ ownLimit c d g := by
  unfold effectiveLimit
  split
  · exact Nat.min_le_left ..
  · exact le_refl _

/-! ## The terms of the ceiling (R86) -/

theorem insertByTo_perm (r : Restriction) (l : List Restriction) : (insertByTo r l).Perm (r :: l) := by
  induction l with
  | nil => exact .refl _
  | cons x l ih =>
    rw [insertByTo]
    split_ifs
    · exact .refl _
    · exact (ih.cons x).trans (.swap r x l)

theorem mem_restrictionsInOrder (d : Dir) (l : List Restriction) (r : Restriction) :
    r ∈ restrictionsInOrder d l ↔ r ∈ l := by
  have sorted (acc : List Restriction) : (l.foldl (fun acc r => insertByTo r acc) acc).Perm (l ++ acc) := by
    induction l generalizing acc with
    | nil => exact .refl _
    | cons x l ih => exact (ih _).trans (((insertByTo_perm x acc).append_left l).trans List.perm_middle)
  cases d
  · exact Iff.rfl
  · exact (sorted []).mem_iff.trans (by rw [List.append_nil])

/-- The terms that apply, each with its condition. -/
theorem State.mem_ceilingTerms (s : State) (d : Dir) (e : Nat) (span : List SegView) (cap : Option Nat) (x : CeilingTerm) :
    x ∈ s.ceilingTerms d e span cap ↔
      (∃ v ∈ span, x = ⟨ownLimit s.cfg d v.seg, .segment, some v.index⟩) ∨
      (∃ v ∈ span, effectiveLimit s.cfg d cap v.seg < ownLimit s.cfg d v.seg ∧
        x = ⟨effectiveLimit s.cfg d cap v.seg, .engagementCap, some v.index⟩) ∨
      (∃ r ∈ s.route.restrictions, r.fromPos ≤ s.spanTo e ∧ s.spanFrom e ≤ r.toPos ∧
        x = ⟨r.limit, .restriction, some r.id⟩) ∨
      (∃ k, s.route.cap = some k ∧ x = ⟨k, .overflowCap, none⟩) ∨
      x = ⟨s.cfg.vCar, .carMaximum, none⟩ ∨
      (s.sup.mode = .shunt ∧ x = ⟨s.cfg.vShunt, .shunt, none⟩) ∨
      (s.sup.mode = .line ∧ s.radio.state = .lost ∧ x = ⟨s.cfg.vRl, .radioLost, none⟩) ∨
      (s.odo.localisation = .degraded ∧ x = ⟨s.cfg.vRl, .positionDegraded, none⟩) ∨
      (s.odo.localisation = .unlocalised ∧ x = ⟨s.cfg.vShunt, .unlocalised, none⟩) := by
  have capped : x ∈ (match s.route.cap with
      | some k => [⟨k, .overflowCap, none⟩]
      | none => [] : List CeilingTerm) ↔ ∃ k, s.route.cap = some k ∧ x = ⟨k, .overflowCap, none⟩ := by
    cases s.route.cap <;> simp
  have shunt : x ∈ (if s.sup.mode = .shunt then [⟨s.cfg.vShunt, .shunt, none⟩] else [] : List CeilingTerm) ↔
      s.sup.mode = .shunt ∧ x = ⟨s.cfg.vShunt, .shunt, none⟩ := by
    split_ifs with h <;> simp [h]
  have lost : x ∈ (if s.sup.mode = .line ∧ s.radio.state = .lost then [⟨s.cfg.vRl, .radioLost, none⟩] else [] :
      List CeilingTerm) ↔ s.sup.mode = .line ∧ s.radio.state = .lost ∧ x = ⟨s.cfg.vRl, .radioLost, none⟩ := by
    split_ifs with h
    · simp [h]
    · exact iff_of_false List.not_mem_nil fun k => h ⟨k.1, k.2.1⟩
  have placed : x ∈ (match s.odo.localisation with
      | .degraded => [⟨s.cfg.vRl, .positionDegraded, none⟩]
      | .unlocalised => [⟨s.cfg.vShunt, .unlocalised, none⟩]
      | .localised => [] : List CeilingTerm) ↔
      (s.odo.localisation = .degraded ∧ x = ⟨s.cfg.vRl, .positionDegraded, none⟩) ∨
      (s.odo.localisation = .unlocalised ∧ x = ⟨s.cfg.vShunt, .unlocalised, none⟩) := by
    cases s.odo.localisation <;> simp
  unfold State.ceilingTerms
  simp only [List.mem_append, List.mem_map, List.mem_filter, mem_restrictionsInOrder, List.mem_singleton,
    Bool.and_eq_true, decide_eq_true_eq, or_assoc, and_assoc]
  refine or_congr (by simp only [eq_comm]) (or_congr (by simp only [eq_comm]) (or_congr (by simp only [eq_comm])
    (or_congr capped (or_congr Iff.rfl (or_congr shunt (or_congr lost placed))))))

/-! ## The scan (R89) -/

theorem nearestEnd_fst (l : List (Nat × ScanEnd)) (best : Nat × ScanEnd) :
    (nearestEnd best l).1 = l.foldl (fun n x => min n x.1) best.1 := by
  induction l generalizing best with
  | nil => rfl
  | cons x l ih =>
    rw [nearestEnd, ih, List.foldl_cons]
    refine congrArg (fun n => l.foldl (fun n x => min n x.1) n) ?_
    split_ifs <;> omega

/-- The distance to the end of the line (R89). -/
def lineReach (d : Dir) (e front : Nat) : Nat := if d = .up then e - front else front

/-- The distance to the end of the authority held in the direction of travel, 0 without one (R89). -/
def State.authorityReach (s : State) (d : Dir) (front : Nat) : Nat :=
  (s.authorityAhead d).elim 0 fun a => distanceTo d front a.endPos

theorem State.scanEnds_eq (s : State) (d : Dir) (e front : Nat) :
    s.scanEnds d e front =
      (if s.sup.mode = .line then
        (s.authorityAhead d).elim [(0, .frontEstimate)] fun a =>
          (if 0 ≤ ahead d front a.endPos then [(distanceTo d front a.endPos, .authorityEnd)] else []) ++
          (if ahead d front a.endPos ≤ 0 then [(0, .frontEstimate)] else [])
      else []) ++ [(lineReach d e front, .lineEnd), (s.cfg.horizon, .horizon)] := by
  unfold State.scanEnds
  cases s.authorityAhead d <;> cases d <;> rfl

theorem State.scanEnd_fst (s : State) (d : Dir) (e front : Nat) :
    (s.scanEnd d e front).1 =
      min (min (lineReach d e front) s.cfg.horizon)
        (if s.sup.mode = .line then s.authorityReach d front else lineReach d e front) := by
  unfold State.scanEnd
  rw [State.scanEnds_eq]
  by_cases mode : s.sup.mode = .line
  · rw [if_pos mode, if_pos mode]
    unfold State.authorityReach
    cases s.authorityAhead d with
    | none =>
      dsimp only [List.cons_append, List.nil_append, Option.elim]
      rw [nearestEnd_fst]
      simp only [List.foldl_cons, List.foldl_nil]
      omega
    | some a =>
      have near : distanceTo d front a.endPos = (ahead d front a.endPos).toNat := rfl
      dsimp only [Option.elim]
      rw [near]
      by_cases before : 0 ≤ ahead d front a.endPos <;> by_cases past : ahead d front a.endPos ≤ 0
      all_goals
        simp only [before, past, if_true, if_false, List.cons_append, List.nil_append, nearestEnd_fst, List.foldl_cons,
          List.foldl_nil]
        omega
  · rw [if_neg mode, if_neg mode]
    dsimp only [List.nil_append]
    rw [nearestEnd_fst]
    simp only [List.foldl_cons, List.foldl_nil]
    omega

/-! ## The candidates (R90, R91) -/

/-- What a candidate of the scan is: its distance within the scan, and its place, speed and source by its kind. -/
def State.Scanned (s : State) (d : Dir) (e front reach : Nat) (cap : Option Nat) (entered : List SegView)
    (c : Candidate) : Prop :=
  c.distance = distanceTo d front c.position ∧ c.distance ≤ reach ∧
  ((c.kind = .segment ∧ ∃ v ∈ entered, c.source = some v.index ∧ c.position = v.entry d ∧
      c.speed = effectiveLimit s.cfg d cap v.seg) ∨
    (c.kind = .restriction ∧ ∃ y ∈ s.route.restrictions, 0 < ahead d front (y.edge d) ∧ c.source = some y.id ∧
      c.position = y.edge d ∧ c.speed = y.limit) ∨
    (c.kind = .authorityEnd ∧ s.sup.mode = .line ∧
      ((∃ a, s.authorityAhead d = some a ∧ c.source = some a.seq.toNat ∧ c.speed = a.release.getD 0 ∧
          c.distance = distanceTo d front a.endPos) ∨
        (s.authorityAhead d = none ∧ c.source = none ∧ c.speed = 0 ∧ c.distance = 0))) ∨
    (c.kind = .lineEnd ∧ s.sup.mode = .shunt ∧ c.source = none ∧ c.speed = 0 ∧ c.position = if d = .up then e else 0))

theorem distanceTo_positionAt {d : Dir} {front n : Nat} (h : d = .down → n ≤ front) :
    distanceTo d front (positionAt d front n) = n := by
  cases d
  · simp [distanceTo, ahead, positionAt]
  · have := h rfl
    simp only [distanceTo, ahead, positionAt]
    omega

theorem distanceTo_le_front (d : Dir) (front p : Nat) (h : d = .down) : distanceTo d front p ≤ front := by
  subst h
  simp only [distanceTo, ahead]
  omega

theorem distanceTo_front (d : Dir) (front : Nat) : distanceTo d front front = 0 := by
  cases d <;> simp [distanceTo, ahead]

theorem State.scanned_of_mem {s : State} {d : Dir} {e front reach ceiling : Nat} {cap : Option Nat}
    {entered : List SegView} (within : ∀ v ∈ entered, ahead d front (v.entry d) ≤ reach) {c : Candidate}
    (h : c ∈ s.candidates d e front reach ceiling cap entered) : s.Scanned d e front reach cap entered c := by
  unfold State.candidates at h
  rcases List.mem_append.1 h with h | h
  · rcases List.mem_append.1 h with h | h
    · obtain ⟨v, hv, rfl⟩ := List.mem_map.1 h
      have inside := (List.mem_filter.1 hv).1
      refine ⟨rfl, ?_, .inl ⟨rfl, v, inside, rfl, rfl, rfl⟩⟩
      have := within v inside
      show (ahead d front (v.entry d)).toNat ≤ reach
      omega
    · obtain ⟨y, hy, rfl⟩ := List.mem_map.1 h
      obtain ⟨hy, cond⟩ := List.mem_filter.1 hy
      simp only [Bool.and_eq_true, decide_eq_true_eq] at cond
      refine ⟨rfl, ?_, .inr (.inl ⟨rfl, y, hy, cond.1.2, rfl, rfl, rfl⟩)⟩
      have := cond.2
      show (ahead d front (y.edge d)).toNat ≤ reach
      omega
  · cases mode : s.sup.mode
    case line =>
      rw [mode] at h
      dsimp only at h
      cases held : s.authorityAhead d with
      | none =>
        rw [held] at h
        obtain rfl := List.mem_singleton.1 h
        exact ⟨(distanceTo_front d front).symm, Nat.zero_le _, .inr (.inr (.inl ⟨rfl, mode, .inr ⟨held, rfl, rfl, rfl⟩⟩))⟩
      | some a =>
        rw [held] at h
        dsimp only at h
        split_ifs at h with near
        · obtain rfl := List.mem_singleton.1 h
          refine ⟨(distanceTo_positionAt (distanceTo_le_front d front _)).symm, ?_,
            .inr (.inr (.inl ⟨rfl, mode, .inl ⟨a, held, rfl, rfl, rfl⟩⟩))⟩
          show (ahead d front a.endPos).toNat ≤ reach
          omega
        · exact nomatch h
    case shunt =>
      rw [mode] at h
      dsimp only at h
      split_ifs at h with near
      · obtain rfl := List.mem_singleton.1 h
        exact ⟨rfl, near, .inr (.inr (.inr ⟨rfl, mode, rfl, rfl, by cases d <;> rfl⟩))⟩
      · exact nomatch h
    all_goals
      rw [mode] at h
      exact nomatch h

section Complete

variable {s : State} {d : Dir} {e front reach ceiling : Nat} {cap : Option Nat} {entered : List SegView}

theorem State.candidate_of_entered {v : SegView} (h : v ∈ entered) (slow : effectiveLimit s.cfg d cap v.seg < ceiling) :
    ∃ c ∈ s.candidates d e front reach ceiling cap entered,
      c.distance = distanceTo d front (v.entry d) ∧ c.speed = effectiveLimit s.cfg d cap v.seg :=
  ⟨_, List.mem_append_left _ (List.mem_append_left _ (List.mem_map.2
    ⟨v, List.mem_filter.2 ⟨h, decide_eq_true_iff.2 slow⟩, rfl⟩)), rfl, rfl⟩

theorem State.candidate_of_restriction {y : Restriction} (h : y ∈ s.route.restrictions) (slow : y.limit < ceiling)
    (ahead_ : 0 < ahead d front (y.edge d)) (near : ahead d front (y.edge d) ≤ reach) :
    ∃ c ∈ s.candidates d e front reach ceiling cap entered,
      c.distance = distanceTo d front (y.edge d) ∧ c.speed = y.limit :=
  ⟨_, List.mem_append_left _ (List.mem_append_right _ (List.mem_map.2
    ⟨y, List.mem_filter.2 ⟨h, by simp only [slow, ahead_, near, decide_true, Bool.and_self]⟩, rfl⟩)), rfl, rfl⟩

theorem State.candidate_of_authority {a : Authority} (mode : s.sup.mode = .line) (held : s.authorityAhead d = some a)
    (near : ahead d front a.endPos ≤ reach) :
    ∃ c ∈ s.candidates d e front reach ceiling cap entered,
      c.distance = distanceTo d front a.endPos ∧ c.speed = a.release.getD 0 := by
  refine ⟨⟨.authorityEnd, positionAt d front (distanceTo d front a.endPos), distanceTo d front a.endPos, a.release.getD 0,
    some a.seq.toNat⟩, List.mem_append_right _ ?_, rfl, rfl⟩
  rw [mode]
  dsimp only
  rw [held]
  dsimp only
  rw [if_pos near]
  exact List.mem_singleton.2 rfl

theorem State.candidate_of_no_authority (mode : s.sup.mode = .line) (held : s.authorityAhead d = none) :
    ∃ c ∈ s.candidates d e front reach ceiling cap entered, c.distance = 0 ∧ c.speed = 0 := by
  refine ⟨⟨.authorityEnd, front, 0, 0, none⟩, List.mem_append_right _ ?_, rfl, rfl⟩
  rw [mode]
  dsimp only
  rw [held]
  exact List.mem_singleton.2 rfl

theorem State.candidate_of_lineEnd (mode : s.sup.mode = .shunt)
    (near : distanceTo d front (if d = .up then e else 0) ≤ reach) :
    ∃ c ∈ s.candidates d e front reach ceiling cap entered,
      c.distance = distanceTo d front (if d = .up then e else 0) ∧ c.speed = 0 := by
  refine ⟨⟨.lineEnd, if d = .up then e else 0, distanceTo d front (if d = .up then e else 0), 0, none⟩,
    List.mem_append_right _ ?_, rfl, rfl⟩
  rw [mode]
  cases d
  · exact (if_pos near).symm ▸ List.mem_singleton.2 rfl
  · exact (if_pos near).symm ▸ List.mem_singleton.2 rfl

end Complete

/-! ## The faults (R98) -/

theorem firstMet_spec (vs : List SegView) (seen : List Nat) :
    (∀ v ∈ firstMet seen vs, v ∈ vs ∧ v.index ∉ seen) ∧
      (∀ v ∈ vs, v.index ∈ seen ∨ ∃ w ∈ firstMet seen vs, w.index = v.index) ∧
      (firstMet seen vs).Pairwise fun v w => v.index ≠ w.index := by
  induction vs generalizing seen with
  | nil => exact ⟨nofun, nofun, .nil⟩
  | cons x vs ih =>
    rw [firstMet]
    simp only [List.contains_iff_mem]
    by_cases known : x.index ∈ seen
    · rw [if_pos known]
      obtain ⟨sound, complete, once⟩ := ih seen
      exact ⟨fun v hv => ⟨List.mem_cons_of_mem _ (sound v hv).1, (sound v hv).2⟩,
        List.forall_mem_cons.2 ⟨.inl known, complete⟩, once⟩
    · rw [if_neg known]
      obtain ⟨sound, complete, once⟩ := ih (x.index :: seen)
      refine ⟨List.forall_mem_cons.2 ⟨⟨List.mem_cons_self, known⟩, fun v hv => ?_⟩,
        List.forall_mem_cons.2 ⟨.inr ⟨x, List.mem_cons_self, rfl⟩, fun v hv => ?_⟩,
        List.pairwise_cons.2 ⟨fun v hv e => ?_, once⟩⟩
      · obtain ⟨hv, new⟩ := sound v hv
        exact ⟨List.mem_cons_of_mem _ hv, fun h => new (List.mem_cons_of_mem _ h)⟩
      · rcases complete v hv with h | ⟨w, hw, e⟩
        · rcases List.mem_cons.1 h with h | h
          · exact .inr ⟨x, List.mem_cons_self, h.symm⟩
          · exact .inl h
        · exact .inr ⟨w, List.mem_cons_of_mem _ hw, e⟩
      · exact (sound v hv).2 (e ▸ List.mem_cons_self)

theorem mem_segmentFaults (ub : List Nat) (v : SegView) (f : FaultKind × Option Nat) :
    f ∈ segmentFaults ub v ↔
      (f = (.unsurveyed, some v.index) ∧ v.seg.pull = none) ∨ (f = (.unbrakeable, some v.index) ∧ v.index ∈ ub) := by
  unfold segmentFaults
  rw [List.mem_append]
  refine or_congr ?_ ?_
  · cases v.seg.pull <;> simp
  · simp only [List.contains_iff_mem]
    split_ifs with h <;> simp [h]

theorem segmentFaults_nodup (ub : List Nat) (v : SegView) : (segmentFaults ub v).Nodup := by
  unfold segmentFaults
  split_ifs <;> simp

theorem passFaults_nodup (c : ConfigRecord) (d : Dir) (span entered : List SegView) (stretches : List (List SegView)) :
    (passFaults c d span entered stretches).Nodup := by
  unfold passFaults
  refine List.nodup_flatMap.2 ⟨fun v _ => segmentFaults_nodup _ v, (firstMet_spec _ []).2.2.imp fun {v w} other f hv hw => ?_⟩
  rcases (mem_segmentFaults ..).1 hv with ⟨rfl, -⟩ | ⟨rfl, -⟩ <;>
    rcases (mem_segmentFaults ..).1 hw with ⟨e, -⟩ | ⟨e, -⟩ <;> simp_all

/-- A fault of a segment that the pass met. -/
theorem mem_passFaults {c : ConfigRecord} {d : Dir} {span entered : List SegView} {stretches : List (List SegView)}
    {views : List SegView} (order : views.Pairwise fun v w => v.index < w.index)
    (known : ∀ v ∈ span ++ entered ++ stretches.flatten, v ∈ views) (f : FaultKind × Option Nat) :
    f ∈ passFaults c d span entered stretches ↔
      ∃ v ∈ span ++ entered ++ stretches.flatten,
        (f = (.unsurveyed, some v.index) ∧ v.seg.pull = none) ∨
        (f = (.unbrakeable, some v.index) ∧
          ((∃ w ∈ span ++ entered, netEmergency c (pullDown d w.seg) < c.aFloor ∧ w.index = v.index) ∨
            ∃ vs ∈ span :: stretches, v.index ∈ unbrakeableAt c d vs)) := by
  have met (v : SegView) : v ∈ firstMet [] (span ++ entered ++ stretches.flatten) ↔
      v ∈ span ++ entered ++ stretches.flatten := by
    obtain ⟨sound, complete, -⟩ := firstMet_spec (span ++ entered ++ stretches.flatten) []
    refine ⟨fun h => (sound v h).1, fun h => ?_⟩
    rcases complete v h with h' | ⟨w, hw, e⟩
    · exact nomatch h'
    · exact index_injective order (known w (sound w hw).1) (known v h) e ▸ hw
  unfold passFaults
  dsimp only
  rw [List.mem_flatMap]
  refine exists_congr fun v => and_congr (met v) ((mem_segmentFaults ..).trans (or_congr Iff.rfl (and_congr_right fun _ => ?_)))
  unfold unbrakeable
  simp only [List.mem_append, List.mem_map, List.mem_filter, List.mem_flatMap, decide_eq_true_eq, and_assoc]

end Sys2Proof.Machine
end

section
/-! The results of a pass (05 §5.1 to §5.8): settles O36. -/

namespace Sys2Proof.Machine

/-- The look-ahead list that a pass takes from its candidates. -/
theorem lookAhead_spec (cs : List Candidate) (ceiling : Nat) :
    let ordered := onePerPlace none (orderCandidates cs)
    let l := mergeList ordered (staircase ceiling ordered)
    l.1.length ≤ 8 ∧ (l.2 = true → l.1.length = 8) ∧ (l.2 = false → ∀ x ∈ l.1, x ∈ cs) ∧
      l.1.Pairwise (fun a b => a.distance < b.distance ∧ b.speed < a.speed) ∧ (∀ x ∈ l.1, x.speed < ceiling) ∧
      (∀ x ∈ l.1, ∃ y ∈ cs, y.position = x.position ∧ y.distance = x.distance) ∧
      (∀ x ∈ l.1, ∃ y ∈ cs, y.kind = x.kind ∧ y.speed = x.speed ∧ y.source = x.source ∧ x.distance ≤ y.distance) ∧
      ∀ c ∈ cs, c.speed < ceiling → ∃ x ∈ l.1, x.distance ≤ c.distance ∧ x.speed ≤ c.speed := by
  intro ordered l
  have order := orderCandidates_ordered cs
  obtain ⟨up, -, taken⟩ := onePerPlace_spec order none fun _ => nofun
  have inOrdered {x : Candidate} (h : x ∈ ordered) : x ∈ cs :=
    (orderCandidates_perm cs).mem_iff.1 ((onePerPlace_sublist none _).subset h)
  have sub := staircase_sublist ceiling ordered
  obtain ⟨down, below, kept⟩ := staircase_spec ceiling up
  obtain ⟨short, full, same, ranks, places, sources, covers⟩ := mergeList_spec sub up down
  refine ⟨short, full, fun h x hx => ?_, ranks, fun x hx => ?_, fun x hx => ?_, fun x hx => ?_, fun c hc slow => ?_⟩
  · rw [show l.1 = _ from same h] at hx
    exact inOrdered (sub.subset hx)
  · obtain ⟨k, hk, -, -, slow⟩ := places x hx
    exact slow.trans_lt (below k hk)
  · obtain ⟨k, hk, position, distance, -⟩ := places x hx
    exact ⟨k, inOrdered (sub.subset hk), position, distance⟩
  · obtain ⟨y, hy, h⟩ := sources x hx
    exact ⟨y, inOrdered hy, h⟩
  · rcases taken c ((orderCandidates_perm cs).mem_iff.2 hc) with h | ⟨y, hy, at_, slower⟩
    · exact nomatch h
    · obtain ⟨k, hk, near, slowest⟩ := kept y hy (by omega)
      obtain ⟨x, hx, nearer, slowest'⟩ := covers k hk
      exact ⟨x, hx, by omega, by omega⟩

theorem State.ceiling_spec (s : State) (d : Dir) (e : Nat) (span : List SegView) (cap : Option Nat) :
    ceilingOf (s.ceilingTerms d e span cap) ∈ s.ceilingTerms d e span cap ∧
      ∀ x ∈ s.ceilingTerms d e span cap, (ceilingOf (s.ceilingTerms d e span cap)).value ≤ x.value :=
  ceilingOf_spec (List.ne_nil_of_mem ((s.mem_ceilingTerms ..).2 (.inr (.inr (.inr (.inr (.inl rfl)))))))

theorem State.mem_enteredSegments (s : State) (d : Dir) (front reach : Nat) (v : SegView) :
    v ∈ s.enteredSegments d front reach ↔
      v ∈ s.views ∧ ahead d front (v.entry d) ≤ reach ∧ (d = .up → 0 < ahead d front (v.entry d)) ∧
        (d = .down → 0 ≤ ahead d front (v.entry d)) := by
  unfold State.enteredSegments
  cases d
  · simp [SegView.entered]
  · simp [SegView.entered]

theorem distanceTo_end (d : Dir) (e front : Nat) :
    distanceTo d front (if d = .up then e else 0) = lineReach d e front := by
  cases d
  · simp only [distanceTo, ahead, lineReach, if_true]
    omega
  · simp [distanceTo, ahead, lineReach]

theorem State.approach_subset (s : State) (d : Dir) (front q : Nat) : ∀ v ∈ s.approach d front q, v ∈ s.views := by
  intro v hv
  cases d
  · exact s.stretch_subset .up _ _ v hv
  · exact s.stretch_subset .down _ _ v hv

/-! ## What a pass reads on its way (R82 to R94) -/

namespace State

variable (s : State)

def scanLine : Nat := s.lineEnd.getD 0
def scanFront : Nat := s.front s.scanLine s.odo.direction
def scanCap : Option Nat := capLimit s.cfg s.odo.direction s.odo.engagement.kept s.views
def scanSpan : List SegView := s.stretch s.odo.direction (s.spanFrom s.scanLine) (s.spanTo s.scanLine)
def scanCeiling : CeilingTerm := ceilingOf (s.ceilingTerms s.odo.direction s.scanLine s.scanSpan s.scanCap)
def scanReach : Nat := (s.scanEnd s.odo.direction s.scanLine s.scanFront).1
def scanEntered : List SegView := s.enteredSegments s.odo.direction s.scanFront s.scanReach
def scanCandidates : List Candidate :=
  s.candidates s.odo.direction s.scanLine s.scanFront s.scanReach s.scanCeiling.value s.scanCap s.scanEntered
def scanReaction : Nat := reactionDistance s.odo.speed s.cfg.tR

/-- The look-ahead list before pricing, with its merged flag. -/
def scanList : List Candidate × Bool :=
  mergeList (onePerPlace none (orderCandidates s.scanCandidates))
    (staircase s.scanCeiling.value (onePerPlace none (orderCandidates s.scanCandidates)))

def scanTargets : List Target := s.scanList.1.map (s.price s.odo.direction s.scanFront s.scanReaction)

def scanPermitted : Nat × Option Nat := leastPermitted 1 (s.scanCeiling.value, none) s.scanTargets

theorem fullResults_eq :
    s.fullResults =
      ({ time := s.clock.now, mode := s.sup.mode, dir := s.odo.direction, speed := s.odo.speed, front := s.scanFront
         reaction := s.scanReaction, ceiling := s.scanCeiling.value, term := s.scanCeiling.term
         termSource := s.scanCeiling.source, pull := worstPull s.odo.direction s.scanSpan
         pullUnsurveyed := worstUnsurveyed s.odo.direction s.scanSpan
         netService := if unbrakeable s.cfg (netService s.cfg (worstPull s.odo.direction s.scanSpan)) then 0
           else (netService s.cfg (worstPull s.odo.direction s.scanSpan)).toNat
         scanEnd := some (positionAt s.odo.direction s.scanFront s.scanReach,
           (s.scanEnd s.odo.direction s.scanLine s.scanFront).2)
         merged := s.scanList.2, targets := s.scanTargets, permitted := s.scanPermitted.1, giver := s.scanPermitted.2 },
       passFaults s.cfg s.odo.direction s.scanSpan s.scanEntered
         (s.scanList.1.map fun k => s.approach s.odo.direction s.scanFront k.position)) := rfl

end State

/-- Settles O36: the stretches, then the ceiling, the look-ahead list, the permitted speed and the faults of a pass. -/
theorem lookAheadListIsAStaircase : Obligations.LookAheadListIsAStaircase := by
  constructor
  · intro s d a b lineEnd line lo hi
    refine ⟨rfl, ?_, s.stretch_ordered d a b, fun v => State.mem_stretch line d a b v⟩
    exact congrArg (fun n => min n lineEnd) (by rw [← Int.natCast_add, Int.toNat_natCast])
  intro s r d lineEnd front far pull net own cap limit span way worst held toEnd authorityEnd reach entry entered edge
    candidate covered
  have results := s.fullResults_eq
  have hline : s.scanLine = lineEnd := rfl
  have hspan : s.scanSpan = span := rfl
  have hfront : s.scanFront = front := by
    have up : s.front lineEnd .up = min (s.odo.position + s.odo.uncertainty) lineEnd :=
      congrArg (fun n => min n lineEnd) (by rw [← Int.natCast_add, Int.toNat_natCast])
    unfold State.scanFront
    dsimp only [front, d]
    cases s.odo.direction
    · exact up
    · rfl
  have hfar (q : Nat) : ahead d front q = far q := by
    dsimp only [far, d]
    cases s.odo.direction <;> rfl
  have hpull (g : Segment) : pullDown d g = pull g := by
    dsimp only [pull, d]
    unfold pullDown
    cases g.pull <;> cases s.odo.direction <;> rfl
  have hown (g : Segment) : ownLimit s.cfg d g = own g := by
    rw [ownLimit_eq, hpull]
    refine congrArg₂ min ?_ rfl
    dsimp only [d]
    cases s.odo.direction <;> rfl
  have hcap : s.scanCap = cap := by
    unfold State.scanCap capLimit
    dsimp only [cap]
    cases s.odo.engagement.kept with
    | none => rfl
    | some i => exact congrArg (fun f => Option.map f _) (funext fun v => hown v.seg)
  have hlimit (g : Segment) : effectiveLimit s.cfg d cap g = limit g :=
    congrArg (fun n => match g.kind, cap with
      | .rack, some k => min n k
      | _, _ => n) (hown g)
  have hentry (v : SegView) : v.entry d = entry v := by
    dsimp only [entry, d]
    cases s.odo.direction <;> rfl
  have hedge (y : Restriction) : y.edge d = edge y := by
    dsimp only [edge, d]
    cases s.odo.direction <;> rfl
  have hway (q : Nat) : s.approach d front q = way q := by
    dsimp only [way, d]
    unfold State.approach
    cases s.odo.direction <;> rfl
  have hworstAt (before : List SegView) (v : SegView) (after : List SegView) : WorstAt d before v after ↔
      (∀ w ∈ before, pull w.seg < pull v.seg) ∧ ∀ w ∈ after, pull w.seg ≤ pull v.seg := by
    unfold WorstAt
    simp only [hpull]
  have hworst (vs : List SegView) : worst vs (worstPull d vs) (worstUnsurveyed d vs) := by
    obtain ⟨empty, at_⟩ := worst_spec d vs
    refine ⟨empty, fun before v after split less most => ?_⟩
    rw [← hpull]
    exact at_ before v after split ((hworstAt ..).2 ⟨less, most⟩)
  have htoEnd : lineReach d lineEnd front = toEnd := by
    dsimp only [toEnd, d]
    cases s.odo.direction <;> rfl
  have hreach : s.scanReach = reach := by
    unfold State.scanReach
    rw [State.scanEnd_fst, hfront]
    refine congrArg₂ min (congrArg (min · _) htoEnd) (if_congr Iff.rfl ?_ htoEnd)
    unfold State.authorityReach State.authorityAhead
    dsimp only [authorityEnd]
    cases s.route.authority with
    | none => rfl
    | some a =>
      dsimp only
      by_cases same : a.dir = s.odo.direction
      · rw [if_pos same, if_pos (show a.dir = d from same)]
        exact congrArg Int.toNat (hfar a.endPos)
      · rw [if_neg same, if_neg (show ¬a.dir = d from same)]
        rfl
  have hheld : s.authorityAhead d = none ↔ held = false := by
    unfold State.authorityAhead
    dsimp only [held]
    cases s.route.authority with
    | none => simp
    | some a =>
      have beq : (a.dir == d) = decide (a.dir = d) := by cases a.dir <;> cases d <;> rfl
      by_cases same : a.dir = d <;> simp [same, beq]
  have hahead (a : Authority) : s.authorityAhead d = some a ↔ s.route.authority = some a ∧ a.dir = d := by
    unfold State.authorityAhead
    cases s.route.authority with
    | none => simp
    | some b =>
      by_cases same : b.dir = d
      · simp only [same, if_true, Option.some.injEq]
        exact ⟨fun e => ⟨e, e ▸ same⟩, And.left⟩
      · simp only [same, if_false, Option.some.injEq, reduceCtorEq, false_iff]
        rintro ⟨rfl, e⟩
        exact same e
  have hscan : s.scanEntered = s.enteredSegments d front reach := by
    unfold State.scanEntered
    rw [hfront, hreach]
  have hentered (v : SegView) : v ∈ s.enteredSegments d front reach ↔ entered v := by
    rw [State.mem_enteredSegments, hfar, hentry]
  have hcandidate {c : Candidate} (h : c ∈ s.scanCandidates) (x : Target) (kind : x.kind = c.kind)
      (position : x.position = c.position) (distance : x.distance = c.distance) (speed : x.speed = c.speed)
      (source : x.source = c.source) : candidate x := by
    have scanned := State.scanned_of_mem (fun v hv => ((State.mem_enteredSegments ..).1 hv).2.1) h
    rw [hreach, hfront, hcap] at scanned
    obtain ⟨far_, near, what⟩ := scanned
    dsimp only [candidate]
    rw [distance, position, speed, source, kind]
    refine ⟨far_.trans (congrArg Int.toNat (hfar _)), near, ?_⟩
    rcases what with ⟨k, v, hv, so, at_, sp⟩ | ⟨k, y, hy, up, so, at_, sp⟩ | ⟨k, mode, ends⟩ | ⟨k, mode, so, sp, at_⟩ <;> rw [k]
    · exact ⟨v, (hentered v).1 hv, so, at_.trans (hentry v), sp.trans (hlimit v.seg)⟩
    · exact ⟨y, hy, by rw [← hedge, ← hfar]; exact up, so, at_.trans (hedge y), sp⟩
    · refine ⟨mode, ?_⟩
      rcases ends with ⟨a, held_, so, sp, dist⟩ | ⟨held_, so, sp, dist⟩
      · obtain ⟨auth, dir⟩ := (hahead a).1 held_
        exact .inl ⟨a, auth, dir, so, sp, dist.trans (congrArg Int.toNat (hfar _))⟩
      · exact .inr ⟨hheld.1 held_, so, sp, dist⟩
    · refine ⟨mode, so, sp, at_.trans ?_⟩
      dsimp only [d]
      cases s.odo.direction <;> rfl
  obtain ⟨short, full, same, ranks, below, places, sources, covers⟩ := lookAhead_spec s.scanCandidates s.scanCeiling.value
  obtain ⟨term, least⟩ := s.ceiling_spec d lineEnd span s.scanCap
  have terms (x : CeilingTerm) := s.mem_ceilingTerms d lineEnd span s.scanCap x
  rw [show ceilingOf (s.ceilingTerms d lineEnd span s.scanCap) = s.scanCeiling from rfl] at term least
  have ceiling : r.ceiling = s.scanCeiling.value := rfl
  have targets : r.targets = s.scanTargets := rfl
  have priced {x : Target} (hx : x ∈ r.targets) : ∃ k ∈ s.scanList.1, s.price d front r.reaction k = x := by
    obtain ⟨k, hk, e⟩ := List.mem_map.1 (targets ▸ hx)
    rw [hfront] at e
    exact ⟨k, hk, e⟩
  have hcovered {c : Candidate} (hc : c ∈ s.scanCandidates) (n : Int) (v : Nat) (near : (c.distance : Int) ≤ max n 0)
      (slow : c.speed ≤ v) : covered n v := by
    intro _ under
    obtain ⟨k, hk, nearer, slower⟩ := covers c hc (by rw [← ceiling]; omega)
    refine ⟨s.price d s.scanFront s.scanReaction k, List.mem_map.2 ⟨k, hk, rfl⟩, ?_, ?_⟩
    · show (k.distance : Int) ≤ _
      omega
    · show k.speed ≤ v
      omega
  have found (n : Int) (v : Nat) (h : n ≤ reach → v < r.ceiling → covered n v) : covered n v :=
    fun near under => h near under near under
  have permitted := leastPermitted_spec s.scanTargets 1 s.scanCeiling.value none
  rw [show leastPermitted 1 (s.scanCeiling.value, none) s.scanTargets = s.scanPermitted from rfl] at permitted
  have hpermitted : r.permitted = s.scanPermitted.1 := rfl
  have hgiver : r.giver = s.scanPermitted.2 := rfl
  refine ⟨hfront, rfl, rfl, rfl, ?_, ?_, fun x hx => ?_, ?_, fun none_ => ?_, fun n giver => ?_, ?_, fun v hv => ?_,
    fun mode => ?_, fun mode lost => ?_, fun loc => ?_, fun loc => ?_, fun k hk => ?_, fun x hx low high => ?_, ?_,
    hworst span, if_congr decide_eq_true_iff rfl rfl, ?_, fun v hv => ?_, fun y hy up => ?_, fun a mode ha dir => ?_, fun mode none_ => ?_, fun mode => ?_,
    fun merged => ?_, fun x hx => ?_, ?_, fun mode => ?_, fun mode => ?_⟩
  · rw [targets, State.scanTargets, List.length_map]
    exact short
  · rw [targets]
    exact List.pairwise_map.2 (ranks.imp fun h => h)
  · obtain ⟨k, hk, rfl⟩ := priced hx
    refine ⟨below k hk, ?_⟩
    rw [hpermitted]
    rcases permitted with ⟨h, all⟩ | ⟨i, y, -, h, -, all, -⟩ <;> rw [h] <;> exact all _ hx
  · rw [hpermitted, ceiling]
    rcases permitted with ⟨h, -⟩ | ⟨i, y, -, h, less, -⟩ <;> rw [h]
    exact less.le
  · rw [hpermitted, ceiling]
    rcases permitted with ⟨h, -⟩ | ⟨i, y, -, h, -, -⟩
    · rw [h]
    · exact nomatch (congrArg Prod.snd h).symm.trans (hgiver.symm.trans none_)
  · rcases permitted with ⟨h, -⟩ | ⟨i, y, at_, h, less, -, first⟩
    · exact nomatch (congrArg Prod.snd h).symm.trans (hgiver.symm.trans giver)
    · have number : 1 + i = n := Option.some.inj ((congrArg Prod.snd h).symm.trans (hgiver.symm.trans giver))
      have value : r.permitted = y.vPerm := congrArg Prod.fst h
      rw [value, ceiling, targets]
      exact ⟨by omega, less, ⟨y, by rw [show n - 1 = i by omega]; exact at_, rfl⟩,
        fun m x hm hx => first m x (by omega) hx⟩
  · exact least _ ((terms _).2 (.inr (.inr (.inr (.inr (.inl rfl))))))
  · rw [← hlimit, ← hcap]
    by_cases capped : effectiveLimit s.cfg d s.scanCap v.seg < ownLimit s.cfg d v.seg
    · exact least _ ((terms _).2 (.inr (.inl ⟨v, hv, capped, rfl⟩)))
    · have own_ := least _ ((terms _).2 (.inl ⟨v, hv, rfl⟩))
      exact le_trans own_ (Nat.not_lt.1 capped)
  · exact least _ ((terms _).2 (.inr (.inr (.inr (.inr (.inr (.inl ⟨mode, rfl⟩)))))))
  · exact least _ ((terms _).2 (.inr (.inr (.inr (.inr (.inr (.inr (.inl ⟨mode, lost, rfl⟩))))))))
  · exact least _ ((terms _).2 (.inr (.inr (.inr (.inr (.inr (.inr (.inr (.inl ⟨loc, rfl⟩)))))))))
  · exact least _ ((terms _).2 (.inr (.inr (.inr (.inr (.inr (.inr (.inr (.inr ⟨loc, rfl⟩)))))))))
  · exact least _ ((terms _).2 (.inr (.inr (.inr (.inl ⟨k, hk, rfl⟩)))))
  · exact least _ ((terms _).2 (.inr (.inr (.inl ⟨x, hx, low, high, rfl⟩))))
  · have hterm : r.term = s.scanCeiling.term := rfl
    have hsource : r.termSource = s.scanCeiling.source := rfl
    rcases (terms _).1 term with ⟨v, hv, h⟩ | ⟨v, hv, capped, h⟩ | ⟨x, hx, low, high, h⟩ | ⟨k, hk, h⟩ | h | ⟨mode, h⟩ |
      ⟨mode, lost, h⟩ | ⟨loc, h⟩ | ⟨loc, h⟩ <;> rw [h] at hterm hsource ceiling <;> rw [hterm]
    · exact ⟨v, hv, hsource, ceiling.trans (hown v.seg)⟩
    · rw [hcap, hlimit] at ceiling capped
      rw [hown] at capped
      exact ⟨v, hv, hsource, ceiling, capped⟩
    · exact ⟨x, hx, hsource, ceiling, low, high⟩
    · rw [ceiling]
      exact hk
    · exact ceiling
    · exact ⟨mode, ceiling⟩
    · exact ⟨mode, lost, ceiling⟩
    · exact ⟨loc, ceiling⟩
    · exact ⟨loc, ceiling⟩
  · show some (positionAt d s.scanFront s.scanReach) = _
    rw [hfront, hreach]
    dsimp only [d]
    cases s.odo.direction <;> rfl
  · refine found _ _ fun near under => ?_
    have inScan : v ∈ s.scanEntered := hscan ▸ (hentered v).2 hv
    obtain ⟨c, hc, dist, speed⟩ := State.candidate_of_entered (s := s) (d := d) (e := lineEnd) (front := s.scanFront)
      (reach := s.scanReach) (cap := s.scanCap) inScan (ceiling := s.scanCeiling.value)
      (by rw [hcap, hlimit, ← ceiling]; exact under)
    refine hcovered hc _ _ ?_ ?_
    · rw [dist, hfront, hentry, distanceTo, hfar]
      omega
    · rw [speed, hcap, hlimit]
  · refine found _ _ fun near under => ?_
    obtain ⟨c, hc, dist, speed⟩ := State.candidate_of_restriction (s := s) (d := d) (e := lineEnd) (front := s.scanFront)
      (reach := s.scanReach) (cap := s.scanCap) (entered := s.scanEntered) (ceiling := s.scanCeiling.value) hy
      (by rw [← ceiling]; exact under) (by rw [hfront, hedge, hfar]; exact up)
      (by rw [hfront, hedge, hfar, hreach]; exact near)
    refine hcovered hc _ _ ?_ speed.le
    rw [dist, hfront, hedge, distanceTo, hfar]
    omega
  · refine found _ _ fun near under => ?_
    obtain ⟨c, hc, dist, speed⟩ := State.candidate_of_authority (s := s) (d := d) (e := lineEnd) (front := s.scanFront)
      (reach := s.scanReach) (cap := s.scanCap) (entered := s.scanEntered) (ceiling := s.scanCeiling.value) mode
      ((hahead a).2 ⟨ha, dir⟩) (by rw [hfront, hfar, hreach]; exact near)
    refine hcovered hc _ _ ?_ speed.le
    rw [dist, hfront, distanceTo, hfar]
    omega
  · obtain ⟨c, hc, dist, speed⟩ := State.candidate_of_no_authority (s := s) (d := d) (e := lineEnd) (front := s.scanFront)
      (reach := s.scanReach) (cap := s.scanCap) (entered := s.scanEntered) (ceiling := s.scanCeiling.value) mode
      (hheld.2 none_)
    refine hcovered hc _ _ ?_ speed.le
    rw [dist]
    rfl
  · refine found _ _ fun near under => ?_
    have ends : distanceTo d s.scanFront (if d = .up then lineEnd else 0) = toEnd := by
      rw [hfront, ← htoEnd]
      exact distanceTo_end ..
    obtain ⟨c, hc, dist, speed⟩ := State.candidate_of_lineEnd (s := s) (d := d) (e := lineEnd) (front := s.scanFront)
      (reach := s.scanReach) (cap := s.scanCap) (entered := s.scanEntered) (ceiling := s.scanCeiling.value) mode
      (by rw [ends, hreach]; omega)
    refine hcovered hc _ _ ?_ speed.le
    rw [dist, ends]
    omega
  · rw [targets, State.scanTargets, List.length_map]
    exact full merged
  · obtain ⟨k, hk, rfl⟩ := priced hx
    refine ⟨fun apart => ?_, ?_, ?_, rfl, ?_⟩
    · exact hcandidate (same apart k hk) _ rfl rfl rfl rfl rfl
    · obtain ⟨y, hy, kind, speed, source, far_⟩ := sources k hk
      exact ⟨s.price d front r.reaction y, hcandidate hy _ rfl rfl rfl rfl rfl, kind, speed, source, far_⟩
    · obtain ⟨y, hy, position, distance⟩ := places k hk
      exact ⟨s.price d front r.reaction y, hcandidate hy _ rfl rfl rfl rfl rfl, position, distance⟩
    · rw [← hway]
      exact hworst _
  · intro faults ways
    have hways (vs : List SegView) :
        vs ∈ s.scanSpan :: s.scanList.1.map (fun k => s.approach d s.scanFront k.position) ↔ ways vs := by
      rw [List.mem_cons, List.mem_map, hspan]
      refine or_congr Iff.rfl ⟨?_, ?_⟩
      · rintro ⟨k, hk, rfl⟩
        exact ⟨s.price d s.scanFront s.scanReaction k, List.mem_map.2 ⟨k, hk, rfl⟩, by rw [hfront]; exact hway k.position⟩
      · rintro ⟨x, hx, rfl⟩
        obtain ⟨k, hk, rfl⟩ := priced hx
        exact ⟨k, hk, by rw [hfront]; exact hway k.position⟩
    have met (v : SegView) : v ∈ s.scanSpan ++ s.scanEntered ++
        (s.scanList.1.map fun k => s.approach d s.scanFront k.position).flatten ↔ entered v ∨ ∃ vs, ways vs ∧ v ∈ vs := by
      simp only [← hways, ← hentered, ← hscan, List.mem_append, List.mem_flatten, List.mem_cons]
      constructor
      · rintro ((h | h) | ⟨vs, hvs, h⟩)
        · exact .inr ⟨_, .inl rfl, h⟩
        · exact .inl h
        · exact .inr ⟨vs, .inr hvs, h⟩
      · rintro (h | ⟨vs, rfl | hvs, h⟩)
        · exact .inl (.inr h)
        · exact .inl (.inl h)
        · exact .inr ⟨vs, hvs, h⟩
    have inViews (v : SegView) (h : v ∈ s.scanSpan ++ s.scanEntered ++
        (s.scanList.1.map fun k => s.approach d s.scanFront k.position).flatten) : v ∈ s.views := by
      rcases (met v).1 h with h | ⟨vs, rfl | ⟨x, -, rfl⟩, h⟩
      · exact h.1
      · exact s.stretch_subset _ _ _ v h
      · rw [← hway] at h
        exact s.approach_subset _ _ _ v h
    have hfaults (f : FaultKind × Option Nat) := mem_passFaults (c := s.cfg) (d := d) s.views_ordered inViews f
    have hnet (v : SegView) : (netEmergency s.cfg (pullDown d v.seg) < s.cfg.aFloor ↔
        net s.cfg.rEm (pull v.seg) < s.cfg.aFloor) ∧
        (netService s.cfg (pullDown d v.seg) < s.cfg.aFloor ↔ net s.cfg.rSv (pull v.seg) < s.cfg.aFloor) := by
      rw [hpull]
      exact ⟨Iff.rfl, Iff.rfl⟩
    refine ⟨passFaults_nodup .., fun f hf => ?_, fun i => ⟨fun h => ?_, ?_⟩, fun i => ⟨fun h => ?_, ?_⟩⟩
    · obtain ⟨v, -, ⟨rfl, -⟩ | ⟨rfl, -⟩⟩ := (hfaults f).1 hf <;> exact ⟨nofun, nofun⟩
    · obtain ⟨v, hv, ⟨e, none_⟩ | ⟨e, -⟩⟩ := (hfaults _).1 h
      · exact ⟨v, (met v).1 hv, (Option.some.inj (congrArg Prod.snd e)).symm, none_⟩
      · exact nomatch congrArg Prod.fst e
    · rintro ⟨v, hv, rfl, none_⟩
      exact (hfaults _).2 ⟨v, (met v).2 hv, .inl ⟨rfl, none_⟩⟩
    · obtain ⟨v, hv, ⟨e, -⟩ | ⟨e, why⟩⟩ := (hfaults _).1 h
      · exact nomatch congrArg Prod.fst e
      · have index : v.index = i := (Option.some.inj (congrArg Prod.snd e)).symm
        rcases why with ⟨w, hw, steep, same⟩ | ⟨vs, hvs, named⟩
        · refine .inl ⟨w, ?_, same.trans index, (hnet w).1.1 steep⟩
          rcases List.mem_append.1 hw with hw | hw
          · exact .inr hw
          · exact .inl ((hentered w).1 (hscan ▸ hw))
        · obtain ⟨before, w, after, rfl, worst_, same, steep⟩ := (mem_unbrakeableAt ..).1 named
          obtain ⟨less, most⟩ := (hworstAt ..).1 worst_
          exact .inr ⟨before, w, after, (hways _).1 hvs, less, most, same.trans index, (hnet w).2.1 steep⟩
    · rintro (⟨v, hv, rfl, steep⟩ | ⟨before, v, after, hvs, less, most, rfl, steep⟩)
      · have inMet : v ∈ s.scanSpan ++ s.scanEntered := by
          rcases hv with hv | hv
          · exact List.mem_append_right _ (hscan ▸ (hentered v).2 hv)
          · exact List.mem_append_left _ hv
        exact (hfaults _).2 ⟨v, List.mem_append_left _ inMet, .inr ⟨rfl, .inl ⟨v, inMet, (hnet v).1.2 steep, rfl⟩⟩⟩
      · refine (hfaults _).2 ⟨v, (met v).2 (.inr ⟨_, hvs, List.mem_append_right _ List.mem_cons_self⟩), .inr ⟨rfl, .inr
          ⟨_, (hways _).2 hvs, (mem_unbrakeableAt ..).2
            ⟨before, v, after, rfl, (hworstAt ..).2 ⟨less, most⟩, rfl, (hnet v).2.2 steep⟩⟩⟩⟩
  · rcases mode with mode | mode <;> (unfold State.passResults; rw [mode]; rfl)
  · have idle : s.passResults = (s.idleResults, []) := by
      rcases mode with mode | mode | mode <;> (unfold State.passResults; rw [mode]; rfl)
    have place : s.idleResults.front = if s.lineEnd = none then 0 else front := by
      unfold State.idleResults
      rw [← hfront]
      unfold State.scanFront State.scanLine
      cases s.lineEnd <;> rfl
    rw [idle, ← place]
    rfl

end Sys2Proof.Machine
end

section
/-! The bit machine of the Radio Framer (03 §3.1, §3.2): its acts one by one, and the bits of a run: settles O39. -/

namespace Sys2Proof.Machine

/-! ## The acts of the framer (R41, R42, R43) -/

section Acts

variable {n : Nat} {s : State}

theorem State.runFramer_hunting (hunt : s.radio.sync = .hunt) (short : s.radio.bits.length < 24) :
    State.runFramer n s = s := by
  cases n with
  | zero => rfl
  | succ n =>
    rw [State.runFramer, hunt]
    exact if_pos short

theorem State.runFramer_found {k : Nat} (hunt : s.radio.sync = .hunt) (full : 24 ≤ s.radio.bits.length)
    (found : findFrame s.radio.bits = some k) : State.runFramer (n + 1) s = State.runFramer n (s.enterConfirm k) := by
  rw [State.runFramer, hunt]
  refine (if_neg (Nat.not_lt.2 full)).trans ?_
  rw [found]

theorem State.runFramer_moved (hunt : s.radio.sync = .hunt) (full : 24 ≤ s.radio.bits.length)
    (none_ : findFrame s.radio.bits = none) :
    State.runFramer (n + 1) s = State.runFramer n { s with radio := s.radio.advanceSearch } := by
  rw [State.runFramer, hunt]
  refine (if_neg (Nat.not_lt.2 full)).trans ?_
  rw [none_]

theorem State.runFramer_confirming (confirm : s.radio.sync = .confirm)
    (short : s.radio.bits.length < 384 * (s.radio.confirmCount + 2)) : State.runFramer n s = s := by
  cases n with
  | zero => rfl
  | succ n =>
    rw [State.runFramer, confirm]
    exact if_pos short

theorem State.runFramer_judgeConfirm (confirm : s.radio.sync = .confirm)
    (full : 384 * (s.radio.confirmCount + 2) ≤ s.radio.bits.length) :
    State.runFramer (n + 1) s = State.runFramer n s.judgeConfirm := by
  rw [State.runFramer, confirm]
  exact if_neg (Nat.not_lt.2 full)

theorem State.runFramer_locked (locked : s.radio.sync = .locked) (short : s.radio.bits.length < 384) :
    State.runFramer n s = s := by
  cases n with
  | zero => rfl
  | succ n =>
    rw [State.runFramer, locked]
    exact if_pos short

theorem State.runFramer_judgeLocked (locked : s.radio.sync = .locked) (full : 384 ≤ s.radio.bits.length) :
    State.runFramer (n + 1) s = State.runFramer n s.judgeLocked := by
  rw [State.runFramer, locked]
  exact if_neg (Nat.not_lt.2 full)

end Acts

theorem State.enterConfirm_radio (s : State) (n : Nat) :
    (s.enterConfirm n).radio =
      { s.radio with sync := .confirm, expected := some ((n + 1) % 8), confirmCount := 0, blankCount := 0 } :=
  State.publishRadio_radio _

theorem State.enterConfirm_entry {s : State} (l : s.notice.alerts.length = 21) (n : Nat) (k : AlertKind) :
    (s.enterConfirm n).notice.entry k =
      (s.notice.entry k).follow (Radio.shows { s.radio with blankCount := 0 } k) := by
  refine (State.publishRadio_entry { s with radio := { s.radio with
    sync := .confirm, expected := some ((n + 1) % 8), confirmCount := 0, blankCount := 0 } } l k).trans ?_
  cases k <;> rfl

/-! ## One bit (R39, R44) -/

/-- The span once a bit of HUNT is in it (R44). -/
def Radio.counted (b : Bool) (r : Radio) : Radio :=
  { r with
    spanBits := if 383 ≤ r.spanBits then 0 else r.spanBits + 1
    spanZeros := if 383 ≤ r.spanBits then 0 else r.spanZeros + (if b then 0 else 1)
    blankCount := if 383 ≤ r.spanBits then
        (if r.spanZeros + (if b then 0 else 1) ≤ 3 then min (r.blankCount + 1) 3 else 0)
      else r.blankCount }

theorem State.countSpan_hunt {s : State} (hunt : s.radio.sync = .hunt) (b : Bool) :
    s.countSpan b =
      if 383 ≤ s.radio.spanBits then State.publishRadio { s with radio := s.radio.counted b }
      else { s with radio := s.radio.counted b } := by
  have zero : bit (!b) = if b then 0 else 1 := by cases b <;> rfl
  unfold State.countSpan Radio.counted
  dsimp only
  split
  · by_cases ends : 383 ≤ s.radio.spanBits
    · simp only [ends, if_true, zero, show ¬s.radio.spanBits + 1 < Config.frameBits from Nat.not_lt.2 (Nat.succ_le_succ ends),
        if_false, blankAfter]
    · simp only [ends, if_false, zero,
        show s.radio.spanBits + 1 < Config.frameBits from Nat.succ_lt_succ (Nat.not_le.1 ends), if_true]
  · exact absurd hunt ‹_›

theorem State.countSpan_outside {s : State} (h : s.radio.sync ≠ .hunt) (b : Bool) : s.countSpan b = s := by
  unfold State.countSpan
  dsimp only
  cases hs : s.radio.sync
  case hunt => exact absurd hs h
  all_goals rfl

/-- A bit joins the kept bits, outside HUNT (R39, R43). -/
theorem State.receiveBit_outside {s : State} (h : s.radio.sync ≠ .hunt) (capture : Time) (b : Bool) :
    s.receiveBit capture b =
      State.runFramer (4 * (s.radio.bits ++ [b]).length + 4)
        { s with
          radio := { s.radio with
            bits := s.radio.bits ++ [b]
            captureMs := if s.radio.sync = .locked ∧ (s.radio.bits ++ [b]).length = 16 then capture
              else s.radio.captureMs } } := by
  unfold State.receiveBit
  rw [State.countSpan_outside h]

/-- Only the radio and the notices differ. -/
def State.RadioTo (s u : State) : Prop := ∃ r n, u = { s with radio := r, notice := n }

theorem State.RadioTo.refl (s : State) : s.RadioTo s := ⟨_, _, rfl⟩

theorem State.RadioTo.trans {s u v : State} (h : s.RadioTo u) (g : u.RadioTo v) : s.RadioTo v := by
  obtain ⟨_, _, rfl⟩ := h
  obtain ⟨_, _, rfl⟩ := g
  exact ⟨_, _, rfl⟩

theorem State.RadioTo.withRadio (s : State) (r : Radio) : s.RadioTo { s with radio := r } := ⟨_, _, rfl⟩

theorem State.RadioTo.publish (s : State) : s.RadioTo s.publishRadio := by
  obtain ⟨n, h⟩ := State.publishRadio_noticed (s := s) ⟨s.notice, rfl⟩
  exact ⟨s.radio, n, h⟩

theorem State.RadioTo.link {s u : State} (h : s.RadioTo u) : u.link = s.link := by
  obtain ⟨_, _, rfl⟩ := h
  rfl

/-- What the command leaves after an effect on the radio and the notices. -/
theorem State.RadioTo.granted {s u : State} (h : s.RadioTo u) :
    u.grantTransmitter =
      { s with
        radio := u.grantTransmitter.radio
        notice := u.grantTransmitter.notice
        link := { s.link with tx := u.grantTransmitter.link.tx, waiting := u.grantTransmitter.link.waiting } } := by
  rw [State.grantTransmitter_radio]
  refine (State.granted_eq h.link).trans ?_
  generalize u.grantTransmitter = w
  obtain ⟨r, n, rfl⟩ := h
  rfl

/-! ## Alignment words (R41, 10 §10.7) -/

theorem byteOfBits_eq_iff (b7 b6 b5 b4 b3 b2 b1 b0 : Bool) (c : Byte) :
    byteOfBits b7 b6 b5 b4 b3 b2 b1 b0 = c ↔ [b7, b6, b5, b4, b3, b2, b1, b0] = bitsOfByte c := by
  rw [← bitsOfByte_byteOfBits b7 b6 b5 b4 b3 b2 b1 b0]
  refine ⟨congrArg bitsOfByte, fun h => ?_⟩
  unfold bitsOfByte at h
  simp only [List.cons.injEq, and_true] at h
  obtain ⟨h7, h6, h5, h4, h3, h2, h1, h0⟩ := h
  refine BitVec.eq_of_getLsbD_eq fun i hi => ?_
  interval_cases i <;> assumption

theorem number_of_byteOfBits (b7 b6 b5 b4 b3 b2 b1 b0 : Bool) :
    (byteOfBits b7 b6 b5 b4 b3 b2 b1 b0).toNat % 8 = (if b2 then 4 else 0) + (if b1 then 2 else 0) + (if b0 then 1 else 0) := by
  revert b7 b6 b5 b4 b3 b2 b1 b0
  decide

theorem exists_eight {l : List Bool} {k : Nat} (h : l.length = k + 8) :
    ∃ b7 b6 b5 b4 b3 b2 b1 b0 rest, l = b7 :: b6 :: b5 :: b4 :: b3 :: b2 :: b1 :: b0 :: rest ∧ rest.length = k := by
  rcases l with _ | ⟨b7, _ | ⟨b6, _ | ⟨b5, _ | ⟨b4, _ | ⟨b3, _ | ⟨b2, _ | ⟨b1, _ | ⟨b0, rest⟩⟩⟩⟩⟩⟩⟩⟩
  case cons.cons.cons.cons.cons.cons.cons.cons => exact ⟨_, _, _, _, _, _, _, _, rest, rfl, by simpa using h⟩
  all_goals simp at h

theorem findFrame_spec (word high rest : List Bool) (b2 b1 b0 : Bool) (hw : word.length = 16) (hh : high.length = 5) :
    findFrame (word ++ high ++ [b2, b1, b0] ++ rest) =
      if (word = bitsOfBytes [0x47, 0x9C] ∧ b0 = false) ∨ (word = bitsOfBytes [0xB8, 0x63] ∧ b0 = true) then
        some ((if b2 then 4 else 0) + (if b1 then 2 else 0) + (if b0 then 1 else 0))
      else none := by
  obtain ⟨x7, x6, x5, x4, x3, x2, x1, x0, tail, rfl, ht⟩ := exists_eight (k := 8) hw
  obtain ⟨y7, y6, y5, y4, y3, y2, y1, y0, last, rfl, hl⟩ := exists_eight (k := 0) ht
  obtain rfl := List.eq_nil_of_length_eq_zero hl
  obtain ⟨h4, h3, h2, h1, h0, rfl⟩ : ∃ h4 h3 h2 h1 h0, high = [h4, h3, h2, h1, h0] := by
    rcases high with _ | ⟨a, _ | ⟨b, _ | ⟨c, _ | ⟨d, _ | ⟨e, _ | ⟨f, l⟩⟩⟩⟩⟩⟩
    case cons.cons.cons.cons.cons.nil => exact ⟨a, b, c, d, e, rfl⟩
    all_goals simp at hh
  have bytes : bytesOfBits (List.take 24 ([x7, x6, x5, x4, x3, x2, x1, x0, y7, y6, y5, y4, y3, y2, y1, y0] ++
      [h4, h3, h2, h1, h0] ++ [b2, b1, b0] ++ rest)) =
      [byteOfBits x7 x6 x5 x4 x3 x2 x1 x0, byteOfBits y7 y6 y5 y4 y3 y2 y1 y0, byteOfBits h4 h3 h2 h1 h0 b2 b1 b0] := rfl
  have words (c d : Byte) : (byteOfBits x7 x6 x5 x4 x3 x2 x1 x0 = c ∧ byteOfBits y7 y6 y5 y4 y3 y2 y1 y0 = d) ↔
      [x7, x6, x5, x4, x3, x2, x1, x0, y7, y6, y5, y4, y3, y2, y1, y0] = bitsOfBytes [c, d] := by
    rw [byteOfBits_eq_iff, byteOfBits_eq_iff]
    show _ ↔ [x7, x6, x5, x4, x3, x2, x1, x0] ++ [y7, y6, y5, y4, y3, y2, y1, y0] = bitsOfByte c ++ (bitsOfByte d ++ [])
    rw [List.append_nil]
    exact ⟨fun ⟨h, k⟩ => by rw [h, k], fun h => List.append_inj h rfl⟩
  have parity : ((if b2 then 4 else 0) + (if b1 then 2 else 0) + (if b0 then 1 else 0)) % 2 = if b0 then 1 else 0 := by
    cases b2 <;> cases b1 <;> cases b0 <;> rfl
  unfold findFrame
  rw [bytes]
  simp only [byteAt, List.getD_cons_zero, List.getD_cons_succ]
  simp only [number_of_byteOfBits, words, parity]
  cases b0 <;> simp

/-! ## A run in its parts (log 8) -/

theorem Time.since_self (t : Time) : Time.since t t = 0 := by
  unfold Time.since
  rw [BitVec.sub_self]
  rfl

theorem Clock.advance_advance (t : Time) (c : Clock) : (c.advance t).advance t = c.advance t := by
  have small : (c.advance t).subMs < 1000 := Nat.mod_lt _ (by decide)
  have now : (c.advance t).now = t := rfl
  generalize c.advance t = x at small now
  unfold Clock.advance
  rw [now, Time.since_self, Nat.add_zero, Nat.div_eq_of_lt small, Nat.mod_eq_of_lt small, BitVec.add_zero, ← now]

/-- While a transmission runs and no frame waits, a run is its parts in turn. -/
theorem State.run_receiveBits_append {s : State} (busy : s.link.tx ≠ none) (empty : s.link.buffer = []) (t : Time)
    (capture : Clock → Time) (bits more : List Bool) :
    s.run t (fun u => u.receiveBits (capture u.clock) (bits ++ more)) =
      (s.run t fun u => u.receiveBits (capture u.clock) bits).run t fun u => u.receiveBits (capture u.clock) more := by
  have frame := State.eq_of_outsideRadio (State.receiveBits_keeps (capture (s.advance t).clock) bits (s.advance t))
  obtain ⟨v, hv⟩ : ∃ v, v = (s.advance t).receiveBits (capture (s.advance t).clock) bits := ⟨_, rfl⟩
  rw [← hv] at frame
  have link : v.link = s.link := (congrArg State.link frame :)
  have clock : v.clock = s.clock.advance t := (congrArg State.clock frame :)
  have first : (s.run t fun u => u.receiveBits (capture u.clock) bits) = v := by
    obtain ⟨f, running⟩ := Option.ne_none_iff_exists'.1 (by rw [link]; exact busy : v.link.tx ≠ none)
    unfold State.run
    dsimp only
    rw [← hv, State.finish_empty (by rw [link, empty]), State.grantTransmitter_busy running]
  have stays : v.advance t = v := by
    unfold State.advance
    rw [clock, Clock.advance_advance, ← clock]
  rw [first]
  unfold State.run
  dsimp only
  rw [stays, clock]
  unfold State.receiveBits at hv ⊢
  rw [List.foldl_append, ← hv]
  rfl

/-- One bit in HUNT before the search looks at it: the span counted, the bit kept (R39, R41, R44). -/
theorem State.receiveBit_hunt {s : State} (hunt : s.radio.sync = .hunt) (l : s.notice.alerts.length = 21) (capture : Time)
    (b : Bool) :
    ∃ u : State,
      s.receiveBit capture b = State.runFramer (4 * (s.radio.bits ++ [b]).length + 4) u ∧ s.RadioTo u ∧
      u.radio = { s.radio.counted b with bits := s.radio.bits ++ [b] } ∧ u.notice.alerts.length = 21 ∧
      (383 ≤ s.radio.spanBits →
        (u.notice.entry .carrierBlank).active = decide ((s.radio.counted b).blankCount = 3)) := by
  obtain ⟨v, hv⟩ : ∃ v, v = s.countSpan b := ⟨_, rfl⟩
  have counted : v.radio = s.radio.counted b ∧ s.RadioTo v ∧ v.notice.alerts.length = 21 ∧
      (383 ≤ s.radio.spanBits →
        (v.notice.entry .carrierBlank).active = decide ((s.radio.counted b).blankCount = 3)) := by
    rw [hv, State.countSpan_hunt hunt]
    split_ifs with ends
    · refine ⟨State.publishRadio_radio _, (State.RadioTo.withRadio s _).trans (State.RadioTo.publish _),
        (State.publishRadio_length _).trans l, fun _ => ?_⟩
      rw [State.publishRadio_entry { s with radio := s.radio.counted b } l]
      exact AlertEntry.follow_active _ _
    · exact ⟨rfl, State.RadioTo.withRadio s _, l, fun h => absurd h ends⟩
  obtain ⟨radio, only, length, blank⟩ := counted
  have sync : v.radio.sync ≠ .locked := by
    rw [radio]
    exact fun h => nomatch hunt.symm.trans h
  refine ⟨{ v with radio := { v.radio with bits := s.radio.bits ++ [b] } }, ?_, only.trans (State.RadioTo.withRadio v _),
    ?_, length, blank⟩
  · unfold State.receiveBit
    rw [← hv]
    dsimp only
    rw [if_neg fun h => sync h.1, radio]
    rfl
  · rw [radio]

/-! ## Settling O39 -/

/-- Settles O39: the alignment words, a run as its bits and its parts, and one bit in HUNT. -/
theorem huntBitsAreSearched : Obligations.HuntBitsAreSearched := by
  refine ⟨fun word high rest b2 b1 b0 hw hh => findFrame_spec word high rest b2 b1 b0 hw hh, ?_, ?_⟩
  · intro t captured bits more b s clock frame taken inParts
    refine ⟨rfl, rfl, rfl, rfl, fun busy empty => ?_⟩
    have parts (capture : Clock → Time) := State.run_receiveBits_append busy empty t capture bits more
    exact ⟨congrArg Host.Outcome.next (parts Clock.localMs), congrArg Host.Outcome.next (parts Clock.localMs),
      congrArg Host.Outcome.next (parts (Clock.msAt captured))⟩
  intro t b c s empty l hc hunt short zeros ends blank bits
  have run : exec c s = .next ((s.advance t).receiveBit (s.clock.advance t).localMs b).finish := by
    rcases hc with rfl | rfl | rfl <;> rfl
  obtain ⟨w, received, only, radio, length, shown⟩ := State.receiveBit_hunt (s := s.advance t) hunt l
    (s.clock.advance t).localMs b
  have counted : w.radio = { s.radio.counted b with bits := bits } := radio
  have sync : w.radio.sync = .hunt := by rw [counted]; exact hunt
  have kept : w.radio.bits = bits := by rw [counted]
  have many : bits.length = s.radio.bits.length + 1 := List.length_append
  obtain ⟨v, hv⟩ : ∃ v, v = State.runFramer (4 * bits.length + 4) w := ⟨_, rfl⟩
  have ends_at : exec c s = .next v.finish := by rw [run, received, hv]; rfl
  have waits (h : s.radio.bits.length < 23) : v = w :=
    hv.trans (State.runFramer_hunting sync (by rw [kept]; omega))
  have moves (h : s.radio.bits.length = 23) (none_ : findFrame bits = none) :
      v = { w with radio := w.radio.advanceSearch } := by
    refine hv.trans ((State.runFramer_moved sync (by rw [kept]; omega) (by rw [kept]; exact none_)).trans
      (State.runFramer_hunting sync ?_))
    show w.radio.bits.tail.length < 24
    rw [kept, List.length_tail]
    omega
  have finds (n : Nat) (h : s.radio.bits.length = 23) (found : findFrame bits = some n) : v = w.enterConfirm n := by
    refine hv.trans ((State.runFramer_found sync (by rw [kept]; omega) (by rw [kept]; exact found)).trans
      (State.runFramer_confirming ?_ ?_))
    · rw [State.enterConfirm_radio]
    · rw [State.enterConfirm_radio]
      show w.radio.bits.length < 768
      rw [kept]
      omega
  have common : (s.advance t).RadioTo v ∧ v.radio.spanBits = w.radio.spanBits ∧ v.radio.spanZeros = w.radio.spanZeros ∧
      v.radio.state = w.radio.state ∧ v.radio.huntRestarts = w.radio.huntRestarts := by
    by_cases h : s.radio.bits.length < 23
    · rw [waits h]
      exact ⟨only, rfl, rfl, rfl, rfl⟩
    · have full : s.radio.bits.length = 23 := by omega
      cases found : findFrame bits with
      | none =>
        rw [moves full found]
        exact ⟨only.trans (State.RadioTo.withRadio w _), rfl, rfl, rfl, rfl⟩
      | some n =>
        rw [finds n full found, State.enterConfirm_radio]
        exact ⟨only.trans ((State.RadioTo.withRadio w _).trans (State.RadioTo.publish _)), rfl, rfl, rfl, rfl⟩
  obtain ⟨reached, spanBits, spanZeros, state, restarts⟩ := common
  have buffer : v.link.buffer = [] := by rw [reached.link]; exact empty
  rw [ends_at, State.finish_empty buffer]
  refine ⟨v.grantTransmitter, rfl, reached.granted, ?_⟩
  rw [State.grantTransmitter_radio, State.grantTransmitter_entry, spanBits, spanZeros, state, restarts]
  refine ⟨by rw [counted]; rfl, by rw [counted]; rfl, by rw [counted]; rfl, by rw [counted]; rfl, fun h => ?_,
    fun h none_ => ?_, fun n h found => ?_⟩
  · rw [waits h]
    exact ⟨sync, kept, by rw [counted]; rfl, by rw [counted]; rfl, shown⟩
  · rw [moves h none_]
    refine ⟨sync, ?_, ?_, by rw [counted]; rfl, shown⟩
    · show w.radio.bits.tail = _
      rw [kept]
    · show w.radio.searchPoint + 1 = _
      rw [counted]
      rfl
  · rw [finds n h found, State.enterConfirm_radio]
    refine ⟨rfl, rfl, rfl, kept, rfl, ?_⟩
    rw [State.enterConfirm_entry length]
    exact AlertEntry.follow_active _ _

end Sys2Proof.Machine
end

section
/-! What a delivered telegram touches (03 §3.7, 04 §4.1 to §4.5), and that the frame position is not among it. -/

namespace Sys2Proof.Machine

/-! ## Notices that leave an entry alone -/

/-- The entry of a kind stands. -/
def Notice.Spares (k : AlertKind) (n m : Notice) : Prop :=
  m.alerts.length = n.alerts.length ∧ m.entry k = n.entry k

section Spares

variable {k j : AlertKind} {n m p : Notice}

theorem Notice.Spares.refl (k : AlertKind) (n : Notice) : n.Spares k n := ⟨rfl, rfl⟩

theorem Notice.Spares.trans (h : n.Spares k m) (g : m.Spares k p) : n.Spares k p := ⟨g.1.trans h.1, g.2.trans h.2⟩

theorem Notice.Spares.post (n : Notice) (t : Time) (b : ReportBody) : n.Spares k (n.post t b) :=
  ⟨congrArg List.length (Notice.post_alerts ..), Notice.post_entry ..⟩

theorem Notice.Spares.latch (n : Notice) (t : Time) (h : k ≠ j) : n.Spares k (n.latch t j) :=
  ⟨Notice.latch_length .., Notice.latch_entry_other _ _ h⟩

theorem Notice.Spares.setActive (n : Notice) (t : Time) (b : Bool) (h : k ≠ j) : n.Spares k (n.setActive t j b) :=
  ⟨Notice.setActive_length .., Notice.setActive_entry_other _ _ _ h⟩

end Spares

/-- The kinds that the route records and the telegrams set. -/
def AlertKind.isRoute (k : AlertKind) : Prop :=
  k = .authorityExpired ∨ k = .restrictionRefused ∨ k = .restrictionCap ∨ k = .valleyTimeJump

/-! ## Delivery (R54, R55) -/

section Deliver

variable {k : AlertKind} (hk : ¬k.isRoute) (s : State)

include hk

theorem State.expireAuthority_spares : s.notice.Spares k s.expireAuthority.notice := by
  unfold State.expireAuthority
  split
  · exact .refl ..
  · split
    · exact .latch _ _ fun h => hk (.inl h)
    · exact .refl ..

theorem State.entriesLeave_spares (n : Nat) (l : List Restriction) : s.notice.Spares k (s.entriesLeave n l).notice := by
  unfold State.entriesLeave
  split
  · exact .refl ..
  · exact .setActive _ _ _ fun h => hk (.inr (.inr (.inl h)))

theorem State.deliver_spares (m : Telegram) : s.notice.Spares k (s.deliver m).notice := by
  cases m with
  | ignored => exact .refl ..
  | malformed r => cases r <;> exact .refl ..
  | authority a =>
    show s.notice.Spares k (s.takeAuthority a).notice
    unfold State.takeAuthority
    dsimp only
    split
    · exact .refl ..
    · exact .post ..
    · split <;> exact .post ..
  | set r =>
    show s.notice.Spares k (s.setRestriction r).2.notice
    unfold State.setRestriction
    dsimp only
    split
    · exact .latch _ _ fun h => hk (.inr (.inl h))
    · split
      · exact .refl ..
      · exact (Notice.Spares.latch _ _ fun h => hk (.inr (.inl h))).trans
          (Notice.Spares.setActive _ _ _ fun h => hk (.inr (.inr (.inl h))))
  | lift id => exact State.entriesLeave_spares hk ..
  | hold n b => exact .refl ..
  | valleyTime v =>
    show s.notice.Spares k (s.takeValleyTime v).notice
    unfold State.takeValleyTime State.ageRecords State.expireRestrictions
    refine Notice.Spares.trans ?_ ((State.expireAuthority_spares hk _).trans (State.entriesLeave_spares hk ..))
    dsimp only
    split
    · exact .refl ..
    · split
      · exact .latch _ _ fun h => hk (.inr (.inr (.inr h)))
      · exact .refl ..
  | notice text => exact .post ..

end Deliver

/-- Of the radio a telegram touches the acknowledgement ring and the valley-time offset. -/
theorem State.deliver_radio (m : Telegram) (s : State) :
    (s.deliver m).radio = { s.radio with ring := (s.deliver m).radio.ring, offset := (s.deliver m).radio.offset } := by
  have leaves (n : Nat) (l : List Restriction) : (s.entriesLeave n l).radio = s.radio := by
    unfold State.entriesLeave
    split <;> rfl
  cases m with
  | malformed r => cases r <;> rfl
  | authority a =>
    have stays : (s.takeAuthority a).radio = s.radio := by
      unfold State.takeAuthority
      dsimp only
      split
      · rfl
      · rfl
      · split <;> rfl
    exact stays.trans (by rw [show (s.deliver (.authority a)).radio = s.radio from stays])
  | set r =>
    have stays : (s.setRestriction r).2.radio = s.radio := by
      unfold State.setRestriction
      dsimp only
      split
      · rfl
      · split <;> rfl
    simp only [State.deliver, State.acknowledgeId, stays]
  | lift id =>
    simp only [State.deliver, State.acknowledgeId, State.liftRestriction, leaves]
  | valleyTime v =>
    have radio : (s.takeValleyTime v).radio =
        { s.radio with offset := some (v - s.radio.captureMs - BitVec.ofNat 32 s.cfg.transit) } := by
      unfold State.takeValleyTime
      rw [State.ageRecords_radio]
      dsimp only
      split
      · rfl
      · split <;> rfl
    show (s.takeValleyTime v).radio = { s.radio with ring := (s.takeValleyTime v).radio.ring, offset := (s.takeValleyTime v).radio.offset }
    rw [radio]
  | _ => rfl

/-! ## The frame position is not read (R43, R54) -/

/-- A state with the frame position moved. -/
def State.dropBits (n : Nat) (s : State) : State := { s with radio := s.radio.dropBits n }

section DropBits

variable (n : Nat) (s : State)

theorem State.expireAuthority_dropBits : (s.dropBits n).expireAuthority = s.expireAuthority.dropBits n := by
  have now : (s.dropBits n).valleyNow = s.valleyNow := rfl
  have held : (s.dropBits n).route = s.route := rfl
  unfold State.expireAuthority
  rw [now, held]
  split
  · rfl
  · split <;> rfl

theorem State.entriesLeave_dropBits (k : Nat) (l : List Restriction) :
    (s.dropBits n).entriesLeave k l = (s.entriesLeave k l).dropBits n := by
  unfold State.entriesLeave
  split <;> rfl

theorem State.ageRecords_dropBits : (s.dropBits n).ageRecords = s.ageRecords.dropBits n := by
  unfold State.ageRecords
  rw [State.expireAuthority_dropBits]
  exact State.entriesLeave_dropBits ..

theorem State.deliver_dropBits (m : Telegram) : (s.dropBits n).deliver m = (s.deliver m).dropBits n := by
  have now : (s.dropBits n).valleyNow = s.valleyNow := rfl
  have held : (s.dropBits n).route = s.route := rfl
  have line : (s.dropBits n).lineEnd = s.lineEnd := rfl
  cases m with
  | malformed r => cases r <;> rfl
  | authority a =>
    show (s.dropBits n).takeAuthority a = (s.takeAuthority a).dropBits n
    unfold State.takeAuthority
    rw [now, held, line]
    dsimp only
    split
    · rfl
    · rfl
    · split <;> rfl
  | set r =>
    have set : (s.dropBits n).setRestriction r = ((s.setRestriction r).1, (s.setRestriction r).2.dropBits n) := by
      unfold State.setRestriction
      rw [now, held, line]
      dsimp only
      split
      · rfl
      · split <;> rfl
    show ((s.dropBits n).setRestriction r).2.acknowledgeId r.id ((s.dropBits n).setRestriction r).1 = _
    rw [set]
    rfl
  | lift id =>
    have lift : (s.dropBits n).liftRestriction id = (s.liftRestriction id).dropBits n := State.entriesLeave_dropBits ..
    show ((s.dropBits n).liftRestriction id).acknowledgeId id true = _
    rw [lift]
    rfl
  | valleyTime v =>
    show (s.dropBits n).takeValleyTime v = (s.takeValleyTime v).dropBits n
    unfold State.takeValleyTime
    rw [← State.ageRecords_dropBits]
    refine congrArg State.ageRecords ?_
    have offset : (s.dropBits n).radio.offset = s.radio.offset := rfl
    dsimp only
    rw [offset]
    cases s.radio.offset with
    | none => rfl
    | some o =>
      dsimp only
      have jump : isJump o (v - (s.dropBits n).radio.captureMs - BitVec.ofNat 32 (s.dropBits n).cfg.transit) =
        isJump o (v - s.radio.captureMs - BitVec.ofNat 32 s.cfg.transit) := rfl
      rw [jump]
      split <;> rfl
  | _ => rfl

end DropBits

/-- A slot that carries nothing delivers nothing. -/
theorem decodeSlot_empty {car : Nat} {slot : List Byte} (h : byteAt slot 0 = 0#8) : decodeSlot car slot = .ignored := by
  unfold decodeSlot
  rw [h]
  rfl

end Sys2Proof.Machine
end

section
/-! The judgement of frames in LOCKED and in CONFIRM (03 §3.2 to §3.6): settles O40. -/

namespace Sys2Proof.Machine

/-! ## The judgement in CONFIRM (R42, R43) -/

theorem State.judgeConfirm_correct {s : State}
    (h : wordCorrect s.radio.expected (s.radio.bits.drop (384 * (s.radio.confirmCount + 1))) = true) :
    s.judgeConfirm =
      if s.radio.confirmCount = 0 then
        { s with radio := { s.radio with expected := advanceNumber s.radio.expected, confirmCount := 1 } }
      else { s with radio := ({ s.radio with expected := advanceNumber s.radio.expected } : Radio).enterLocked } :=
  if_pos h

theorem State.judgeConfirm_wrong {s : State}
    (h : ¬wordCorrect s.radio.expected (s.radio.bits.drop (384 * (s.radio.confirmCount + 1))) = true) :
    s.judgeConfirm =
      { s with
        radio := ({ s.radio with alignErrors := min (s.radio.alignErrors + 1) 65535 } : Radio).enterHunt } :=
  if_neg h

/-! ## The search after a loss of sync (R41, R42) -/

/-- What the framer's search changes of the radio. -/
def Radio.Searched (r q : Radio) : Prop :=
  q = { r with
        sync := q.sync, expected := q.expected, confirmCount := q.confirmCount, blankCount := q.blankCount
        bits := q.bits, searchPoint := q.searchPoint } ∧
    q.sync ≠ .locked ∧ r.searchPoint ≤ q.searchPoint

theorem Radio.Searched.trans {r q p : Radio} (h : r.Searched q) (g : q.Searched p) : r.Searched p := by
  obtain ⟨hq, -, up⟩ := h
  obtain ⟨hp, sync, further⟩ := g
  refine ⟨hp.trans ?_, sync, up.trans further⟩
  generalize p.sync = a, p.expected = b, p.confirmCount = c, p.blankCount = d, p.bits = e, p.searchPoint = f
  rw [hq]

/-- With fewer bits than two frames the search stops in HUNT or in CONFIRM. -/
theorem State.runFramer_searched (n : Nat) : ∀ {s : State}, s.radio.sync = .hunt → s.radio.bits.length < 768 →
    s.RadioTo (State.runFramer n s) ∧ s.radio.Searched (State.runFramer n s).radio ∧
    (s.notice.alerts.length = 21 → ∀ k, (State.runFramer n s).notice.entry k = s.notice.entry k ∨
      (State.runFramer n s).notice.entry k = (s.notice.entry k).follow (Radio.shows { s.radio with blankCount := 0 } k)) := by
  have stays {s : State} (hunt : s.radio.sync = .hunt) : s.radio.Searched s.radio :=
    ⟨rfl, by rw [hunt]; exact nofun, le_refl _⟩
  induction n with
  | zero => exact fun hunt _ => ⟨.refl _, stays hunt, fun _ _ => .inl rfl⟩
  | succ n ih =>
    intro s hunt short
    by_cases full : s.radio.bits.length < 24
    · rw [State.runFramer_hunting hunt full]
      exact ⟨.refl _, stays hunt, fun _ _ => .inl rfl⟩
    · cases found : findFrame s.radio.bits with
      | none =>
        rw [State.runFramer_moved hunt (Nat.not_lt.1 full) found]
        have moved := ih (s := { s with radio := s.radio.advanceSearch }) hunt (by
          show s.radio.bits.tail.length < 768
          rw [List.length_tail]
          omega)
        obtain ⟨only, search, entries⟩ := moved
        exact ⟨(State.RadioTo.withRadio s _).trans only,
          Radio.Searched.trans (q := s.radio.advanceSearch) ⟨rfl, (stays hunt).2.1, Nat.le_succ _⟩ search, entries⟩
      | some k =>
        have radio := s.enterConfirm_radio k
        have waits : State.runFramer n (s.enterConfirm k) = s.enterConfirm k :=
          State.runFramer_confirming (by rw [radio]) (by rw [radio]; exact short)
        rw [State.runFramer_found hunt (Nat.not_lt.1 full) found, waits]
        refine ⟨(State.RadioTo.withRadio s _).trans (State.RadioTo.publish _), ?_,
          fun l j => .inr (State.enterConfirm_entry l k j)⟩
        rw [radio]
        exact ⟨rfl, nofun, le_refl _⟩

/-- With fewer bits than three frames the framer, out of sync, never comes to LOCKED: each wrong word counts one
alignment error and one restart. -/
theorem State.runFramer_unlocked (n : Nat) : ∀ {s : State} {h a : Nat}, s.radio.bits.length ≤ 1151 →
    s.radio.sync = .hunt ∨ (s.radio.sync = .confirm ∧ s.radio.confirmCount ≤ 1) → s.radio.settled = false →
    s.radio.huntRestarts = min h 255 → s.radio.alignErrors = min a 65535 →
    let v := State.runFramer n s
    s.RadioTo v ∧ v.radio.sync ≠ .locked ∧ v.radio.settled = false ∧ s.radio.searchPoint ≤ v.radio.searchPoint ∧
      v.radio.state = s.radio.state ∧
      ∃ m, (s.radio.bits.length < 768 → m = 0) ∧ v.radio.huntRestarts = min (h + m) 255 ∧
        v.radio.alignErrors = min (a + m) 65535 := by
  have out {s : State} (h : s.radio.sync = .hunt ∨ (s.radio.sync = .confirm ∧ s.radio.confirmCount ≤ 1)) :
      s.radio.sync ≠ .locked := by
    rcases h with h | ⟨h, -⟩ <;> rw [h] <;> exact nofun
  induction n with
  | zero =>
    intro s h a _ sync settled restarts errors
    exact ⟨.refl _, out sync, settled, le_refl _, rfl, 0, fun _ => rfl, restarts, errors⟩
  | succ n ih =>
    intro s h a short sync settled restarts errors
    have stop (v : State) (hv : v = s) : s.RadioTo v ∧ v.radio.sync ≠ .locked ∧ v.radio.settled = false ∧
        s.radio.searchPoint ≤ v.radio.searchPoint ∧ v.radio.state = s.radio.state ∧
        ∃ m, (s.radio.bits.length < 768 → m = 0) ∧ v.radio.huntRestarts = min (h + m) 255 ∧
          v.radio.alignErrors = min (a + m) 65535 := by
      rw [hv]
      exact ⟨.refl _, out sync, settled, le_refl _, rfl, 0, fun _ => rfl, restarts, errors⟩
    rcases sync with hunt | ⟨confirm, count⟩
    · by_cases full : s.radio.bits.length < 24
      · exact stop _ (State.runFramer_hunting hunt full)
      · cases found : findFrame s.radio.bits with
        | none =>
          have fewer : s.radio.advanceSearch.bits.length = s.radio.bits.length - 1 := List.length_tail ..
          obtain ⟨only, out, still, up, state, m, none_, count⟩ := ih (s := { s with radio := s.radio.advanceSearch })
            (h := h) (a := a) (by dsimp only; omega) (.inl hunt) settled restarts errors
          rw [State.runFramer_moved hunt (Nat.not_lt.1 full) found]
          refine ⟨(State.RadioTo.withRadio s _).trans only, out, still, (Nat.le_succ _).trans up, state, m,
            fun few => none_ ?_, count⟩
          dsimp only
          omega
        | some k =>
          have radio := s.enterConfirm_radio k
          have next := ih (s := s.enterConfirm k) (h := h) (a := a) (by rw [radio]; exact short)
            (.inr (by rw [radio]; exact ⟨rfl, Nat.zero_le _⟩)) (by rw [radio]; exact settled) (by rw [radio]; exact restarts)
            (by rw [radio]; exact errors)
          rw [radio] at next
          rw [State.runFramer_found hunt (Nat.not_lt.1 full) found]
          obtain ⟨only, out, still, up, state, m, none_, count⟩ := next
          exact ⟨((State.RadioTo.withRadio s _).trans (State.RadioTo.publish _)).trans only, out, still, up, state, m, none_,
            count⟩
    · by_cases full : s.radio.bits.length < 384 * (s.radio.confirmCount + 2)
      · exact stop _ (State.runFramer_confirming confirm full)
      · have zero : s.radio.confirmCount = 0 := by omega
        rw [State.runFramer_judgeConfirm confirm (Nat.not_lt.1 full)]
        by_cases correct : wordCorrect s.radio.expected (s.radio.bits.drop (384 * (s.radio.confirmCount + 1))) = true
        · rw [State.judgeConfirm_correct correct, if_pos zero]
          obtain ⟨only, out, still, up, state, m, none_, count⟩ := ih (s := { s with radio := { s.radio with
            expected := advanceNumber s.radio.expected, confirmCount := 1 } }) (h := h) (a := a) short
            (.inr ⟨confirm, le_refl _⟩) settled restarts errors
          exact ⟨(State.RadioTo.withRadio s _).trans only, out, still, up, state, m, none_, count⟩
        · rw [State.judgeConfirm_wrong correct]
          have fewer : s.radio.bits.tail.length = s.radio.bits.length - 1 := List.length_tail ..
          have again := ih (s := { s with
              radio := ({ s.radio with alignErrors := min (s.radio.alignErrors + 1) 65535 } : Radio).enterHunt }) (h := h + 1) (a := a + 1)
            (by show s.radio.bits.tail.length ≤ 1151; omega) (.inl rfl) rfl
            (by show min (s.radio.huntRestarts + 1) 255 = _; omega)
            (by show min (s.radio.alignErrors + 1) 65535 = _; omega)
          obtain ⟨only, out, still, up, state, m, none_, restarts', errors'⟩ := again
          refine ⟨(State.RadioTo.withRadio s _).trans only, out, still, (Nat.le_succ _).trans up, state, m + 1,
            fun few => ?_, ?_, ?_⟩
          · omega
          · rw [restarts']
            congr 1
            omega
          · rw [errors']
            congr 1
            omega

end Sys2Proof.Machine
end

section
/-! The last bits of a frame in LOCKED and in CONFIRM (03 §3.2): parts of O40. -/

namespace Sys2Proof.Machine

/-- Neither a bit received nor its judgement touches the link. -/
theorem State.receiveBit_link (capture : Time) (b : Bool) (s : State) : (s.receiveBit capture b).link = s.link :=
  (congrArg State.link (State.eq_of_outsideRadio (State.receiveBit_keeps capture b s)) :)

/-- A bit received while no frame waits. -/
theorem State.exec_frameCompletion {s : State} (empty : s.link.buffer = []) (t captured : Time) (b : Bool) :
    ∃ capture, exec (.frameCompletion t captured [b]) s = .next ((s.advance t).receiveBit capture b).grantTransmitter := by
  refine ⟨(s.clock.advance t).msAt captured, ?_⟩
  refine Eq.trans (b := .next ((s.advance t).receiveBit ((s.clock.advance t).msAt captured) b).finish) rfl ?_
  rw [State.finish_empty (by rw [State.receiveBit_link]; exact empty)]

/-- A bit of a frame in LOCKED, short of its last. -/
theorem State.receiveBit_locked {s : State} (locked : s.radio.sync = .locked) (short : s.radio.bits.length < 383)
    (capture : Time) (b : Bool) :
    s.receiveBit capture b =
      { s with
        radio := { s.radio with
          bits := s.radio.bits ++ [b]
          captureMs := if s.radio.bits.length = 15 then capture else s.radio.captureMs } } := by
  have longer : (s.radio.bits ++ [b]).length = s.radio.bits.length + 1 := List.length_append
  have word : (s.radio.sync = .locked ∧ (s.radio.bits ++ [b]).length = 16) = (s.radio.bits.length = 15) := by
    rw [longer]
    exact propext ⟨fun h => Nat.succ.inj h.2, fun h => ⟨locked, congrArg Nat.succ h⟩⟩
  have outside : s.radio.sync ≠ .hunt := by rw [locked]; exact nofun
  have waits {r : Radio} (hr : r.sync = .locked) (hb : r.bits.length < 384) (n : Nat) :
      State.runFramer n { s with radio := r } = { s with radio := r } := State.runFramer_locked hr hb
  rw [State.receiveBit_outside outside]
  simp only [word]
  refine waits ?_ ?_ _
  · exact locked
  · dsimp only
    omega

/-- The last bit of a frame in CONFIRM, or of one in LOCKED: the frame is whole. -/
theorem State.receiveBit_whole {s : State} (outside : s.radio.sync ≠ .hunt) (long : 383 ≤ s.radio.bits.length)
    (capture : Time) (b : Bool) :
    s.receiveBit capture b =
      State.runFramer (4 * (s.radio.bits ++ [b]).length + 4)
        { s with radio := { s.radio with bits := s.radio.bits ++ [b] } } := by
  have longer : (s.radio.bits ++ [b]).length = s.radio.bits.length + 1 := List.length_append
  rw [State.receiveBit_outside outside, if_neg fun h => by omega]

/-- A word is correct exactly when it is found with the expected number (R42). -/
theorem wordCorrect_iff (expected : Option Nat) (bits : List Bool) :
    wordCorrect expected bits = true ↔ (findFrame bits).isSome = true ∧ findFrame bits = expected := by
  unfold wordCorrect
  rw [Bool.and_eq_true, beq_iff_eq]

/-- The judgement of a word in CONFIRM (R42, R43). -/
theorem State.confirm_judged {s : State} (confirm : s.radio.sync = .confirm)
    (whole : (s.radio.confirmCount = 0 ∧ s.radio.bits.length = 768) ∨
      (s.radio.confirmCount = 1 ∧ s.radio.bits.length = 1152)) (n : Nat) :
    let word := findFrame (s.radio.bits.drop (384 * (s.radio.confirmCount + 1)))
    let correct := word.isSome = true ∧ word = s.radio.expected
    let u := State.runFramer (n + 1) s
    s.RadioTo u ∧
    (correct → s.radio.confirmCount = 0 →
      u.radio = { s.radio with expected := s.radio.expected.map fun k => (k + 1) % 8, confirmCount := 1 }) ∧
    (correct → s.radio.confirmCount = 1 →
      u.radio = { s.radio with
        sync := .locked, bits := [], searchPoint := s.radio.searchPoint + 1152, history := [], settling := 0
        settled := false, confirmCount := 0, expected := s.radio.expected.map fun k => (k + 1) % 8 }) ∧
    (¬correct →
      u.radio.sync ≠ .locked ∧ u.radio.settled = false ∧ s.radio.searchPoint + 1 ≤ u.radio.searchPoint ∧
      u.radio.state = s.radio.state ∧
      ∃ n, 1 ≤ n ∧ (s.radio.confirmCount = 0 → n = 1) ∧
        u.radio.huntRestarts = min (s.radio.huntRestarts + n) 255 ∧
        u.radio.alignErrors = min (s.radio.alignErrors + n) 65535) := by
  intro word correct u
  have full : 384 * (s.radio.confirmCount + 2) ≤ s.radio.bits.length := by omega
  have judged : u = State.runFramer n s.judgeConfirm := State.runFramer_judgeConfirm confirm full
  by_cases right : correct
  · rw [State.judgeConfirm_correct ((wordCorrect_iff ..).2 right)] at judged
    rcases whole with ⟨zero, length⟩ | ⟨one, length⟩
    · rw [if_pos zero] at judged
      have stays : u = { s with radio := { s.radio with
          expected := advanceNumber s.radio.expected, confirmCount := 1 } } :=
        judged.trans (State.runFramer_confirming confirm (by dsimp only; omega))
      rw [stays]
      exact ⟨.withRadio .., fun _ _ => rfl, fun _ one => absurd (zero.symm.trans one) (by decide), fun h => absurd right h⟩
    · rw [if_neg (by omega)] at judged
      have used : s.radio.bits.drop 1152 = [] := List.drop_eq_nil_of_le (by omega)
      have stays : u = { s with radio := ({ s.radio with expected := advanceNumber s.radio.expected } : Radio).enterLocked } :=
        judged.trans (State.runFramer_locked rfl (by
          show (s.radio.bits.drop 1152).length < 384
          rw [used]
          decide))
      rw [stays]
      refine ⟨.withRadio .., fun _ zero => absurd (zero.symm.trans one) (by decide), fun _ _ => ?_, fun h => absurd right h⟩
      unfold Radio.enterLocked Radio.dropBits
      dsimp only
      rw [used]
      rfl
  · rw [State.judgeConfirm_wrong (mt (wordCorrect_iff ..).1 right)] at judged
    have fewer : s.radio.bits.tail.length = s.radio.bits.length - 1 := List.length_tail
    obtain ⟨only, out, still, up, state, m, none_, restarts, errors⟩ := State.runFramer_unlocked n
      (s := { s with radio := ({ s.radio with alignErrors := min (s.radio.alignErrors + 1) 65535 } : Radio).enterHunt })
      (h := s.radio.huntRestarts + 1) (a := s.radio.alignErrors + 1)
      (by show s.radio.bits.tail.length ≤ 1151; omega) (.inl rfl) rfl rfl rfl
    rw [← judged] at only out still up state restarts errors
    refine ⟨(State.RadioTo.withRadio s _).trans only, fun h => absurd h right, fun h => absurd h right, fun _ =>
      ⟨out, still, up, state, m + 1, Nat.le_add_left .., fun zero => ?_, ?_, ?_⟩⟩
    · have few : s.radio.bits.tail.length < 768 := by omega
      rw [none_ few]
    · rw [restarts, Nat.add_assoc, Nat.add_comm 1 m]
    · rw [errors, Nat.add_assoc, Nat.add_comm 1 m]

end Sys2Proof.Machine
end

section
/-! The judgement of a frame in LOCKED (03 §3.2 to §3.6): settles O40. -/

namespace Sys2Proof.Machine

/-! ## Bytes and checks of a frame (R40, R59) -/

theorem byteAt_slice (f : List Byte) {m n i : Nat} (h : i < n) : byteAt (slice f m n) i = byteAt f (m + i) := by
  simp only [byteAt, slice, List.getD_eq_getElem?_getD, List.getElem?_take_of_lt h, List.getElem?_drop]

theorem beAt_two {f : List Byte} {i : Nat} (h : i + 2 ≤ f.length) :
    beAt f i 2 = (byteAt f i ++ byteAt f (i + 1) : BitVec 16).toNat := by
  obtain ⟨before, rest, rfl, hb⟩ : ∃ before rest, f = before ++ rest ∧ before.length = i :=
    ⟨f.take i, f.drop i, (List.take_append_drop i f).symm, List.length_take_of_le (by omega)⟩
  rcases rest with _ | ⟨x, _ | ⟨y, rest⟩⟩
  · rw [List.append_nil, hb] at h
    omega
  · rw [List.length_append, hb] at h
    simp at h
  · have first : byteAt (before ++ x :: y :: rest) i = x := by simp [byteAt, ← hb]
    have second : byteAt (before ++ x :: y :: rest) (i + 1) = y := by
      simp [byteAt, ← hb]
    have both : slice (before ++ x :: y :: rest) i 2 = [x, y] := by simp [slice, ← hb]
    rw [first, second, beAt, both, BitVec.toNat_append, Nat.shiftLeft_eq, Nat.mul_comm,
      ← Nat.two_pow_add_eq_or_of_lt y.isLt]
    simp only [ofBe, ofLe, List.reverse_cons, List.reverse_nil, List.nil_append, List.cons_append]
    omega

theorem frameCrcOk_iff {f : List Byte} (h : f.length = 48) :
    frameCrcOk f = true ↔ crc16 ((f.drop 2).take 43) = byteAt f 45 ++ byteAt f 46 := by
  unfold frameCrcOk
  rw [beq_iff_eq, beAt_two (by omega)]
  exact ⟨BitVec.eq_of_toNat_eq, congrArg BitVec.toNat⟩

theorem State.frameLineOk_iff (f : List Byte) (s : State) :
    s.frameLineOk f = true ↔ s.lineId ≠ 0 ∧ beAt f 3 2 = s.lineId := by
  unfold State.frameLineOk
  rw [Bool.and_eq_true, bne_iff_ne, beq_iff_eq]

/-! ## What a judgement counts (R45, R46) -/

/-- The radio with a judgement counted: the word correct, the CRC good, the line id in use. -/
def Radio.tally (correct crc line : Bool) (r : Radio) : Radio :=
  Radio.settle (correct && crc && line)
    { r with
      alignErrors := if correct then r.alignErrors else min (r.alignErrors + 1) 65535
      crcErrors := if correct && !crc then min (r.crcErrors + 1) 65535 else r.crcErrors
      goodFrames := if correct && crc && line then min (r.goodFrames + 1) 4294967295 else r.goodFrames }

theorem Radio.settle_false (r : Radio) :
    r.settle false = { r with settling := if r.settled then r.settling else 0 } := by
  unfold Radio.settle
  cases h : r.settled
  · rfl
  · rw [if_pos rfl, if_pos rfl, ← h]

theorem Radio.settle_true (r : Radio) :
    r.settle true =
      if r.settled = true then r else { r with settling := r.settling + 1, settled := decide (8 ≤ r.settling + 1) } := rfl

theorem Radio.settle_eq (b : Bool) (r : Radio) :
    r.settle b = { r with settling := (r.settle b).settling, settled := (r.settle b).settled } := by
  cases b
  · rw [Radio.settle_false]
  · rw [Radio.settle_true]
    split <;> rfl

/-- The radio that the next judgement starts from (R42, R43). -/
def Radio.recorded (wSync : Nat) (correct : Bool) (r : Radio) : Radio :=
  { r with history := historyAdd wSync r.history correct, expected := advanceNumber r.expected }

/-- The state once a frame in LOCKED is judged, before the test for loss of sync. -/
def State.frameJudged (s : State) : State :=
  let f := bytesOfBits (s.radio.bits.take 384)
  let c := wordCorrect s.radio.expected s.radio.bits
  let x : State := { s with radio := (s.radio.recorded s.cfg.wSync c).tally c (frameCrcOk f) (s.frameLineOk f) }
  if (c && frameCrcOk f && s.frameLineOk f && s.radio.settled) = true then x.goodSettledFrame f else x

theorem State.judgeLocked_eq (s : State) :
    s.judgeLocked =
      if s.cfg.m ≤ wrongCount (historyAdd s.cfg.wSync s.radio.history (wordCorrect s.radio.expected s.radio.bits)) then
        { s.frameJudged with radio := s.frameJudged.radio.enterHunt }
      else { s.frameJudged with radio := s.frameJudged.radio.dropBits 384 } := by
  have judged : s.frameJudged =
      if wordCorrect s.radio.expected s.radio.bits = true then
        State.judgeContents (bytesOfBits (s.radio.bits.take 384))
          { s with radio := s.radio.recorded s.cfg.wSync (wordCorrect s.radio.expected s.radio.bits) }
      else
        { s with
          radio := ({ s.radio.recorded s.cfg.wSync (wordCorrect s.radio.expected s.radio.bits) with
            alignErrors := min (s.radio.alignErrors + 1) 65535 } : Radio).settle false } := by
    unfold State.frameJudged State.judgeContents
    have line (r : Radio) (f : List Byte) : State.frameLineOk f { s with radio := r } = s.frameLineOk f := rfl
    simp only [line]
    generalize frameCrcOk _ = k, s.frameLineOk _ = o, wordCorrect _ _ = c
    cases c
    · rfl
    · cases k
      · rfl
      · cases o
        · rfl
        · cases h : s.radio.settled <;> simp [h, Radio.tally, Radio.recorded]
  rw [judged]
  rfl

/-! ## A good settled frame (R47) -/

section GoodSettled

variable (f : List Byte) (s : State)

/-- The state as published with a good settled frame, before its telegrams. -/
def State.refreshed : State :=
  State.publishRadio
    { s with radio := { s.radio with
      state := .ok, lastGood := some s.clock.localMs, unheard := (byteAt f 2).getLsbD 7 } }

theorem State.refreshed_radio :
    (s.refreshed f).radio =
      { s.radio with state := .ok, lastGood := some s.clock.localMs, unheard := (byteAt f 2).getLsbD 7 } :=
  State.publishRadio_radio _

theorem State.goodSettledFrame_radio :
    (s.goodSettledFrame f).radio =
      { s.radio with
        state := .ok, lastGood := some s.clock.localMs, unheard := (byteAt f 2).getLsbD 7
        ring := (s.goodSettledFrame f).radio.ring, offset := (s.goodSettledFrame f).radio.offset } := by
  obtain ⟨x, hx⟩ : ∃ x, x = s.refreshed f := ⟨_, rfl⟩
  obtain ⟨y, hy⟩ : ∃ y, y = x.deliver (decodeSlot x.cfg.carId (slice f 5 20)) := ⟨_, rfl⟩
  have delivered : s.goodSettledFrame f = y.deliver (decodeSlot y.cfg.carId (slice f 25 20)) := by
    rw [hy, hx]
    rfl
  rw [delivered, State.deliver_radio, hy, State.deliver_radio, hx, State.refreshed_radio]

theorem State.goodSettledFrame_entry (l : s.notice.alerts.length = 21) {k : AlertKind} (hk : ¬k.isRoute) :
    (s.goodSettledFrame f).notice.entry k =
      (s.notice.entry k).follow (Radio.shows { s.radio with state := .ok, unheard := (byteAt f 2).getLsbD 7 } k) := by
  have first := State.deliver_spares hk (s.refreshed f) (decodeSlot (s.refreshed f).cfg.carId (slice f 5 20))
  have both := first.trans (State.deliver_spares hk _ (decodeSlot
    ((s.refreshed f).deliver (decodeSlot (s.refreshed f).cfg.carId (slice f 5 20))).cfg.carId (slice f 25 20)))
  refine both.2.trans ((State.publishRadio_entry { s with radio := { s.radio with
    state := .ok, lastGood := some s.clock.localMs, unheard := (byteAt f 2).getLsbD 7 } } l k).trans ?_)
  cases k <;> rfl

theorem State.goodSettledFrame_length : (s.goodSettledFrame f).notice.alerts.length = s.notice.alerts.length := by
  have hk : ¬AlertKind.isRoute .trip := by unfold AlertKind.isRoute; decide
  have first := State.deliver_spares hk (s.refreshed f) (decodeSlot (s.refreshed f).cfg.carId (slice f 5 20))
  have both := first.trans (State.deliver_spares hk _ (decodeSlot
    ((s.refreshed f).deliver (decodeSlot (s.refreshed f).cfg.carId (slice f 5 20))).cfg.carId (slice f 25 20)))
  exact both.1.trans (State.publishRadio_length _)

/-- A frame whose two slots are empty delivers nothing. -/
theorem State.goodSettledFrame_empty (h : byteAt f 5 = 0#8 ∧ byteAt f 25 = 0#8) : s.goodSettledFrame f = s.refreshed f := by
  have none_ (car i : Nat) (hi : byteAt f i = 0#8) : decodeSlot car (slice f i 20) = .ignored :=
    decodeSlot_empty (by rw [byteAt_slice f (by decide)]; exact hi)
  unfold State.goodSettledFrame State.deliverFrame
  dsimp only
  rw [none_ _ _ h.1, none_ _ _ h.2]
  rfl

end GoodSettled

end Sys2Proof.Machine
end

section
/-! A frame in LOCKED judged whole, kept or lost (03 §3.2 to §3.6, log 51): settles O40. -/

namespace Sys2Proof.Machine

theorem Radio.dropBits_whole {r : Radio} (h : r.bits.length = 384) :
    r.dropBits 384 = { r with bits := [], searchPoint := r.searchPoint + 384 } := by
  unfold Radio.dropBits
  rw [List.drop_eq_nil_of_le (le_of_eq h)]

theorem Radio.tally_eq (c k o : Bool) (r : Radio) :
    r.tally c k o =
      { r with
        alignErrors := if c then r.alignErrors else min (r.alignErrors + 1) 65535
        crcErrors := if c && !k then min (r.crcErrors + 1) 65535 else r.crcErrors
        goodFrames := if c && k && o then min (r.goodFrames + 1) 4294967295 else r.goodFrames
        settling := (r.tally c k o).settling, settled := (r.tally c k o).settled } :=
  Radio.settle_eq ..

/-- The radio as the judgement counts it. -/
def State.tallied (s : State) : Radio :=
  let f := bytesOfBits (s.radio.bits.take 384)
  let c := wordCorrect s.radio.expected s.radio.bits
  (s.radio.recorded s.cfg.wSync c).tally c (frameCrcOk f) (s.frameLineOk f)

/-- Is the frame good, of the line in use, and the link settled (R47)? -/
def State.frameGood (s : State) : Bool :=
  let f := bytesOfBits (s.radio.bits.take 384)
  wordCorrect s.radio.expected s.radio.bits && frameCrcOk f && s.frameLineOk f && s.radio.settled

section Judged

variable (s : State)

theorem State.frameJudged_good (h : s.frameGood = true) :
    s.frameJudged = State.goodSettledFrame (bytesOfBits (s.radio.bits.take 384)) { s with radio := s.tallied } := if_pos h

theorem State.frameJudged_counted (h : ¬s.frameGood = true) : s.frameJudged = { s with radio := s.tallied } := if_neg h

theorem State.frameJudged_radio :
    s.frameJudged.radio =
      { s.tallied with
        state := s.frameJudged.radio.state, lastGood := s.frameJudged.radio.lastGood
        unheard := s.frameJudged.radio.unheard, ring := s.frameJudged.radio.ring
        offset := s.frameJudged.radio.offset } := by
  by_cases h : s.frameGood = true
  · have radio := congrArg State.radio (s.frameJudged_good h)
    rw [State.goodSettledFrame_radio] at radio
    rw [radio]
  · rw [s.frameJudged_counted h]

theorem State.tallied_bits : s.tallied.bits = s.radio.bits := (congrArg Radio.bits (Radio.tally_eq ..) :)

theorem State.tallied_sync : s.tallied.sync = s.radio.sync := (congrArg Radio.sync (Radio.tally_eq ..) :)

theorem State.frameJudged_bits : s.frameJudged.radio.bits = s.radio.bits :=
  (congrArg Radio.bits s.frameJudged_radio :).trans s.tallied_bits

end Judged

/-- A kept frame: the framer then waits for the next one. -/
theorem State.locked_kept {s : State} (locked : s.radio.sync = .locked) (whole : s.radio.bits.length = 384)
    (keeps : ¬s.cfg.m ≤
      wrongCount (historyAdd s.cfg.wSync s.radio.history (wordCorrect s.radio.expected s.radio.bits))) (n : Nat) :
    State.runFramer (n + 1) s =
      { s.frameJudged with
        radio := { s.frameJudged.radio with bits := [], searchPoint := s.frameJudged.radio.searchPoint + 384 } } := by
  have bits : s.frameJudged.radio.bits.length = 384 := by rw [State.frameJudged_bits]; exact whole
  have sync : s.frameJudged.radio.sync = .locked :=
    ((congrArg Radio.sync s.frameJudged_radio :).trans s.tallied_sync).trans locked
  rw [State.runFramer_judgeLocked locked (le_of_eq whole.symm), State.judgeLocked_eq, if_neg keeps,
    Radio.dropBits_whole bits]
  exact State.runFramer_locked sync (by show 0 < 384; decide)

/-- A frame that loses sync: the search begins one bit into it. -/
theorem State.locked_lost {s : State} (locked : s.radio.sync = .locked) (whole : s.radio.bits.length = 384)
    (lost : s.cfg.m ≤
      wrongCount (historyAdd s.cfg.wSync s.radio.history (wordCorrect s.radio.expected s.radio.bits))) (n : Nat) :
    s.frameJudged.RadioTo (State.runFramer (n + 1) s) ∧
    s.frameJudged.radio.enterHunt.Searched (State.runFramer (n + 1) s).radio ∧
    (s.frameJudged.notice.alerts.length = 21 → ∀ k,
      (State.runFramer (n + 1) s).notice.entry k = s.frameJudged.notice.entry k ∨
      (State.runFramer (n + 1) s).notice.entry k =
        (s.frameJudged.notice.entry k).follow (s.frameJudged.radio.enterHunt.shows k)) := by
  have fewer : s.frameJudged.radio.bits.tail.length = s.frameJudged.radio.bits.length - 1 := List.length_tail
  rw [State.frameJudged_bits] at fewer
  rw [State.runFramer_judgeLocked locked (le_of_eq whole.symm), State.judgeLocked_eq, if_pos lost]
  obtain ⟨only, search, entries⟩ := State.runFramer_searched n
    (s := { s.frameJudged with radio := s.frameJudged.radio.enterHunt }) rfl (by
      show s.frameJudged.radio.bits.tail.length < 768
      rw [State.frameJudged_bits]
      omega)
  exact ⟨(State.RadioTo.withRadio _ _).trans only, search, entries⟩

/-- The three conditions that a good settled frame publishes follow it, kept or lost. -/
theorem State.locked_entry {s : State} (locked : s.radio.sync = .locked) (whole : s.radio.bits.length = 384)
    (good : s.frameGood = true) (l : s.notice.alerts.length = 21) (n : Nat) {k : AlertKind}
    (hk : k = .radioDegraded ∨ k = .radioLost ∨ k = .valleyUnheard) :
    (State.runFramer (n + 1) s).notice.entry k =
      (s.notice.entry k).follow (Radio.shows { s.radio with
        state := .ok, unheard := (byteAt (bytesOfBits (s.radio.bits.take 384)) 2).getLsbD 7 } k) := by
  have spared : ¬k.isRoute := by rcases hk with rfl | rfl | rfl <;> (unfold AlertKind.isRoute; decide)
  have judged := s.frameJudged_good good
  have published : s.frameJudged.notice.entry k =
      (s.notice.entry k).follow (Radio.shows { s.radio with
        state := .ok, unheard := (byteAt (bytesOfBits (s.radio.bits.take 384)) 2).getLsbD 7 } k) := by
    rw [judged]
    refine (State.goodSettledFrame_entry _ { s with radio := s.tallied } l spared).trans ?_
    rcases hk with rfl | rfl | rfl <;> rfl
  by_cases keeps : s.cfg.m ≤
      wrongCount (historyAdd s.cfg.wSync s.radio.history (wordCorrect s.radio.expected s.radio.bits))
  · obtain ⟨-, -, entries⟩ := State.locked_lost locked whole keeps n
    have same : s.frameJudged.radio.enterHunt.shows k = Radio.shows { s.radio with
        state := .ok, unheard := (byteAt (bytesOfBits (s.radio.bits.take 384)) 2).getLsbD 7 } k := by
      have radio := congrArg State.radio judged
      rw [State.goodSettledFrame_radio] at radio
      rw [radio]
      rcases hk with rfl | rfl | rfl <;> rfl
    have length : s.frameJudged.notice.alerts.length = 21 := by
      rw [judged]
      exact (State.goodSettledFrame_length ..).trans l
    rcases entries length k with h | h
    · exact h.trans published
    · rw [h, same, published]
      exact AlertEntry.follow_twice ..
  · rw [State.locked_kept locked whole keeps]
    exact published

end Sys2Proof.Machine
end

section
/-! The judgement of frames, clause by clause (03 §3.2 to §3.6): settles O40. -/

namespace Sys2Proof.Machine

theorem historyAdd_eq (w : Nat) (h : List Bool) (c : Bool) : historyAdd w h c = (h ++ [c]).drop (h.length + 1 - w) := by
  unfold historyAdd
  dsimp only
  rw [show (h ++ [c]).length = h.length + 1 from List.length_append]

/-- What a judged frame in LOCKED leaves (R43, R45, R46, R47; log 51). -/
theorem State.locked_judged {s : State} (locked : s.radio.sync = .locked) (whole : s.radio.bits.length = 384) (n : Nat) :
    let f := bytesOfBits s.radio.bits
    let correct := (findFrame s.radio.bits).isSome = true ∧ findFrame s.radio.bits = s.radio.expected
    let history := (s.radio.history ++ [decide correct]).drop (s.radio.history.length + 1 - s.cfg.wSync)
    let keeps := (history.filter fun c => !c).length < s.cfg.m
    let crc := crc16 ((f.drop 2).take 43) = byteAt f 45 ++ byteAt f 46
    let ownLine := s.lineId ≠ 0 ∧ beAt f 3 2 = s.lineId
    let good := correct ∧ crc ∧ ownLine ∧ s.radio.settled = true
    let empty := byteAt f 5 = 0#8 ∧ byteAt f 25 = 0#8
    let next : Radio := { s.radio with
      bits := [], searchPoint := s.radio.searchPoint + 384, history := history
      expected := s.radio.expected.map fun k => (k + 1) % 8 }
    let u := State.runFramer (n + 1) s
    (¬good ∨ empty → s.RadioTo u) ∧
      (correct → keeps → ¬crc →
        u.radio = { next with
          crcErrors := min (s.radio.crcErrors + 1) 65535
          settling := if s.radio.settled then s.radio.settling else 0 }) ∧
      (correct → keeps → crc → ¬ownLine →
        u.radio = { next with settling := if s.radio.settled then s.radio.settling else 0 }) ∧
      (correct → keeps → crc → ownLine → s.radio.settled = false →
        u.radio = { next with
          goodFrames := min (s.radio.goodFrames + 1) 4294967295
          settling := s.radio.settling + 1, settled := decide (8 ≤ s.radio.settling + 1) }) ∧
      (good → keeps → empty →
        u.radio = { next with
          goodFrames := min (s.radio.goodFrames + 1) 4294967295
          state := .ok, lastGood := some s.clock.localMs, unheard := (byteAt f 2).getLsbD 7 }) ∧
      (good → s.notice.alerts.length = 21 → ∀ k, k = .radioDegraded ∨ k = .radioLost ∨ k = .valleyUnheard →
        u.notice.entry k = (s.notice.entry k).follow
          (Radio.shows { s.radio with state := .ok, unheard := (byteAt f 2).getLsbD 7 } k)) ∧
      (¬good → keeps → u.notice = s.notice) ∧
      (¬correct → keeps →
        u.radio = { next with
          alignErrors := min (s.radio.alignErrors + 1) 65535
          settling := if s.radio.settled then s.radio.settling else 0 }) ∧
      (¬keeps →
        u.radio.sync ≠ .locked ∧ u.radio.settled = false ∧ u.radio.settling = 0 ∧
        s.radio.searchPoint + 1 ≤ u.radio.searchPoint ∧
        u.radio.huntRestarts = min (s.radio.huntRestarts + 1) 255 ∧
        u.radio.alignErrors = (if correct then s.radio.alignErrors else min (s.radio.alignErrors + 1) 65535) ∧
        u.radio.crcErrors = (if correct ∧ ¬crc then min (s.radio.crcErrors + 1) 65535 else s.radio.crcErrors) ∧
        u.radio.goodFrames =
          (if correct ∧ crc ∧ ownLine then min (s.radio.goodFrames + 1) 4294967295 else s.radio.goodFrames) ∧
        (good →
          u.radio.state = .ok ∧ u.radio.lastGood = some s.clock.localMs ∧
          u.radio.unheard = (byteAt f 2).getLsbD 7) ∧
        (¬good →
          u.radio.state = s.radio.state ∧ u.radio.lastGood = s.radio.lastGood ∧
          u.radio.unheard = s.radio.unheard)) := by
  intro f correct history keeps crc ownLine good empty next u
  have taken : s.radio.bits.take 384 = s.radio.bits := List.take_of_length_le (le_of_eq whole)
  have bytes : bytesOfBits (s.radio.bits.take 384) = f := by rw [taken]
  have length : f.length = 48 := bytesOfBits_length (k := 48) whole
  have hc : wordCorrect s.radio.expected s.radio.bits = decide correct :=
    Bool.eq_iff_iff.2 ((wordCorrect_iff ..).trans decide_eq_true_iff.symm)
  have hk : frameCrcOk f = decide crc := Bool.eq_iff_iff.2 ((frameCrcOk_iff length).trans decide_eq_true_iff.symm)
  have ho : s.frameLineOk f = decide ownLine :=
    Bool.eq_iff_iff.2 ((State.frameLineOk_iff ..).trans decide_eq_true_iff.symm)
  have record : historyAdd s.cfg.wSync s.radio.history (wordCorrect s.radio.expected s.radio.bits) = history := by
    rw [hc, historyAdd_eq]
  have tally : s.tallied = ({ s.radio with
      history := history, expected := s.radio.expected.map fun k => (k + 1) % 8 } : Radio).tally
        (decide correct) (decide crc) (decide ownLine) := by
    unfold State.tallied Radio.recorded
    dsimp only
    rw [record, bytes, hc, hk, ho]
    rfl
  have isGood : s.frameGood = true ↔ good := by
    unfold State.frameGood
    dsimp only
    rw [bytes, hc, hk, ho]
    simp only [Bool.and_eq_true, decide_eq_true_iff, and_assoc]
    rfl
  have kept (h : keeps) : u = { s.frameJudged with
      radio := { s.frameJudged.radio with bits := [], searchPoint := s.frameJudged.radio.searchPoint + 384 } } :=
    State.locked_kept locked whole (by rw [record]; exact Nat.not_le.2 h) n
  have lost (h : ¬keeps) := State.locked_lost locked whole (by rw [record]; exact Nat.not_lt.1 h) n
  have counted (h : ¬good) : s.frameJudged = { s with radio := s.tallied } := s.frameJudged_counted (mt isGood.1 h)
  have refreshed (h : good) : s.frameJudged = State.goodSettledFrame f { s with radio := s.tallied } :=
    (s.frameJudged_good (isGood.2 h)).trans (by rw [bytes])
  have unsettled (h : ¬good) (k : keeps) : u.radio = { s.tallied with bits := [], searchPoint := s.tallied.searchPoint + 384 } := by
    rw [kept k, counted h]
  have emptied (h : empty) (g : good) : s.frameJudged = State.refreshed f { s with radio := s.tallied } :=
    (refreshed g).trans (State.goodSettledFrame_empty _ _ h)
  refine ⟨fun h => ?_, fun c k nk => ?_, fun c k hk no => ?_, fun c k hk o unset => ?_, fun g k e => ?_, fun g l k hk => ?_,
    fun g k => ?_, fun nc k => ?_, fun nk => ?_⟩
  · have judged : s.RadioTo s.frameJudged := by
      by_cases g : good
      · rw [emptied (h.resolve_left (not_not.2 g)) g]
        exact (State.RadioTo.withRadio s _).trans (State.RadioTo.publish _)
      · rw [counted g]
        exact .withRadio ..
    by_cases k : keeps
    · rw [kept k]
      exact judged.trans (.withRadio ..)
    · exact judged.trans (lost k).1
  · rw [unsettled (fun g => nk g.2.1) k, tally, decide_eq_true c, decide_eq_false nk]
    exact congrArg (fun r : Radio => { r with bits := [], searchPoint := r.searchPoint + 384 }) (Radio.settle_false _)
  · rw [unsettled (fun g => no g.2.2.1) k, tally, decide_eq_true c, decide_eq_true hk, decide_eq_false no]
    exact congrArg (fun r : Radio => { r with bits := [], searchPoint := r.searchPoint + 384 }) (Radio.settle_false _)
  · have tallied : s.tallied = { s.radio with
        history := history, expected := s.radio.expected.map fun k => (k + 1) % 8
        goodFrames := min (s.radio.goodFrames + 1) 4294967295, settling := s.radio.settling + 1
        settled := decide (8 ≤ s.radio.settling + 1) } := by
      rw [tally, decide_eq_true c, decide_eq_true hk, decide_eq_true o]
      exact (Radio.settle_true _).trans (if_neg (Bool.eq_false_iff.1 unset))
    rw [unsettled (fun g => nomatch unset.symm.trans g.2.2.2) k, tallied]
  · have tallied : s.tallied = { s.radio with
        history := history, expected := s.radio.expected.map fun k => (k + 1) % 8
        goodFrames := min (s.radio.goodFrames + 1) 4294967295 } := by
      rw [tally, decide_eq_true g.1, decide_eq_true g.2.1, decide_eq_true g.2.2.1]
      exact (Radio.settle_true _).trans (if_pos g.2.2.2)
    rw [kept k, emptied e g, State.refreshed_radio, tallied]
  · exact (State.locked_entry locked whole (isGood.2 g) l n hk).trans (by rw [bytes])
  · rw [kept k, counted g]
  · rw [unsettled (fun g => nc g.1) k, tally, decide_eq_false nc]
    exact congrArg (fun r : Radio => { r with bits := [], searchPoint := r.searchPoint + 384 }) (Radio.settle_false _)
  · obtain ⟨-, ⟨radio, out, further⟩, -⟩ := lost nk
    have judged := s.frameJudged_radio
    have counts := tally.trans (Radio.tally_eq ..)
    have ofTally {α : Type} (p : Radio → α) (stays : p u.radio = p s.frameJudged.radio)
        (same : p s.frameJudged.radio = p s.tallied) := stays.trans (same.trans (congrArg p counts))
    refine ⟨out, (congrArg Radio.settled radio :), (congrArg Radio.settling radio :), ?_, ?_, ?_, ?_, ?_, fun g => ?_,
      fun g => ?_⟩
    · have from_ : s.frameJudged.radio.searchPoint = s.radio.searchPoint :=
        (congrArg Radio.searchPoint judged :).trans (congrArg Radio.searchPoint counts :)
      exact from_ ▸ further
    · have from_ : s.frameJudged.radio.huntRestarts = s.radio.huntRestarts :=
        (congrArg Radio.huntRestarts judged :).trans (congrArg Radio.huntRestarts counts :)
      exact from_ ▸ (congrArg Radio.huntRestarts radio :)
    · refine (ofTally Radio.alignErrors (congrArg Radio.alignErrors radio :) (congrArg Radio.alignErrors judged :)).trans ?_
      simp only [decide_eq_true_eq]
    · refine (ofTally Radio.crcErrors (congrArg Radio.crcErrors radio :) (congrArg Radio.crcErrors judged :)).trans ?_
      simp only [Bool.and_eq_true, Bool.not_eq_true', decide_eq_true_eq, decide_eq_false_iff_not]
    · refine (ofTally Radio.goodFrames (congrArg Radio.goodFrames radio :) (congrArg Radio.goodFrames judged :)).trans ?_
      simp only [Bool.and_eq_true, decide_eq_true_eq, and_assoc]
    · have taken := (congrArg State.radio (refreshed g)).trans (State.goodSettledFrame_radio ..)
      exact ⟨(congrArg Radio.state radio :).trans (congrArg Radio.state taken :),
        (congrArg Radio.lastGood radio :).trans (congrArg Radio.lastGood taken :),
        (congrArg Radio.unheard radio :).trans (congrArg Radio.unheard taken :)⟩
    · have stays : s.frameJudged.radio = s.tallied := congrArg State.radio (counted g)
      rw [stays] at radio
      exact ⟨(congrArg Radio.state radio :).trans (congrArg Radio.state counts :),
        (congrArg Radio.lastGood radio :).trans (congrArg Radio.lastGood counts :),
        (congrArg Radio.unheard radio :).trans (congrArg Radio.unheard counts :)⟩

/-- Settles O40: the bits of a frame in LOCKED, its judgement there, and that of a word in CONFIRM. -/
theorem lockedFramesAreJudged : Obligations.LockedFramesAreJudged := by
  refine ⟨?_, ?_, ?_⟩
  · intro t captured b s locked short received clock ago
    have joins (capture : Time) := congrArg State.finish (State.receiveBit_locked (s := s.advance t) locked short capture b)
    exact ⟨congrArg Host.Outcome.next (joins _), congrArg Host.Outcome.next (joins _),
      congrArg Host.Outcome.next (joins _), congrArg Host.Outcome.next (joins _)⟩
  · intro t captured b s empty_ locked many bits f correct history keeps crc ownLine good empty next
    obtain ⟨capture, run⟩ := State.exec_frameCompletion empty_ t captured b
    have outside : s.radio.sync ≠ .hunt := by rw [locked]; exact nofun
    have whole : bits.length = 384 := (List.length_append ..).trans (congrArg Nat.succ many)
    rw [State.receiveBit_whole (s := s.advance t) outside (le_of_eq many.symm)] at run
    obtain ⟨only, badCrc, otherLine, settling, settled, shown, quiet, wrong, lost⟩ :=
      State.locked_judged (s := { s.advance t with radio := { s.radio with bits := bits } }) locked whole
        (4 * bits.length + 3)
    refine ⟨_, run, fun h => ?_, ?_⟩
    · exact ((State.RadioTo.withRadio (s.advance t) _).trans (only h)).granted
    · rw [State.grantTransmitter_radio, State.grantTransmitter_alerts]
      refine ⟨badCrc, otherLine, settling, settled, fun g l => ?_, fun g k => congrArg Notice.alerts (quiet g k), wrong, lost⟩
      have entry (k : AlertKind) (hk : k = .radioDegraded ∨ k = .radioLost ∨ k = .valleyUnheard) :=
        (State.grantTransmitter_entry _ k).trans (shown g l k hk)
      exact ⟨entry _ (.inl rfl), entry _ (.inr (.inl rfl)), entry _ (.inr (.inr rfl))⟩
  · intro t captured b s empty confirm few bits word correct
    obtain ⟨capture, run⟩ := State.exec_frameCompletion empty t captured b
    have outside : s.radio.sync ≠ .hunt := by rw [confirm]; exact nofun
    have longer : bits.length = s.radio.bits.length + 1 := List.length_append ..
    rw [State.receiveBit_whole (s := s.advance t) outside (by show 383 ≤ s.radio.bits.length; omega)] at run
    obtain ⟨only, first, second, wrong⟩ :=
      State.confirm_judged (s := { s.advance t with radio := { s.radio with bits := bits } }) confirm
        (by dsimp only; omega) (4 * bits.length + 3)
    refine ⟨_, run, ((State.RadioTo.withRadio (s.advance t) _).trans only).granted, ?_⟩
    rw [State.grantTransmitter_radio]
    exact ⟨first, second, wrong⟩

end Sys2Proof.Machine
end

section
/-! A good settled frame delivers its telegrams, and the telegram of a slot (03 §3.6, §3.7, 10 §10.7): parts of O43. -/

namespace Sys2Proof.Machine

/-! ## Delivery by a judged frame (R47, R54) -/

/-- What a good settled frame publishes, and the frame position past it. -/
def State.delivering (f : List Byte) (s : State) : State := (s.refreshed f).dropBits 384

theorem State.deliver_carId (m : Telegram) (s : State) : (s.deliver m).cfg = s.cfg :=
  (congrArg State.cfg (State.eq_of_outsideRadio (State.deliver_keeps m s)) :)

/-- The frame position may be moved before the telegrams are delivered. -/
theorem State.goodSettledFrame_dropBits (f : List Byte) (s : State) :
    (s.goodSettledFrame f).dropBits 384 =
      State.deliver (decodeSlot s.cfg.carId ((f.drop 25).take 20))
        (State.deliver (decodeSlot s.cfg.carId ((f.drop 5).take 20)) (s.delivering f)) := by
  obtain ⟨n, published⟩ := State.RadioTo.publish { s with radio := { s.radio with
    state := .ok, lastGood := some s.clock.localMs, unheard := (byteAt f 2).getLsbD 7 } }
  have cfg : (s.refreshed f).cfg = s.cfg := by
    obtain ⟨m, published⟩ := published
    exact (congrArg State.cfg published :)
  have delivered : s.goodSettledFrame f =
      State.deliver (decodeSlot ((s.refreshed f).deliver (decodeSlot (s.refreshed f).cfg.carId (slice f 5 20))).cfg.carId
        (slice f 25 20)) ((s.refreshed f).deliver (decodeSlot (s.refreshed f).cfg.carId (slice f 5 20))) := rfl
  rw [delivered, ← State.deliver_dropBits, ← State.deliver_dropBits, State.deliver_carId, cfg]
  rfl

/-- A good settled frame in LOCKED, kept or lost: its telegrams are delivered (log 51). -/
theorem State.locked_delivers {s : State} (locked : s.radio.sync = .locked) (whole : s.radio.bits.length = 384)
    (good : s.frameGood = true) (n : Nat) :
    let f := bytesOfBits (s.radio.bits.take 384)
    let y := State.deliver (decodeSlot s.cfg.carId ((f.drop 25).take 20))
      (State.deliver (decodeSlot s.cfg.carId ((f.drop 5).take 20)) (State.delivering f { s with radio := s.tallied }))
    let keeps := ¬s.cfg.m ≤
      wrongCount (historyAdd s.cfg.wSync s.radio.history (wordCorrect s.radio.expected s.radio.bits))
    let u := State.runFramer (n + 1) s
    (keeps → u = y) ∧ (¬keeps → u.route = y.route ∧ u.radio.ring = y.radio.ring ∧ u.radio.offset = y.radio.offset) := by
  intro f y keeps u
  have delivered : s.frameJudged.dropBits 384 = y := by
    rw [s.frameJudged_good good]
    exact State.goodSettledFrame_dropBits _ _
  rw [← delivered]
  refine ⟨fun k => ?_, fun k => ?_⟩
  · have bits : s.frameJudged.radio.bits.length = 384 := by rw [State.frameJudged_bits]; exact whole
    refine (State.locked_kept locked whole k n).trans ?_
    unfold State.dropBits
    rw [Radio.dropBits_whole bits]
  · obtain ⟨⟨r, m, only⟩, ⟨radio, -⟩, -⟩ := State.locked_lost locked whole (not_not.1 k) n
    exact ⟨(congrArg State.route only :), (congrArg Radio.ring radio :), (congrArg Radio.offset radio :)⟩

/-! ## The telegram of a slot (R54, 10 §10.7) -/

theorem getLsbD_zero_iff (x : Byte) : x.getLsbD 0 = true ↔ x.toNat % 2 = 1 := by
  rw [BitVec.getLsbD, Nat.testBit_zero, decide_eq_true_iff]

theorem decodeAuthority_eq (b : List Byte) :
    decodeAuthority b =
      if (byteAt b 3).toNat ≤ 1 ∧ (byteAt b 7).toNat ≤ 3 ∧ ((byteAt b 7).toNat % 2 = 1 → beAt b 8 2 ≤ 1500) then
        .authority
          { seq := byteAt b 2, dir := if (byteAt b 3).toNat = 0 then .up else .down, endPos := beAt b 4 3
            release := if (byteAt b 7).toNat % 2 = 1 then some (beAt b 8 2) else none
            expiry := if 2 ≤ (byteAt b 7).toNat then some (timeAt b 10) else none }
      else .malformed none := by
  have second (h : (byteAt b 7).toNat ≤ 3) : (byteAt b 7).getLsbD 1 = true ↔ 2 ≤ (byteAt b 7).toNat := by
    rw [BitVec.getLsbD]
    generalize (byteAt b 7).toNat = x at h ⊢
    interval_cases x <;> decide
  unfold decodeAuthority
  simp only [getLsbD_zero_iff]
  by_cases ok : (byteAt b 3).toNat ≤ 1 ∧ (byteAt b 7).toNat ≤ 3 ∧ ((byteAt b 7).toNat % 2 = 1 → beAt b 8 2 ≤ 1500)
  · obtain ⟨dir, presence, release⟩ := ok
    refine (if_neg ?_).trans (Eq.trans ?_ (if_pos ⟨dir, presence, release⟩).symm)
    · rintro (h | h | ⟨h, fast⟩)
      · omega
      · omega
      · exact absurd (release h) (by omega)
    · simp only [second presence]
  · refine (if_pos ?_).trans (if_neg ok).symm
    by_contra none_
    simp only [not_or, not_and, Nat.not_lt, Nat.not_le] at none_
    exact ok ⟨none_.1, by omega, none_.2.2⟩

theorem decodeSet_eq (b : List Byte) :
    decodeSet b =
      if (byteAt b 2).toNat = 0 then .malformed none
      else if (byteAt b 11).toNat ≤ 1 then
        .set
          { id := (byteAt b 2).toNat, fromPos := beAt b 3 3, toPos := beAt b 6 3, limit := beAt b 9 2
            expiry := if (byteAt b 11).toNat = 1 then some (timeAt b 12) else none }
      else .malformed (some (byteAt b 2).toNat) := by
  unfold decodeSet
  simp only [getLsbD_zero_iff]
  by_cases id : (byteAt b 2).toNat = 0
  · rw [if_pos id, if_pos id]
  · rw [if_neg id, if_neg id]
    by_cases presence : (byteAt b 11).toNat ≤ 1
    · have one : (byteAt b 11).toNat % 2 = 1 ↔ (byteAt b 11).toNat = 1 := by omega
      rw [if_neg (by omega), if_pos presence]
      simp only [one]
    · rw [if_pos (by omega), if_neg presence]

theorem decodeHold_eq (b : List Byte) :
    decodeHold b =
      if 1 ≤ (byteAt b 2).toNat ∧ (byteAt b 2).toNat ≤ 63 ∧ (byteAt b 3).toNat ≤ 1 then
        .hold (byteAt b 2).toNat (decide ((byteAt b 3).toNat = 1))
      else .malformed none := by
  unfold decodeHold
  dsimp only
  by_cases ok : 1 ≤ (byteAt b 2).toNat ∧ (byteAt b 2).toNat ≤ 63 ∧ (byteAt b 3).toNat ≤ 1
  · rw [if_neg (by omega), if_pos ok]
    rfl
  · rw [if_pos (by omega), if_neg ok]

theorem decodeNotice_eq (b : List Byte) :
    decodeNotice b =
      if (byteAt b 2).toNat ≤ 16 ∧ ∀ x ∈ (b.drop 3).take (byteAt b 2).toNat, 32 ≤ x.toNat ∧ x.toNat ≤ 126 then
        .notice ((b.drop 3).take (byteAt b 2).toNat)
      else .malformed none := by
  have odd : ((slice b 3 (byteAt b 2).toNat).any fun c => c.toNat < 0x20 || 0x7E < c.toNat) = true ↔
      ¬∀ x ∈ (b.drop 3).take (byteAt b 2).toNat, 32 ≤ x.toNat ∧ x.toNat ≤ 126 := by
    simp only [List.any_eq_true, Bool.or_eq_true, decide_eq_true_iff, not_forall, exists_prop, not_and_or, Nat.not_le]
    rfl
  unfold decodeNotice
  dsimp only
  by_cases ok : (byteAt b 2).toNat ≤ 16 ∧ ∀ x ∈ (b.drop 3).take (byteAt b 2).toNat, 32 ≤ x.toNat ∧ x.toNat ≤ 126
  · refine (if_neg ?_).trans (if_pos ok).symm
    rintro (h | h)
    · exact absurd ok.1 (Nat.not_le.2 h)
    · exact odd.1 h ok.2
  · exact (if_pos ((not_and_or.1 ok).imp Nat.not_le.1 odd.2)).trans (if_neg ok).symm

theorem decodeSlot_eq (car : Nat) (slot : List Byte) :
    decodeSlot car slot =
      if (byteAt slot 0).toNat = 0 ∨ ((byteAt slot 1).toNat ≠ 0 ∧ (byteAt slot 1).toNat ≠ car) then .ignored
      else if (byteAt slot 0).toNat = 1 then decodeAuthority slot
      else if (byteAt slot 0).toNat = 2 then decodeSet slot
      else if (byteAt slot 0).toNat = 3 then
        (if (byteAt slot 2).toNat = 0 then .malformed none else .lift (byteAt slot 2).toNat)
      else if (byteAt slot 0).toNat = 4 then decodeHold slot
      else if (byteAt slot 0).toNat = 5 then .valleyTime (timeAt slot 2)
      else if (byteAt slot 0).toNat = 6 then decodeNotice slot
      else .malformed none := by
  unfold decodeSlot
  dsimp only
  by_cases kind : (byteAt slot 0).toNat = 0
  · rw [if_pos kind, if_pos (.inl kind)]
  · rw [if_neg kind]
    by_cases car_ : (byteAt slot 1).toNat ≠ 0 ∧ (byteAt slot 1).toNat ≠ car
    · rw [if_pos car_, if_pos (.inr car_)]
    · rw [if_neg car_, if_neg (not_or.2 ⟨kind, car_⟩)]

end Sys2Proof.Machine
end

section
/-! Each telegram has its effect (04 §4.1 to §4.5, 03 §3.6 to §3.8): settles O43. -/

namespace Sys2Proof.Machine

/-! ## The acknowledgement ring and the limits (R58, R64, R66) -/

theorem State.acknowledgeId_eq (id : Nat) (accepted : Bool) (s : State) :
    s.acknowledgeId id accepted =
      let others := s.radio.ring.filter fun x => decide (x.id ≠ id)
      { s with radio := { s.radio with
          ring := (if others.length < 4 then others else others.tail) ++ [⟨id, accepted⟩] } } := by
  have test : (fun x : AckEntry => x.id != id) = fun x => decide (x.id ≠ id) := by
    funext x
    rw [Bool.eq_iff_iff, bne_iff_ne, decide_eq_true_iff]
  unfold State.acknowledgeId ringEnter
  dsimp only
  rw [test]
  rfl

/-- A record is turned away when its expiry is reached, or cannot be judged (R66, R69). -/
theorem expiryLate_iff (s : State) (e : Option Time) :
    (e.isSome && (s.valleyNow.isNone || expiryReached s.valleyNow e)) = true ↔
      ∃ x, e = some x ∧ ∀ o, s.radio.offset = some o → (s.clock.localMs + o - x).toNat < 2 ^ 31 := by
  unfold expiryReached State.valleyNow
  cases s.radio.offset <;> cases e <;> simp [Time.atOrAfter]

/-! ## AUTHORITY (R65, R66, R67) -/

section Authority

variable {s : State} {a h : Authority}

theorem State.takeAuthority_again (held : s.route.authority = some h) (same : a.seq = h.seq) : s.takeAuthority a = s := by
  have cls : seqClass s.route.authority a.seq = .again := by
    rw [held, same]
    exact if_pos (BitVec.sub_self _)
  unfold State.takeAuthority
  rw [cls]

theorem State.takeAuthority_older (held : s.route.authority = some h) (old : 128 ≤ (a.seq - h.seq).toNat) :
    s.takeAuthority a = s.post (.authority a.seq (clampToLine s.lineEnd a.endPos) false) := by
  have cls : seqClass s.route.authority a.seq = .older := by
    rw [held]
    refine (if_neg fun zero => ?_).trans (if_neg (by omega))
    rw [zero] at old
    exact absurd old (by decide)
  unfold State.takeAuthority
  rw [cls]

theorem seqClass_new (new : s.route.authority = none ∨
    ∃ h, s.route.authority = some h ∧ 1 ≤ (a.seq - h.seq).toNat ∧ (a.seq - h.seq).toNat ≤ 127) :
    seqClass s.route.authority a.seq = .new := by
  rcases new with held | ⟨h, held, above, below⟩
  · rw [held]
    rfl
  · rw [held]
    refine (if_neg fun zero => ?_).trans (if_pos below)
    rw [zero] at above
    exact absurd above (by decide)

theorem State.takeAuthority_new (new : seqClass s.route.authority a.seq = .new) :
    s.takeAuthority a =
      if (a.expiry.isSome && (s.valleyNow.isNone || expiryReached s.valleyNow a.expiry)) = true then
        s.post (.authority a.seq (clampToLine s.lineEnd a.endPos) false)
      else
        State.post (.authority a.seq (clampToLine s.lineEnd a.endPos) true)
          { s with route := { s.route with authority := some { a with endPos := clampToLine s.lineEnd a.endPos } } } := by
  unfold State.takeAuthority
  rw [new]

end Authority

/-! ## RESTRICTION SET and LIFT (R69 to R74) -/

section Restrictions

variable {s : State} {r : Restriction}

theorem restrictionRefused_iff (s : State) (r : Restriction) :
    restrictionRefused s.valleyNow r = true ↔
      r.toPos ≤ r.fromPos ∨
      ∃ x, r.expiry = some x ∧ ∀ o, s.radio.offset = some o → (s.clock.localMs + o - x).toNat < 2 ^ 31 := by
  rw [← expiryLate_iff]
  unfold restrictionRefused
  rw [Bool.or_eq_true, Bool.not_eq_true', decide_eq_false_iff_not, Nat.not_lt]

theorem State.setRestriction_refused (h : restrictionRefused s.valleyNow (clampRestriction s.lineEnd r) = true) :
    s.setRestriction r = (false, s.raise .restrictionRefused) := if_pos h

/-- Is there room for a restriction: an entry of its id, or fewer than 16 (R70, R72)? -/
theorem restrictionRoom_iff (l : List Restriction) (id : Nat) :
    (l.any (fun x => x.id == id) || decide (l.length < 16)) = true ↔ (∃ x ∈ l, x.id = id) ∨ l.length < 16 := by
  simp only [Bool.or_eq_true, List.any_eq_true, beq_iff_eq, decide_eq_true_iff]

theorem State.setRestriction_placed (h : ¬restrictionRefused s.valleyNow (clampRestriction s.lineEnd r) = true)
    (room : (∃ x ∈ s.route.restrictions, x.id = r.id) ∨ s.route.restrictions.length < 16) :
    s.setRestriction r = (true, s.placeRestriction (clampRestriction s.lineEnd r)) :=
  (if_neg h).trans (if_pos ((restrictionRoom_iff ..).2 room))

theorem State.setRestriction_overflow (h : ¬restrictionRefused s.valleyNow (clampRestriction s.lineEnd r) = true)
    (full : ¬((∃ x ∈ s.route.restrictions, x.id = r.id) ∨ s.route.restrictions.length < 16)) :
    s.setRestriction r = (false, s.overflow (min r.limit 15000)) :=
  (if_neg h).trans (if_neg (mt (restrictionRoom_iff ..).1 full))

/-- The two reports of an overflow: the refusal, then the cap (R72). -/
theorem State.overflow_bodies (limit : Nat) (l : s.notice.alerts.length = 21) (q : s.notice.queue.length ≤ 22)
    (unlatched : (s.notice.entry .restrictionRefused).latched = false)
    (idle : s.notice.entry .restrictionCap = ⟨false, false, false, 0⟩) :
    ∃ forced refused both,
      (s.overflow limit).notice.bodies =
        s.notice.bodies ++
          [.alert .restrictionRefused .event forced refused, .alert .restrictionCap .condition false both] := by
  obtain ⟨m, hm⟩ : ∃ m, m = s.notice.latch s.clock.now .restrictionRefused := ⟨_, rfl⟩
  have length : m.alerts.length = 21 := by rw [hm, Notice.latch_length, l]
  have cap : m.entry .restrictionCap = ⟨false, false, false, 0⟩ := by
    rw [hm, Notice.latch_entry_other _ _ (by decide), idle]
  have first := Notice.latch_queue (n := s.notice) s.clock.now .restrictionRefused (by omega)
  rw [← hm, unlatched] at first
  have room : m.queue.length < 24 := by
    rw [first]
    simp only [Bool.false_eq_true, if_false, List.length_append, List.length_singleton]
    omega
  have second := (Notice.latch_setEntry length room s.clock.now .restrictionCap ⟨true, false, false, 0⟩).2
  have published : (s.overflow limit).notice =
      (m.setEntry .restrictionCap ⟨true, false, false, 0⟩).latch s.clock.now .restrictionCap := by
    have rise := Notice.setActive_rise (n := m) (k := .restrictionCap) (by rw [cap]) (by rw [cap]) s.clock.now
    rw [cap] at rise
    rw [← rise, hm]
    rfl
  refine ⟨(s.notice.entry .restrictionRefused).forced, m.latchedSet,
    ((m.setEntry .restrictionCap ⟨true, false, false, 0⟩).latch s.clock.now .restrictionCap).latchedSet, ?_⟩
  rw [Notice.bodies, published, second, if_neg Bool.false_ne_true, first, if_neg Bool.false_ne_true]
  simp only [List.map_append, List.append_assoc]
  rfl

theorem withoutId_eq (id : Nat) (l : List Restriction) : withoutId id l = l.filter fun x => decide (x.id ≠ id) := by
  unfold withoutId
  congr 1
  funext x
  rw [Bool.eq_iff_iff, bne_iff_ne, decide_eq_true_iff]

theorem State.liftRestriction_unknown {id : Nat} (h : ∀ x ∈ s.route.restrictions, x.id ≠ id) : s.liftRestriction id = s := by
  have all : withoutId id s.route.restrictions = s.route.restrictions := by
    rw [withoutId_eq]
    exact List.filter_eq_self.2 fun x hx => decide_eq_true (h x hx)
  unfold State.liftRestriction
  dsimp only
  rw [all, if_neg (Nat.lt_irrefl _)]
  rfl

theorem State.liftRestriction_known {id : Nat} (h : ∃ x ∈ s.route.restrictions, x.id = id) :
    s.liftRestriction id =
      State.setCondition .restrictionCap false
        { s with route := { s.route with
          restrictions := withoutId id s.route.restrictions, cap := none, version := s.route.version + 1 } } := by
  obtain ⟨x, hx, same⟩ := h
  have fewer : (withoutId id s.route.restrictions).length < s.route.restrictions.length := by
    rw [withoutId_eq]
    exact List.length_filter_lt_length_iff_exists.2 ⟨x, hx, by simp [same]⟩
  unfold State.liftRestriction
  dsimp only
  rw [if_pos fewer]
  rfl

end Restrictions

/-! ## VALLEY TIME (R52, R64) -/

/-- The state in which the expiries are tested. -/
def State.retimed (new : Time) (s : State) : State :=
  { s with
    radio := { s.radio with offset := some new }
    notice := match s.radio.offset with
      | none => s.notice
      | some o => if isJump o new then s.notice.latch s.clock.now .valleyTimeJump else s.notice }

theorem State.takeValleyTime_eq (v : Time) (s : State) :
    s.takeValleyTime v = (s.retimed (v - s.radio.captureMs - BitVec.ofNat 32 s.cfg.transit)).ageRecords := by
  unfold State.takeValleyTime State.retimed
  refine congrArg State.ageRecords ?_
  dsimp only
  cases s.radio.offset with
  | none => rfl
  | some o =>
    dsimp only
    split <;> rfl

theorem isJump_iff (held new : Time) : isJump held new = true ↔ 500 < (new - held).toInt.natAbs := decide_eq_true_iff

theorem State.retimed_jump {s : State} {new : Time} (h : ∃ o, s.radio.offset = some o ∧ 500 < (new - o).toInt.natAbs) :
    (s.retimed new).notice = s.notice.latch s.clock.now .valleyTimeJump := by
  obtain ⟨o, held, far⟩ := h
  unfold State.retimed
  rw [held]
  exact if_pos ((isJump_iff ..).2 far)

theorem State.retimed_near {s : State} {new : Time} (h : ¬∃ o, s.radio.offset = some o ∧ 500 < (new - o).toInt.natAbs) :
    (s.retimed new).notice = s.notice := by
  unfold State.retimed
  cases held : s.radio.offset with
  | none => rfl
  | some o => exact if_neg fun far => h ⟨o, held, (isJump_iff ..).1 far⟩

end Sys2Proof.Machine
end

section
/-! The delivered telegrams (03 §3.6 to §3.8, 04 §4.1 to §4.5): settles O43. -/

namespace Sys2Proof.Machine

/-- Part of O43: a good settled frame delivers its telegrams. -/
theorem goodFrames_deliver (t captured : Time) (b : Bool) (s : State) (locked : s.radio.sync = .locked)
    (many : s.radio.bits.length = 383) (settled : s.radio.settled = true) :
    let bits := s.radio.bits ++ [b]
    let f := bytesOfBits bits
    let history := (s.radio.history ++ [true]).drop (s.radio.history.length + 1 - s.cfg.wSync)
    let keeps := (history.filter fun c => !c).length < s.cfg.m
    (findFrame bits).isSome = true → findFrame bits = s.radio.expected →
    crc16 ((f.drop 2).take 43) = byteAt f 45 ++ byteAt f 46 → s.lineId ≠ 0 → beAt f 3 2 = s.lineId →
    ∃ x : State,
      let y := State.deliver (decodeSlot s.cfg.carId ((f.drop 25).take 20))
        (State.deliver (decodeSlot s.cfg.carId ((f.drop 5).take 20)) x)
      x = { s.advance t with
            radio := { s.radio with
              bits := [], searchPoint := s.radio.searchPoint + 384, history := history
              expected := s.radio.expected.map fun k => (k + 1) % 8
              goodFrames := min (s.radio.goodFrames + 1) 4294967295
              state := .ok, lastGood := some (s.clock.advance t).localMs, unheard := (byteAt f 2).getLsbD 7 }
            notice := x.notice } ∧
      (keeps → exec (.frameCompletion t captured [b]) s = .next y.finish) ∧
      (¬keeps → s.link.buffer = [] →
        ∃ u : State,
          exec (.frameCompletion t captured [b]) s = .next u ∧ u.route = y.route ∧ u.radio.ring = y.radio.ring ∧
          u.radio.offset = y.radio.offset) := by
  intro bits f history keeps found number crc line own
  obtain ⟨w, hw⟩ : ∃ w : State, w = { s.advance t with radio := { s.radio with bits := bits } } := ⟨_, rfl⟩
  have length : bits.length = 384 := (List.length_append ..).trans (congrArg Nat.succ many)
  have whole : w.radio.bits.length = 384 := by
    rw [hw]
    exact length
  have taken : w.radio.bits.take 384 = bits := by
    rw [List.take_of_length_le (le_of_eq whole), hw]
  have sync : w.radio.sync = .locked := by rw [hw]; exact locked
  have correct : wordCorrect w.radio.expected w.radio.bits = true := by
    rw [hw]
    exact (wordCorrect_iff ..).2 ⟨found, number⟩
  have crcOk : frameCrcOk f = true := (frameCrcOk_iff (bytesOfBits_length (k := 48) length)).2 crc
  have lineOk : w.frameLineOk f = true := by
    rw [hw]
    exact (State.frameLineOk_iff ..).2 ⟨line, own⟩
  have unlocks : w.radio.settled = true := by rw [hw]; exact settled
  have good : w.frameGood = true := by
    unfold State.frameGood
    dsimp only
    rw [taken, correct, crcOk, lineOk, unlocks]
    rfl
  have record : historyAdd w.cfg.wSync w.radio.history (wordCorrect w.radio.expected w.radio.bits) = history := by
    rw [correct, historyAdd_eq, hw]
    rfl
  have tallied : w.tallied = { w.radio with
      history := history, expected := w.radio.expected.map fun k => (k + 1) % 8
      goodFrames := min (w.radio.goodFrames + 1) 4294967295 } := by
    unfold State.tallied Radio.recorded
    dsimp only
    rw [record, taken, correct, crcOk, lineOk]
    exact (Radio.settle_true _).trans (if_pos unlocks)
  have outside : s.radio.sync ≠ .hunt := by rw [locked]; exact nofun
  have received : (s.advance t).receiveBit ((s.clock.advance t).msAt captured) b =
      State.runFramer (4 * bits.length + 3 + 1) w := by
    rw [hw]
    exact State.receiveBit_whole (s := s.advance t) outside (le_of_eq many.symm) _ b
  have run : exec (.frameCompletion t captured [b]) s = .next (State.runFramer (4 * bits.length + 3 + 1) w).finish :=
    congrArg (fun u : State => Host.Outcome.next u.finish) received
  obtain ⟨kept, lost⟩ := State.locked_delivers sync whole good (4 * bits.length + 3)
  rw [record, taken] at kept lost
  have car : w.cfg.carId = s.cfg.carId := by rw [hw]; rfl
  have limit : w.cfg.m = s.cfg.m := by rw [hw]; rfl
  rw [car, limit] at kept lost
  refine ⟨State.delivering f { w with radio := w.tallied }, ?_, fun k => ?_, fun k empty => ?_⟩
  · obtain ⟨n, published⟩ := State.publishRadio_noticed (s := { w with radio := { w.tallied with
      state := .ok, lastGood := some w.clock.localMs, unheard := (byteAt f 2).getLsbD 7 } }) ⟨_, rfl⟩
    have fresh : State.refreshed f { w with radio := w.tallied } = _ := published
    unfold State.delivering State.dropBits
    rw [fresh]
    dsimp only
    rw [Radio.dropBits_whole (by dsimp only; rw [State.tallied_bits]; exact whole), tallied, hw]
    rfl
  · exact run.trans (congrArg (fun u : State => Host.Outcome.next u.finish) (kept (Nat.not_le.2 k)))
  · obtain ⟨route, ring, offset⟩ := lost (not_not.2 (Nat.not_lt.1 k))
    obtain ⟨u, hu⟩ : ∃ u, u = State.runFramer (4 * bits.length + 3 + 1) w := ⟨_, rfl⟩
    have link : u.link = s.link := by
      rw [hu, ← received]
      exact State.receiveBit_link ..
    rw [← hu] at run route ring offset
    have radio := u.grantTransmitter_radio
    refine ⟨u.grantTransmitter, ?_, u.grantTransmitter_route.trans route, (congrArg Radio.ring radio).trans ring,
      (congrArg Radio.offset radio).trans offset⟩
    rw [run, State.finish_empty (by rw [link]; exact empty)]

/-- Settles O43: delivery by a good settled frame, the telegram of a slot, and the effect of each telegram. -/
theorem routeTelegramsAreTaken : Obligations.RouteTelegramsAreTaken := by
  refine ⟨goodFrames_deliver, fun car slot => ?_, ?_⟩
  · rw [decodeSlot_eq, decodeAuthority_eq, decodeSet_eq, decodeHold_eq, decodeNotice_eq]
    rfl
  intro s late line acked
  have clamped (p : Nat) : clampToLine s.lineEnd p = line p := rfl
  have tooLate (e : Option Time) :
      (e.isSome && (s.valleyNow.isNone || expiryReached s.valleyNow e)) = true ↔ late e := expiryLate_iff s e
  have ack (u : State) (id : Nat) (accepted : Bool) (radio : u.radio = s.radio) :
      u.acknowledgeId id accepted = { u with radio := acked id accepted } := by
    rw [State.acknowledgeId_eq, radio]
  refine ⟨rfl, rfl, fun id => ack s id false rfl, fun a => ?_, fun r => ?_, fun id => ⟨fun unknown => ?_, fun known => ?_⟩,
    fun station hold => ⟨?_, fun x => ?_⟩, fun v => ?_, fun text => rfl⟩
  · refine ⟨fun h held same => State.takeAuthority_again held same, fun h held old => State.takeAuthority_older held old,
      fun new => ⟨fun h => ?_, fun h => ?_⟩⟩
    · exact (State.takeAuthority_new (seqClass_new new)).trans (if_pos ((tooLate _).2 h))
    · exact (State.takeAuthority_new (seqClass_new new)).trans (if_neg (mt (tooLate _).1 h))
  · intro u limit known
    have refused : restrictionRefused s.valleyNow (clampRestriction s.lineEnd r) = true ↔
        line r.toPos ≤ r.fromPos ∨ late r.expiry := restrictionRefused_iff s _
    have delivered : u = (s.setRestriction r).2.acknowledgeId r.id (s.setRestriction r).1 := rfl
    refine ⟨fun h => ?_, fun below soon room => ?_, fun below soon unknown full => ?_⟩
    · rw [delivered, State.setRestriction_refused (refused.2 h)]
      exact ack _ _ _ rfl
    · have placed : u = { s.placeRestriction (clampRestriction s.lineEnd r) with radio := acked r.id true } := by
        rw [delivered, State.setRestriction_placed (mt refused.1 (not_or.2 ⟨Nat.not_le.2 below, soon⟩)) room]
        exact ack _ _ _ rfl
      rw [placed]
      refine ⟨rfl, fun x => (mem_insertRestriction ..).trans (or_congr Iff.rfl (mem_withoutId ..))⟩
    · have overflow : u = { s.overflow limit with radio := acked r.id false } := by
        rw [delivered, State.setRestriction_overflow (mt refused.1 (not_or.2 ⟨Nat.not_le.2 below, soon⟩))
          (not_or.2 ⟨unknown, Nat.not_lt.2 full⟩)]
        exact ack _ _ _ rfl
      intro cap
      rw [overflow]
      exact ⟨rfl, fun l q unlatched idle => State.overflow_bodies limit l q unlatched idle⟩
  · exact (congrArg (State.acknowledgeId id true) (State.liftRestriction_unknown unknown)).trans (ack s id true rfl)
  · have lifted : s.deliver (.lift id) = _ :=
      (congrArg (State.acknowledgeId id true) (State.liftRestriction_known known)).trans (ack _ id true rfl)
    rw [lifted, withoutId_eq]
    refine ⟨rfl, fun l => ?_⟩
    exact (congrArg AlertEntry.active (Notice.setActive_entry_self _ _ _ _ l)).trans (AlertEntry.follow_active _ _)
  · rfl
  · cases hold
    · show x ∈ s.route.holds.filter (fun y => y != station) ↔ _
      simp
    · show x ∈ insertStation station s.route.holds ↔ _
      rw [mem_insertStation]
      simp
  · intro u new reached kept jump
    have delivered : u = (s.retimed new).ageRecords := State.takeValleyTime_eq v s
    have test (e : Option Time) : expiryReached (s.retimed new).valleyNow e = reached e := by
      cases e <;> rfl
    have list : (s.retimed new).keptRestrictions = kept := by
      unfold State.keptRestrictions
      simp only [test]
      rfl
    refine ⟨?_, fun l => ⟨fun j => ?_, fun j => ?_⟩⟩
    · have framed := (s.retimed new).ageRecords_framed
      have route := (s.retimed new).ageRecords_route
      unfold State.agedRoute at route
      rw [list] at route
      simp only [test] at route
      rw [← delivered] at framed route
      rw [route] at framed
      exact framed
    · have entry := (s.retimed new).ageRecords_entry_other (k := .valleyTimeJump) (by decide) (by decide)
      rw [← delivered, State.retimed_jump j, Notice.latch_entry_self _ _ _ l] at entry
      exact ⟨congrArg AlertEntry.count entry, congrArg AlertEntry.latched entry⟩
    · have entry := (s.retimed new).ageRecords_entry_other (k := .valleyTimeJump) (by decide) (by decide)
      rw [← delivered, State.retimed_near j] at entry
      exact entry

end Sys2Proof.Machine
end
